-- ==== Sys2Proof/Word.lean ====
section
/-! DEFINITION. The plain data of the model: bytes, 16-bit words and the bank, a fixed number of like records
addressed by number. -/

namespace Sys2Proof

/-- One byte: a sample of sound (R152) or a byte on a port (R186). -/
abbrev Byte := BitVec 8

/-- The register of the frame's cyclic redundancy check (R187). -/
abbrev Word16 := BitVec 16

/-- A fixed number `n` of like records, numbered from 0. -/
structure Bank (n : Nat) (α : Type) where
  rows : List α
  size : rows.length = n
deriving DecidableEq, Repr

/-- A bank whose records are all alike. -/
def Bank.replicate (n : Nat) (x : α) : Bank n α := ⟨List.replicate n x, List.length_replicate⟩

/-- Record `i`, or `d` where the bank has no record of that number. -/
def Bank.read (b : Bank n α) (i : Nat) (d : α) : α := b.rows.getD i d

/-- The bank with record `i` replaced; a number the bank does not have changes nothing. -/
def Bank.put (b : Bank n α) (i : Nat) (x : α) : Bank n α :=
  ⟨b.rows.set i x, by rw [List.length_set]; exact b.size⟩

/-- Every record changed alike. -/
def Bank.map (f : α → β) (b : Bank n α) : Bank n β :=
  ⟨b.rows.map f, by rw [List.length_map]; exact b.size⟩

/-- The bank whose record `i` is `f i`. -/
def Bank.build (n : Nat) (f : Nat → α) : Bank n α :=
  ⟨(List.range n).map f, by rw [List.length_map, List.length_range]⟩

end Sys2Proof
end

