-- ==== Sys2Proof/Syntax.lean ====
section
/-! DEFINITION. The commands of the JN-710: one constructor of Instr for each row of spec/opcode_table.json, with the
operands the row's rule names, and the types those operands are made of. -/

namespace Sys2Proof

/-! ## Ports and the field loop -/

/-- The counting-house port C and the floor-panel port F (chapter 11). -/
inductive Port | c | f
deriving DecidableEq, Repr

/-- The kind a module reports (section 1.1). OTHER keeps the kind code reported at the walk (R3). -/
inductive ModuleKind | detector | call | shutter | bell | audio | other (code : Nat)
deriving DecidableEq, Repr

/-- The condition of a supervised detector line (R6). -/
inductive LineState | normal | alarm | broken | short
deriving DecidableEq, Repr

/-- The condition of a push line (section 1.4); `broken` is the manual's OPEN. -/
inductive PushState | idle | press | attend | broken
deriving DecidableEq, Repr

/-- One sample of a shutter's limits and safety edge. -/
structure ShutterSample where
  up : Bool
  down : Bool
  edge : Bool
deriving DecidableEq, Repr

/-- What a module's reply carries: the kind it reports and a sample of each of its inputs (R3). -/
inductive ModuleReply
  | detector (lines : List LineState)
  | call (lines : List PushState)
  | shutter (gear : List ShutterSample)
  | bell
  | audio (ready : List Bool)
  | other (code : Nat)
deriving DecidableEq, Repr

/-- One sample of each of the three debounced chain pins (R13). -/
structure PinSample where
  flapTop : Bool
  flapBottom : Bool
  slow : Bool
deriving DecidableEq, Repr

/-- What one scan brings in: for each listed module, in loop order, its reply or none where no reply passed the
module message check (R3); the samples of the chain pins (R13); and how many bytes of a sample write in flight reached
the non-volatile memory since the last scan (R22). -/
structure ScanInput where
  replies : List (Option ModuleReply)
  pins : PinSample
  bytesWritten : Nat
deriving DecidableEq, Repr

/-- What a cold start meets: the LINKRATE strap (R186), for each loop position the answers to the enquiries put to it
(R1), and the first scan after the walk (R5). -/
structure ColdStart where
  strapHigh : Bool
  walk : List (List (Option ModuleKind))
  first : ScanInput
deriving DecidableEq, Repr

/-! ## The store plan -/

/-- The run of the shaft a sill stands on (section 2.2). -/
inductive Run | up | down
deriving DecidableEq, Repr

/-- The geometry entry. Times are in the units of section 2.2: `decelTime`, `stallTime` in milliseconds, the others
in seconds. -/
structure Geometry where
  loopLength : Nat
  cars : Nat
  upRun : Nat
  landings : List Nat
  carHeight : Nat
  keepClear : Nat
  decelTime : Nat
  stallTime : Nat
  indexTolerance : Nat
  startWarning : Nat
  sweepLoops : Nat
  holdOff : Nat
  fireWarning : Nat
  nightWarning : Nat
  reRing : Nat
  escalationRings : Nat
  evacRepeat : Nat
  evacScript : Option Nat
deriving DecidableEq, Repr

structure SillEntry where
  present : Bool
  landing : Nat
  run : Run
deriving DecidableEq, Repr

structure ZoneEntry where
  present : Bool
  detectors : List Nat
  neighbours : List Nat
  circuits : List Nat
  channels : List Nat
  landings : List Nat
  namePhrase : Option Nat
deriving DecidableEq, Repr

/-- `descentLimit` and `pause` are in seconds, `retract` in milliseconds. -/
structure ShutterEntry where
  present : Bool
  home : Nat
  sill : Option Nat
  descentLimit : Nat
  retract : Nat
  pause : Nat
deriving DecidableEq, Repr

structure PushEntry where
  present : Bool
  code : Nat
  level : Nat
  circuit : Nat
  escalation : Option Nat
deriving DecidableEq, Repr

structure CircuitEntry where
  present : Bool
  resetMask : Nat
deriving DecidableEq, Repr

structure PhraseEntry where
  start : Nat
  length : Nat
deriving DecidableEq, Repr

/-- One item of a script (section 9.2). -/
inductive Item
  | phrase (p : Nat)
  | zoneName
  | number (base : Nat)
  | silence (ms : Nat)
  | chime
  | again (target : Nat)   -- the manual's REPEAT
deriving DecidableEq, Repr

structure ScriptEntry where
  present : Bool
  items : List Item
deriving DecidableEq, Repr

/-- The kind of a closing step (section 10.1). -/
inductive StepKind | announce | bell | sweep | park | nightClose | mask
deriving DecidableEq, Repr

/-- A closing step; a field its kind does not use is absent. -/
structure StepEntry where
  present : Bool
  offset : Int
  kind : StepKind
  script : Option Nat
  channels : Option (List Nat)
  circuits : Option (List Nat)
  zones : Option (List Nat)
  level : Option Nat
deriving DecidableEq, Repr

/-- The nine tables of the plan, in the order adoption checks them (R25). -/
inductive PlanTable | geometry | sills | zones | shutters | pushes | circuits | phrases | scripts | steps
deriving DecidableEq, Repr

/-- One entry of a table, every field given. -/
inductive PlanEntry
  | geometry (e : Geometry)
  | sill (e : SillEntry)
  | zone (e : ZoneEntry)
  | shutter (e : ShutterEntry)
  | push (e : PushEntry)
  | circuit (e : CircuitEntry)
  | phrase (e : PhraseEntry)
  | script (e : ScriptEntry)
  | step (e : StepEntry)
deriving DecidableEq, Repr

/-- One entry as a PLAN ENTRY frame carries it: the EMPTY entry, a full entry, or an entry one of whose coded fields
(a flag, a run, an item or step kind) holds a code that names none of its values. -/
inductive PlanItem | empty | full (e : PlanEntry) | badCode
deriving DecidableEq, Repr

inductive PlanCopy | pending | active
deriving DecidableEq, Repr

/-! ## Calls, speech and the fields of requests -/

/-- The key of a call (section 7.1). -/
inductive CallKey
  | push (p : Nat)
  | fire (circuit : Nat)
  | programme (step circuit : Nat)
  | host (code circuit : Nat)
deriving DecidableEq, Repr

/-- The classes of a speak request, EVACUATE the highest (section 9.3). -/
inductive SpeakClass | evacuate | closing | general
deriving DecidableEq, Repr

/-- The two players (section 9.5). -/
inductive Player | a | b
deriving DecidableEq, Repr

/-- The body of a request frame: its fields, or a body whose length does not fit the kind (R188, step 3). -/
inductive Body (α : Type)
  | fits (fields : α)
  | misfit
deriving DecidableEq, Repr

/-- A coded field that selects the row: the code the row stands for, or a code that names nothing. -/
inductive RowCode | named | unnamed
deriving DecidableEq, Repr

inductive CallMode | once | untilCleared
deriving DecidableEq, Repr

/-- PLAN OPEN's fields; a table code that names none of the nine tables is `none` (R18). -/
structure PlanOpenFields where
  table : Option PlanTable
  first : Nat
deriving DecidableEq, Repr

/-- PLAN ENTRY's body once divided by the open table's form: whole entries, or a frame that does not divide (R19). -/
inductive EntryFrame | entries (items : List PlanItem) | indivisible
deriving DecidableEq, Repr

structure PlanReadFields where
  copy : Option PlanCopy
  table : Option PlanTable
  index : Nat
deriving DecidableEq, Repr

/-- ZONE READ's selector (R93); `unnamed` is a selector the rule does not list. -/
inductive ZoneSelector | zone (z : Nat) | detectors | demand | unnamed
deriving DecidableEq, Repr

inductive ShutterSelector | one (k : Nat) | all
deriving DecidableEq, Repr

/-- CALL PLACE's fields (R129). -/
structure CallPlaceFields where
  circuit : Nat
  level : Nat
  code : Nat
  mode : Option CallMode
  reRing : Option Nat
deriving DecidableEq, Repr

structure CallMaskFields where
  circuit : Nat
  level : Nat
deriving DecidableEq, Repr

/-- SPEAK's fields (R156); a class code outside the three is `none`. -/
structure SpeakFields where
  script : Nat
  channels : List Nat
  cls : Option SpeakClass
  context : Option Nat
  number : Option Nat
deriving DecidableEq, Repr

/-- The reasons a BUSY reply carries (R188). -/
inductive BusyReason | state | shutter | flap | zone | detector | fire | limits | nightClose
deriving DecidableEq, Repr, Inhabited

/-! ## The commands -/

/-- The commands of the JN-710, in the order of spec/opcode_table.json. A row that is a request of a host carries the
port its frame came on and the body's fields. -/
inductive Instr
  | resetLow (wearTorn : Bool)
  | coldStart (input : ColdStart)
  | scan (input : ScanInput)
  | pushBlankingEnd (p : Nat) (sample : PushState)
  | edgeBlankingEnd (k : Nat) (sample : Bool)
  | linkPulse (phase : Nat)
  | decelPoint (phase : Nat)
  | stopTargetReached (phase : Nat)
  | sweepEnd (phase : Nat)
  | stepRemainderEnd (phase : Nat)
  | missedIndex (phase : Nat)
  | indexPulse
  | chainSettled
  | stall
  | startWarningEnd
  | warningGongToggle
  | sweepGongTimer
  | secondsTick
  | wearWrite
  | reRing (key : CallKey)
  | closingStepDue
  | shutterWarningExpiry (k : Nat)
  | holdOffExpiry (k : Nat)
  | retractExpiry (k : Nat)
  | pauseExpiry (k : Nat)
  | descentLimitExpiry (k : Nat)
  | raiseLimitExpiry (k : Nat)
  | phaseEnd (c : Nat)
  | itemTimerExpiry (pl : Player)
  | phraseEnd (pl : Player)
  | ampWaitExpiry (ch : Nat)
  | ampHoldExpiry (ch : Nat)
  | evacuationRestExpiry
  | frameGapTimeout (p : Port)
  | frameDiscard (p : Port)
  | replySent (p : Port)
  | unknownKind (p : Port) (code : Byte)
  | unitRead (p : Port) (body : Body Unit)
  | zoneRead (p : Port) (body : Body ZoneSelector)
  | shutterRead (p : Port) (body : Body ShutterSelector)
  | chainRead (p : Port) (body : Body Unit)
  | callList (p : Port) (body : Body Nat)
  | speakList (p : Port) (body : Body Unit)
  | closingRead (p : Port) (body : Body Unit)
  | wearRead (p : Port) (body : Body Unit)
  | wearReadClear (p : Port) (body : Body Unit)
  | planRead (p : Port) (body : Body PlanReadFields)
  | noticeFetch (p : Port) (body : Body Unit)
  | planOpen (p : Port) (body : Body PlanOpenFields)
  | planEntry (p : Port) (body : Body EntryFrame)
  | planClose (p : Port) (body : Body Unit)
  | planAdopt (p : Port) (body : Body Unit)
  | storeWriteDone (matched : Bool)
  | planDiscard (p : Port) (body : Body Unit)
  | sampleOpen (p : Port) (body : Body Nat)
  | sampleData (p : Port) (body : Body (List Byte))
  | sampleWriteDone
  | zoneIsolate (p : Port) (body : Body Nat)
  | zoneRestore (p : Port) (body : Body Nat)
  | zoneSilence (p : Port) (body : Body Nat)
  | zoneReset (p : Port) (body : Body Nat)
  | shutterLower (p : Port) (body : Body Nat)
  | shutterRaise (p : Port) (body : Body Nat)
  | shutterHalt (p : Port) (body : Body Nat)
  | chainStart (p : Port) (body : Body Unit)
  | chainStop (p : Port) (body : Body Unit)
  | chainInspectOn (p : Port) (body : Body RowCode)
  | chainInspectOff (p : Port) (body : Body RowCode)
  | chainStep (p : Port) (body : Body Nat)
  | callPlace (p : Port) (body : Body CallPlaceFields)
  | callClear (p : Port) (body : Body (Option CallKey))
  | callMask (p : Port) (body : Body CallMaskFields)
  | circuitRead (p : Port) (body : Body Nat)
  | speak (p : Port) (body : Body SpeakFields)
  | speakCancel (p : Port) (body : Body Nat)
  | closingBegin (p : Port) (body : Body Nat)
  | closingPostpone (p : Port) (body : Body Nat)
  | closingAbort (p : Port) (body : Body Unit)
  | closingResume (p : Port) (body : Body Unit)
  | unitRestart (p : Port) (body : Body Unit)
  | warmRestart
  | frameByte (p : Port) (byte : Byte)
  | powerLoss (wearTorn : Bool)
deriving DecidableEq, Repr

end Sys2Proof
end

