-- ==== Sys2Proof/Config.lean ====
section
/-! DEFINITION. The figures the manual fixes and no plan changes, each with the rule that states it, the one value
the manual leaves open that the model fixes (the contents of sample memory nothing has written), and the free values. -/

namespace Sys2Proof.Config

/-- One scan is taken every 10 ms (R3), and the millisecond timers have this resolution (00_scope.md, Time). -/
def scanMs : Nat := 10
/-- The interval timer counts ticks of 100 µs (section 3.3): this many to a scan. -/
def ticksPerScan : Nat := 100
/-- The longest interval the ring holds (R40). -/
def intervalTop : Nat := 65535
/-- Entries of the interval ring (R40). -/
def ringSize : Nat := 8
/-- Modules on the loop (R1). -/
def modulesMax : Nat := 40
/-- Enquiries put to one loop position (R1). -/
def enquiries : Nat := 3
/-- Missed replies at which a module is lost (R10). -/
def missedLimit : Nat := 3
/-- Debounce figures (R4, R13). -/
def debounceDetector : Nat := 5
def debouncePush : Nat := 3
def debounceContact : Nat := 3
/-- Scans of blanking (R8, R9). -/
def pushBlanking : Nat := 5
def edgeBlanking : Nat := 3
/-- The chain is settled after 1,000 ms at BRAKE without a pulse (R42). -/
def settleMs : Nat := 1000
/-- Half a period of the warning gongs, and one sweep stroke (R54, R68). -/
def gongMs : Nat := 500
/-- One sweep stroke every 5 s (R68). -/
def sweepGongMs : Nat := 5000
/-- The overrun and the 16-bit wear counts stop here (R52, section 3.7). -/
def top16 : Nat := 65535
/-- The 32-bit wear counts stop here (section 3.7). -/
def top32 : Nat := 4294967295
/-- The seconds counter stops here (R192). -/
def secondsTop : Nat := 4294967294
/-- The wear record is written at each whole multiple of this (R47). -/
def wearPeriod : Nat := 60
/-- Records of the call list (R121). -/
def callListSize : Nat := 32
/-- Requests of the speak queue (R157). -/
def speakQueueSize : Nat := 8
/-- Notices of a port's queue (R190). -/
def noticeQueueSize : Nat := 32
/-- Presses are counted up to 15 (R125). -/
def pressTop : Nat := 15
/-- The greatest level of a call that is not a fire call (R125, R136). -/
def levelTop : Nat := 6
/-- The level of fire calls (R131) and of programme calls (R132). -/
def fireLevel : Nat := 7
def programmeLevel : Nat := 5
/-- A number above 60 is taken as 60 (R154, R156). -/
def numberTop : Nat := 60
/-- Phrases of the plan (section 2.2). -/
def phrases : Nat := 128
/-- The built-in tone lasts 1,200 ms (R155). -/
def chimeMs : Nat := 1200
/-- An amplifier has 2,000 ms to become ready (R164) and is held 30,000 ms (R166). -/
def ampWaitMs : Nat := 2000
def ampHoldMs : Nat := 30000
/-- 8,000 samples a second (R152), so this many in a scan. -/
def samplesPerScan : Nat := 80
/-- Sample memory (section 9.1). -/
def sampleMemory : Nat := 1048576
/-- SAMPLE DATA carries at most 192 bytes (R22). -/
def sampleDataMax : Nat := 192
/-- A gap of more than 30 ms ends a frame (R187). -/
def frameGapMs : Nat := 30
/-- The longest body of a frame (R187). -/
def bodyMax : Nat := 200
/-- The bit rates the LINKRATE strap selects (R186). -/
def rateLow : Nat := 19200
def rateHigh : Nat := 57600
/-- DESIGN CHOICE (notes/assumptions/7.md): a byte of sample memory that nothing has written reads as this. -/
def erasedSample : Byte := 0

/-- FREE VALUES (notes/assumptions/12.md): the subject, and the reason, of a BUSY reply whose rule states none, for the
n-th free value a run draws. They have no body, so nothing can be proved of them. -/
opaque freeSubject : Nat → Nat
opaque freeReason : Nat → BusyReason

/-- The lists of names that a field of a frame can carry and for which the manual gives no codes. -/
inductive NameFamily
  | flag | moduleKind | startCause | planState | lineState | zoneState | position | driveOutput | stopPhase
  | chainState | chainSub | emergencyReason | shutterState | closeCause | jamReason | sillAnswer | carRun | haltReason
  | dropReason | removeReason | pushLine | speakClass | origin | abandonReason | ampReason | playerPhase | player
  | readiness | evacState | programmeState | programmeReason | stepKind | skipReason | mark | circuitState | ringDigit
  | ringPhase | planTable | planCopy | entryForm | run | itemKind | condition | selector | rowCode | callMode | entered
deriving DecidableEq, Repr

/-- FREE VALUE (notes/assumptions/11.md): the code of the n-th name of a list. It has no body, so nothing can be proved
of it. -/
opaque nameCode : NameFamily → Nat → Byte

end Sys2Proof.Config
end

