-- ==== Sys2Proof/Machine/Plan.lean ====
section
/-! DEFINITION. The nine tables of the store plan as one record, the empty plan, and the EMPTY entry of each table
(chapter 2, section 2.2, R16, R32). -/

namespace Sys2Proof.Machine
open Sys2Proof

/-- One copy of the plan: its nine tables (section 2.2). -/
structure Plan where
  geometry : Geometry
  sills : Bank 16 SillEntry
  zones : Bank 16 ZoneEntry
  shutters : Bank 32 ShutterEntry
  pushes : Bank 64 PushEntry
  circuits : Bank 16 CircuitEntry
  phrases : Bank 128 PhraseEntry
  scripts : Bank 32 ScriptEntry
  steps : Bank 24 StepEntry
deriving DecidableEq, Repr

/-- The empty plan's column of the geometry table. -/
def emptyGeometry : Geometry where
  loopLength := 64
  cars := 4
  upRun := 24
  landings := [4, 20]
  carHeight := 10
  keepClear := 2
  decelTime := 800
  stallTime := 1500
  indexTolerance := 2
  startWarning := 10
  sweepLoops := 2
  holdOff := 60
  fireWarning := 5
  nightWarning := 20
  reRing := 60
  escalationRings := 3
  evacRepeat := 30
  evacScript := none

/-! What the EMPTY entry writes (R16): present cleared, lists empty, optional fields absent, numbers at the low end of
their ranges. -/

/-- DESIGN CHOICE (notes/assumptions/45.md): a sill's run is neither number, list nor optional field, R16 gives no value
for it, and the EMPTY entry writes UP; the run of an entry that is not present is read nowhere. -/
def emptySill : SillEntry := ⟨false, 0, .up⟩
def emptyZone : ZoneEntry := ⟨false, [], [], [], [], [], none⟩
def emptyShutter : ShutterEntry := ⟨false, 0, none, 5, 500, 2⟩
def emptyPush : PushEntry := ⟨false, 1, 1, 0, none⟩
def emptyCircuit : CircuitEntry := ⟨false, 0⟩
def emptyPhrase : PhraseEntry := ⟨0, 0⟩
def emptyScript : ScriptEntry := ⟨false, []⟩
/-- DESIGN CHOICE (notes/assumptions/45.md): a step's kind is neither number, list nor optional field, R16 gives no value
for it, and the EMPTY entry writes ANNOUNCE with its script, sets and level absent; the kind of an entry that is not present
is read nowhere. -/
def emptyStep : StepEntry := ⟨false, -7200, .announce, none, none, none, none, none⟩

/-- The empty plan (R32). -/
def emptyPlan : Plan where
  geometry := emptyGeometry
  sills := Bank.replicate 16 emptySill
  zones := Bank.replicate 16 emptyZone
  shutters := Bank.replicate 32 emptyShutter
  pushes := Bank.replicate 64 emptyPush
  circuits := Bank.replicate 16 emptyCircuit
  phrases := Bank.replicate 128 emptyPhrase
  scripts := Bank.replicate 32 emptyScript
  steps := Bank.replicate 24 emptyStep

/-- The pitch P = L/N. -/
def Plan.pitch (p : Plan) : Nat := p.geometry.loopLength / p.geometry.cars

def Plan.sill (p : Plan) (i : Nat) : SillEntry := p.sills.read i emptySill
def Plan.zone (p : Plan) (i : Nat) : ZoneEntry := p.zones.read i emptyZone
def Plan.shutter (p : Plan) (i : Nat) : ShutterEntry := p.shutters.read i emptyShutter
def Plan.push (p : Plan) (i : Nat) : PushEntry := p.pushes.read i emptyPush
def Plan.circuit (p : Plan) (i : Nat) : CircuitEntry := p.circuits.read i emptyCircuit
def Plan.phrase (p : Plan) (i : Nat) : PhraseEntry := p.phrases.read i emptyPhrase
def Plan.script (p : Plan) (i : Nat) : ScriptEntry := p.scripts.read i emptyScript
def Plan.step (p : Plan) (i : Nat) : StepEntry := p.steps.read i emptyStep

/-- How many entries a table holds (section 2.2). -/
def tableSize : PlanTable → Nat
  | .geometry => 1
  | .sills => 16
  | .zones => 16
  | .shutters => 32
  | .pushes => 64
  | .circuits => 16
  | .phrases => 128
  | .scripts => 32
  | .steps => 24

/-- The sill a present shutter names: the shutter is then a sill shutter, otherwise a plain one (R98). -/
def Plan.sillOf (p : Plan) (k : Nat) : Option Nat :=
  if (p.shutter k).present then (p.shutter k).sill else none

end Sys2Proof.Machine
end

