-- ==== Sys2Proof/Machine/Records.lean ====
section
/-! DEFINITION. The records the twelve blocks hold (00_scope.md, Functional blocks), the typed notices and replies, and
the value each record has at a cold start before the first scan's samples are handed over. -/

namespace Sys2Proof.Machine
open Sys2Proof

/-! ## Field Scanner (chapter 1) -/

/-- One record of the module list; its loop position is its place in the list (section 1.1). -/
structure ModuleRecord where
  kind : ModuleKind
  present : Bool
  missed : Nat
  first : Option Nat
deriving DecidableEq, Repr

/-- A debounced input: the state owners see, the candidate and the run count (section 1.3). -/
structure Debounced (α : Type) where
  value : α
  candidate : α
  run : Nat
deriving DecidableEq, Repr

/-- A push line. `blank` is none when the line is not blanked, `some n` with n scans of blanking still to come, and
`some 0` when the fifth scan has passed and the first sample after blanking is awaited (R8). -/
structure PushInput where
  line : Debounced PushState
  blank : Option Nat
deriving DecidableEq, Repr

/-- A shutter's limits and edge; `blank` is the EDGE's blanking, read as a push line's (R9). -/
structure GearInput where
  up : Debounced Bool
  down : Debounced Bool
  edge : Debounced Bool
  blank : Option Nat
deriving DecidableEq, Repr

/-- A shutter's four outputs as a message carries them. -/
structure GearOutputs where
  release : Bool
  brake : Bool
  wind : Bool
  warn : Bool
deriving DecidableEq, Repr

/-- A channel's three outputs as a message carries them. -/
structure ChannelOutputs where
  on : Bool
  selA : Bool
  selB : Bool
deriving DecidableEq, Repr

/-- The message of one scan to one module: the outputs of its points, in their order (R2, R3, R12). -/
inductive ModuleMessage
  | detector
  | call (indicators : List Bool)
  | shutter (gear : List GearOutputs)
  | bell (sounders gongs : List Bool)
  | audio (channels : List ChannelOutputs)
  | other
deriving DecidableEq, Repr

/-- `sent` holds, by loop position, the last message that went out to the module there: what the module has seen of the
output image (R3, R12). -/
structure FieldLoop where
  modules : List ModuleRecord
  sent : Bank 40 (Option ModuleMessage)
  detectors : Bank 48 (Debounced LineState)
  pushes : Bank 64 PushInput
  gear : Bank 32 GearInput
  ready : Bank 8 (Debounced Bool)
  flapTop : Debounced Bool
  flapBottom : Debounced Bool
  slow : Debounced Bool
deriving DecidableEq, Repr

/-- The output image: one value for every output point (R12); a point no module carries stays de-asserted. -/
structure Image where
  indicators : Bank 64 Bool
  release : Bank 32 Bool
  brake : Bank 32 Bool
  wind : Bank 32 Bool
  warn : Bank 32 Bool
  sounders : Bank 16 Bool
  gongs : Bank 8 Bool
  on : Bank 8 Bool
  selA : Bank 8 Bool
  selB : Bank 8 Bool
deriving DecidableEq, Repr

/-! ## Plan Store (chapter 2) -/

/-- The load cursor (section 2.3). -/
inductive Cursor
  | closed
  | table (t : PlanTable) (index : Nat)
  | sample (phrase start length pointer : Nat)
deriving DecidableEq, Repr

/-- `storeWriting` is set from an accepted PLAN ADOPT to the end of the store write (R30); `sampleWrite` holds the
bytes of a SAMPLE DATA not yet in sample memory (R22); `storeGood` says whether the store's checksum was valid when the
store was last read or written (R33). -/
structure PlanStore where
  active : Plan
  fullClear : List Nat
  pending : Plan
  cursor : Cursor
  storeWriting : Bool
  sampleWrite : Option (List Byte)
  storeGood : Bool
deriving DecidableEq, Repr

/-! ## Chain Monitor (chapter 3) -/

inductive Position | unknown | suspect | valid
deriving DecidableEq, Repr

inductive SillAnswer | clear | notClear | unknown | notASill
deriving DecidableEq, Repr

/-- The wear counts (section 3.7). -/
structure WearCounts where
  links : Nat
  index : Nat
  emergencyStops : Nat
  closures : Bank 32 Nat
  obstructions : Bank 32 Nat
deriving DecidableEq, Repr

/-- `intervalTimer` is the interval timer's reading, in ticks of 100 µs, at the last scan instant; a pulse that starts
it in the midst of a scan period leaves the negative of the ticks already passed (R40). -/
structure ChainMonitor where
  count : Nat
  position : Position
  watchArmed : Bool
  lastError : Option Int
  ring : List Nat
  intervalTimer : Option Int
  speed : Nat
  settleTimer : Option Nat
  settled : Bool
  answers : Bank 16 SillAnswer
  wear : WearCounts
deriving DecidableEq, Repr

/-! ## Chain Drive Controller (chapter 4) -/

inductive DriveOutput | run | reduced | creep | brake
deriving DecidableEq, Repr

inductive StopCause | host | park | sweepEnd | fire
deriving DecidableEq, Repr

inductive StopPhase | approach | creeping | braked
deriving DecidableEq, Repr

inductive HeldCause | fire | flap | restart | hostEmergency
deriving DecidableEq, Repr

inductive InspectState | idle | creeping | braked
deriving DecidableEq, Repr

/-- The seven chain states with what they carry in parentheses (section 4.1). -/
inductive ChainState
  | parked
  | warning
  | running
  | stopping (cause : StopCause) (phase : StopPhase)
  | held (cause : HeldCause)
  | inspection (sub : InspectState)
  | fault
deriving DecidableEq, Repr

/-- The stop record; its cause stands in the state STOPPING. -/
structure StopRecord where
  linksToGo : Nat
  decel : Nat
  target : Nat
  overrun : Nat
deriving DecidableEq, Repr

structure ChainDrive where
  state : ChainState
  drive : DriveOutput
  stop : Option StopRecord
  deferred : Option StopCause
  sweep : Option Nat
  carriedLoops : Option Nat
  step : Option Nat
  warnTimer : Option Nat
  stallTimer : Option Nat
  gongTimer : Option Nat
  gongsOn : Bool
  flapTop : Bool
  flapBottom : Bool
  slow : Bool
deriving DecidableEq, Repr

/-! ## Zone Monitor (chapter 5) -/

inductive ZoneState | normal | fault | alarm | isolated
deriving DecidableEq, Repr

structure ZoneRecord where
  present : Bool
  state : ZoneState
  silenced : Bool
  firstAlarm : Option Nat
  alarmSecond : Option Nat
deriving DecidableEq, Repr

/-- The fire demand (section 5.3): a view computed from the zones, not a store of its own. -/
structure Demand where
  shutters : List Nat
  landings : List Nat
  circuits : List Nat
  channels : List Nat
  context : Option Nat
  lowestAlarm : Option Nat
deriving DecidableEq, Repr

/-! ## Shutter Controller (chapter 6) -/

/-- `opened` is the manual's OPEN. -/
inductive ShutterState
  | opened | armed | descending | lifting | paused | closed | halted | raising | unplaced | jammed
deriving DecidableEq, Repr

inductive CloseCause | noCause | night | host | fire
deriving DecidableEq, Repr

inductive JamReason | travel | raise | limits
deriving DecidableEq, Repr

/-- `warnNight` says which warning the running warning timer was begun for: an upgrade to FIRE in ARMED leaves it
running to the night warning (R102). -/
structure ShutterRecord where
  state : ShutterState
  cause : CloseCause
  uncleared : Bool
  forced : Bool
  obstructions : Nat
  waitingPosted : Bool
  jam : Option JamReason
  warnTimer : Option Nat
  warnNight : Bool
  holdTimer : Option Nat
  travelTimer : Option Nat
  phaseTimer : Option Nat
deriving DecidableEq, Repr

/-- The records, and the shutter set, chain state and sill answers as last handed to the Shutter Controller. -/
structure ShutterGear where
  records : Bank 32 ShutterRecord
  fireSet : List Nat
  chainCopy : ChainState
  answerCopy : Bank 16 SillAnswer
deriving DecidableEq, Repr

/-! ## Call Queue and Ring Sequencer (chapters 7 and 8) -/

inductive Pattern | coded (code : Nat) | fire | closing
deriving DecidableEq, Repr

inductive CallState | waiting | ringing | resting
deriving DecidableEq, Repr

/-- A call record; its source is read from its key (section 7.1). -/
structure CallRecord where
  key : CallKey
  circuit : Nat
  level : Nat
  pattern : Pattern
  needsAck : Bool
  state : CallState
  rings : Nat
  presses : Nat
  reRing : Option Nat
  nextRing : Option Nat
  arrival : Nat
deriving DecidableEq, Repr

/-- The code or step that the notices of a call carry: the step of a PROGRAMME call, the code of a call of pattern CODED;
a fire call has neither (R122). -/
def CallRecord.number (r : CallRecord) : Option Nat :=
  match r.key, r.pattern with
  | .programme step _, _ => some step
  | _, .coded code => some code
  | _, _ => none

/-- Where a ring stands in its pattern (section 8.1). -/
inductive RingPlace
  | digit (tens : Bool) (stroke : Nat)
  | group (group stroke : Nat)
  | fire
deriving DecidableEq, Repr

inductive RingPhase | on | off | gap
deriving DecidableEq, Repr

/-- What a RINGING circuit holds. -/
structure Ring where
  key : CallKey
  pattern : Pattern
  place : RingPlace
  phase : RingPhase
  timer : Nat
deriving DecidableEq, Repr

/-- A circuit: IDLE is `ring = none`. -/
structure CircuitRecord where
  ring : Option Ring
  mask : Nat
  pendingMask : Option Nat
deriving DecidableEq, Repr

/-! ## Speech Controller (chapter 9) -/

inductive Origin | portC | portF | programme (step : Nat) | fireDemand
deriving DecidableEq, Repr

structure SpeakRequest where
  tag : Nat
  script : Nat
  channels : List Nat
  cls : SpeakClass
  context : Option Nat
  number : Option Nat
  origin : Origin
  arrival : Nat
deriving DecidableEq, Repr

inductive PlayerPhase | idle | warming | playing
deriving DecidableEq, Repr

/-- A player's context. Its held channels are the channels whose holder it is. `missingPosted` remembers that PHRASE
MISSING was posted in this play (R154); `sound` is what the player put out in the last scan period, and `spare` how many
more samples that period holds, for the item that follows a phrase without a pause (R152, R153). -/
structure PlayerContext where
  phase : PlayerPhase
  request : Option SpeakRequest
  sequence : Nat
  item : Option Nat
  taken : List Nat
  pointer : Option Nat
  remaining : Option Nat
  itemTimer : Option Nat
  dropped : List Nat
  missingPosted : Bool
  sound : List Byte
  spare : Nat
deriving DecidableEq, Repr

inductive Readiness | awaiting | ready
deriving DecidableEq, Repr

structure Channel where
  on : Bool
  holder : Option Player
  readiness : Option Readiness
  waitTimer : Option Nat
  routing : Option Player
  holdTimer : Option Nat
deriving DecidableEq, Repr

inductive EvacState | inactive | playing | resting | unscripted
deriving DecidableEq, Repr

structure Evacuation where
  state : EvacState
  channels : List Nat
  context : Option Nat
  restTimer : Option Nat
deriving DecidableEq, Repr

structure Speech where
  playerA : PlayerContext
  playerB : PlayerContext
  queue : List SpeakRequest
  evac : Evacuation
  channels : Bank 8 Channel
  nextTag : Nat
  nextSequence : Nat
deriving DecidableEq, Repr

/-! ## Closing Sequencer (chapter 10) -/

inductive ProgrammeState | idle | running | suspended
deriving DecidableEq, Repr

inductive Mark | pending | executed | skipped
deriving DecidableEq, Repr

structure Closing where
  state : ProgrammeState
  closeInstant : Option Nat
  pointer : Option Nat
  marks : Bank 24 (Option Mark)
deriving DecidableEq, Repr

/-! ## Notices (section 11.4) -/

inductive StartCause | cold | warm
deriving DecidableEq, Repr

inductive EmergencyReason | fire | flap | stall | shutter
deriving DecidableEq, Repr

inductive HaltReason | obstruction | host
deriving DecidableEq, Repr

inductive DropReason | displaced | full
deriving DecidableEq, Repr

inductive RemoveReason | attend | clear | fireDemand | programme | completed
deriving DecidableEq, Repr

inductive AbandonReason | preempted | cancelled | amplifier | demand | programme
deriving DecidableEq, Repr

inductive AmpReason | timeout | lost
deriving DecidableEq, Repr

inductive ProgrammeReason | begin | postpone | abort | fire | resume
deriving DecidableEq, Repr

/-- What PROGRAMME STEP's detail tells of a step by its kind (R173 to R177). -/
inductive StepResult
  | tag (t : Nat)
  | calls (n : Nat)
  | chain (st : ChainState)
  | requests (n : Nat)
  | level (n : Nat)
deriving DecidableEq, Repr

/-- Why a step was skipped; CHAIN carries the chain state answered (R175). -/
inductive SkipReason | late | chain (st : ChainState)
deriving DecidableEq, Repr

/-- What a notice says: its kind with its subject and detail, as the chapter that posts it states them. The `number` of
the call notices is the call's code or step (R122). -/
inductive Note
  | started (cause : StartCause) (loaded : Bool)
  | moduleLost (position : Nat) (kind : ModuleKind)
  | moduleFound (position : Nat) (kind : ModuleKind)
  | planAdopted (stored : Bool)
  | positionValid (e : Int)
  | resync (e : Int)
  | positionSuspect (e : Int)
  | positionLost (detail : Nat)
  | chainDrift (count : Nat)
  | wearSaturated (which : Nat)
  | wearLost
  | chainState (st : ChainState)
  | chainOverrun (overrun notClear : Nat)
  | stopDeferred (cause : StopCause)
  | chainEmergency (reason : EmergencyReason) (index : Nat) (left : DriveOutput)
  | flapChange (bottom : Bool) (tripped : Bool)
  | stepDone (count : Nat) (position : Position)
  | zoneState (z : Nat) (st : ZoneState) (silenced : Bool) (firstAlarm : Option Nat)
  | zoneAlarm (z : Nat) (detector : Nat)
  | shutterState (k : Nat) (st : ShutterState) (cause : CloseCause) (uncleared forced : Bool) (obstructions : Nat)
  | shutterWaiting (k : Nat) (answer : SillAnswer) (chain : ChainState)
  | shutterUncleared (k : Nat) (answer : SillAnswer) (chain : ChainState)
  | shutterObstructed (k : Nat) (count : Nat) (cause : CloseCause)
  | shutterForced (k : Nat)
  | shutterHalted (k : Nat) (reason : HaltReason)
  | callEntered (key : CallKey) (number : Option Nat) (circuit level place : Nat) (replaced : Bool)
  | callDropped (key : CallKey) (number : Option Nat) (circuit level : Nat) (place : Option Nat) (reason : DropReason)
  | callPressed (p : Nat) (presses level : Nat) (st : CallState)
  | callRemoved (key : CallKey) (number : Option Nat) (circuit level place : Nat) (reason : RemoveReason)
  | callRung (key : CallKey) (circuit rings level : Nat) (st : Option CallState)
  | callEscalated (key : CallKey) (level newCircuit oldCircuit : Nat)
  | pushLine (p : Nat) (broken : Bool)
  | circuitMask (c : Nat) (new old : Nat)
  | phraseMissing (tag phrase item : Nat)
  | speakDropped (tag : Nat) (cls : SpeakClass) (origin : Origin) (reason : DropReason)
  | speakAbandoned (tag : Nat) (cls : SpeakClass) (origin : Origin) (reason : AbandonReason) (item : Option Nat)
  | speakDone (tag : Nat) (cls : SpeakClass) (origin : Origin)
  | ampNotReady (ch tag : Nat) (reason : AmpReason)
  | programmeState (st : ProgrammeState) (close : Option Nat) (reason : ProgrammeReason)
  | programmeStep (step : Nat) (kind : StepKind) (result : StepResult)
  | stepSkipped (step : Nat) (kind : StepKind) (reason : SkipReason)
  | programmeDone (executed skipped : Nat)
deriving DecidableEq, Repr

/-- A notice record: what it says, the seconds stamp and its lost flag (section 11.4). -/
structure Notice where
  note : Note
  stamp : Nat
  lost : Bool
deriving DecidableEq, Repr

/-! ## Replies (sections 11.3 and 11.6, and each read's rule) -/

/-- The quiescence conditions of R28. -/
inductive Condition | zones | programme | shutters | chain | speech
deriving DecidableEq, Repr

/-- The results of R188 with the fields that go with a refusal. -/
inductive Result
  | done
  | empty
  | notPermitted
  | unknownKind
  | badLength
  | badValue
  | noSuch
  | busy (reason : BusyReason) (subject : Nat)
  | full
  | notQuiescent (condition : Condition) (index : Nat)
  | noParkResidue
  | planCheck (table : PlanTable) (index : Nat)
deriving DecidableEq, Repr

structure PortReadout where
  queued : Nat
  lost : Bool
deriving DecidableEq, Repr

/-- UNIT READ (R192); the module list is given with each record's loop position. -/
structure UnitReadout where
  seconds : Nat
  cause : StartCause
  loaded : Bool
  bitRate : Nat
  portC : PortReadout
  portF : PortReadout
  modules : List (Nat × ModuleRecord)
deriving DecidableEq, Repr

structure ZoneReadout where
  record : ZoneRecord
  detectors : List (Nat × LineState)
deriving DecidableEq, Repr

/-- One detector of ZONE READ DETECTORS: UNNUMBERED is `line = none` (R93). -/
structure DetectorReadout where
  line : Option LineState
  zone : Option Nat
deriving DecidableEq, Repr

/-- SHUTTER READ of one shutter (R119). -/
structure ShutterReadout where
  present : Bool
  home : Nat
  sill : Option Nat
  record : ShutterRecord
  up : Bool
  down : Bool
  edge : Bool
  edgeBlanked : Bool
  release : Bool
  brake : Bool
  wind : Bool
  warn : Bool
  inFireSet : Bool
  answer : Option SillAnswer
deriving DecidableEq, Repr

structure ShutterSummary where
  present : Bool
  state : ShutterState
  cause : CloseCause
deriving DecidableEq, Repr

/-- The run a car's floor stands in (section 3.1). -/
inductive CarRun | up | topTurn | down | bottomTurn
deriving DecidableEq, Repr

structure CarReadout where
  floor : Nat
  run : CarRun
deriving DecidableEq, Repr

/-- CHAIN READ (R45, R74). -/
structure ChainReadout where
  state : ChainState
  drive : DriveOutput
  stop : Option StopRecord
  deferred : Option StopCause
  sweep : Option Nat
  carriedLoops : Option Nat
  step : Option Nat
  warningLeft : Option Nat
  flapTop : Bool
  flapBottom : Bool
  slow : Bool
  count : Nat
  position : Position
  speed : Nat
  ringEntries : Nat
  settled : Bool
  lastError : Option Int
  answers : Bank 16 SillAnswer
  cars : Option (List CarReadout)
deriving DecidableEq, Repr

/-- The request a player holds, with the fields SPEAK LIST returns of it (R169). -/
structure HeldRequest where
  tag : Nat
  cls : SpeakClass
  origin : Origin
  script : Nat
  channels : List Nat
  context : Option Nat
  number : Option Nat
deriving DecidableEq, Repr

/-- A player as SPEAK LIST shows it (R169). -/
structure PlayerReadout where
  phase : PlayerPhase
  request : Option HeldRequest
  item : Option Nat
  remaining : Option Nat
  itemTimer : Option Nat
  held : List (Nat × Option Readiness)
deriving DecidableEq, Repr

structure ChannelReadout where
  on : Bool
  ready : Bool
  holder : Option Player
  routing : Option Player
  waitTimer : Option Nat
  holdTimer : Option Nat
deriving DecidableEq, Repr

structure EvacReadout where
  state : EvacState
  channels : List Nat
  context : Option Nat
  script : Option Nat
  restLeft : Option Nat
deriving DecidableEq, Repr

structure SpeakReadout where
  playerA : PlayerReadout
  playerB : PlayerReadout
  evac : EvacReadout
  queue : List SpeakRequest
  channels : List ChannelReadout
deriving DecidableEq, Repr

structure StepReadout where
  mark : Option Mark
  due : Option Int
deriving DecidableEq, Repr

/-- CLOSING READ (R184). -/
structure ClosingReadout where
  state : ProgrammeState
  seconds : Nat
  close : Option Nat
  left : Option Int
  pointer : Option Nat
  steps : List StepReadout
deriving DecidableEq, Repr

structure CircuitReadout where
  record : CircuitRecord
deriving DecidableEq, Repr

/-- The fields that follow the result, as the request's rule gives them. -/
inductive Fields
  | none
  | unit (r : UnitReadout)
  | zone (r : ZoneReadout)
  | detectors (r : List DetectorReadout)
  | demand (r : Demand)
  | shutter (r : ShutterReadout)
  | shutters (r : List ShutterSummary)
  | chain (r : ChainReadout)
  | calls (total : Nat) (entries : List (Nat × CallRecord))
  | speak (r : SpeakReadout)
  | closing (r : ClosingReadout)
  | wear (r : WearCounts)
  | plan (entry : PlanItem) (residues : Option Nat)
  | notice (n : Notice)
  | index (i : Nat)
  | stored (flag : Bool)
  | pointer (offset : Nat)
  | shutterState (st : ShutterState)
  | place (replaced : Bool) (p : Nat)
  | tag (t : Nat) (place : Option Nat)
  | masks (mask : Nat) (pendingMask : Option Nat)
  | circuit (r : CircuitRecord)
  | closeInstant (t : Nat)
deriving DecidableEq, Repr

/-- A reply: the kind code it is sent with, its result and the fields after it (R188). -/
structure Reply where
  kind : Nat
  result : Result
  fields : Fields
deriving DecidableEq, Repr

/-! ## Link Ports (chapter 11) -/

/-- RECEIVING holds the bytes of the frame after its lead byte. -/
inductive Receiver | hunting | receiving (bytes : List Byte)
deriving DecidableEq, Repr

/-- `gap` is the milliseconds since the last byte of a frame being received (R187); `reply` is the reply that waits to
be sent, absent while its request is still at work (R22, R30). -/
structure PortRecord where
  receiver : Receiver
  gap : Nat
  replyPending : Bool
  reply : Option Reply
  notices : List Notice
  lost : Bool
  attention : Bool
deriving DecidableEq, Repr

/-! ## The part as it runs, and what it keeps without supply -/

/-- A wear record with its sequence number (R47). -/
structure WearRecord where
  counts : WearCounts
  sequence : Nat
deriving DecidableEq, Repr

/-- The non-volatile plan store and the two places of the wear record. `valid` is whether the checksum matches the
contents; a place whose check is not valid is `none`; `lastIsB` tells which place was written last (R31, R47). -/
structure NonVolatile where
  plan : Plan
  fullClear : List Nat
  valid : Bool
  wearA : Option WearRecord
  wearB : Option WearRecord
  lastIsB : Bool
deriving DecidableEq, Repr

/-- Everything the running part holds apart from its non-volatile memories. `restart` is set between UNIT RESTART and
the warm restart (R193); `wearDue` from a whole multiple of 60 s to the write it calls for (R47).
`free` is the MODEL's own: how many free values the run has drawn (notes/assumptions/12.md). -/
structure Live where
  seconds : Nat
  startCause : StartCause
  rateIsHigh : Bool
  restart : Bool
  wearDue : Bool
  free : Nat
  loop : FieldLoop
  image : Image
  store : PlanStore
  monitor : ChainMonitor
  chain : ChainDrive
  zones : Bank 16 ZoneRecord
  gear : ShutterGear
  calls : List CallRecord
  circuits : Bank 16 CircuitRecord
  speech : Speech
  closing : Closing
  portC : PortRecord
  portF : PortRecord
deriving DecidableEq, Repr

/-- Whether the part is supplied and out of reset (R14, R31). -/
inductive Power | on | resetLow | off
deriving DecidableEq, Repr

/-! ## Values at a cold start -/

/-- An input at rest on one value. -/
def Debounced.still (x : α) : Debounced α := ⟨x, x, 0⟩

/-- Every input as a module that gave no reply starts it (R5), which is also how a point no module carries reads. -/
def FieldLoop.blank : FieldLoop where
  modules := []
  sent := Bank.replicate 40 none
  detectors := Bank.replicate 48 (.still .broken)
  pushes := Bank.replicate 64 ⟨.still .idle, none⟩
  gear := Bank.replicate 32 ⟨.still false, .still false, .still false, none⟩
  ready := Bank.replicate 8 (.still false)
  flapTop := .still false
  flapBottom := .still false
  slow := .still false

/-- Every output de-asserted (R12). -/
def Image.blank : Image where
  indicators := Bank.replicate 64 false
  release := Bank.replicate 32 false
  brake := Bank.replicate 32 false
  wind := Bank.replicate 32 false
  warn := Bank.replicate 32 false
  sounders := Bank.replicate 16 false
  gongs := Bank.replicate 8 false
  on := Bank.replicate 8 false
  selA := Bank.replicate 8 false
  selB := Bank.replicate 8 false

def WearCounts.zero : WearCounts := ⟨0, 0, 0, Bank.replicate 32 0, Bank.replicate 32 0⟩

/-- The Chain Monitor at a cold start under plan `p` with wear counts `w` (R49). -/
def ChainMonitor.start (p : Plan) (w : WearCounts) : ChainMonitor where
  count := 0
  position := .unknown
  watchArmed := false
  lastError := none
  ring := []
  intervalTimer := none
  speed := 0
  settleTimer := some 0
  settled := false
  answers := Bank.build 16 fun i => if (p.sill i).present then .unknown else .notASill
  wear := w

/-- The Chain Drive Controller at a cold start (R75). -/
def ChainDrive.start : ChainDrive where
  state := .parked
  drive := .brake
  stop := none
  deferred := none
  sweep := none
  carriedLoops := none
  step := none
  warnTimer := none
  stallTimer := none
  gongTimer := none
  gongsOn := false
  flapTop := false
  flapBottom := false
  slow := false

/-- A zone that is not present, or stands at rest (section 5.1). -/
def ZoneRecord.start (present : Bool) : ZoneRecord := ⟨present, .normal, false, none, none⟩

/-- A shutter record as R97 derives it, in the given state. -/
def ShutterRecord.start (st : ShutterState) (jam : Option JamReason) : ShutterRecord where
  state := st
  cause := .noCause
  uncleared := false
  forced := false
  obstructions := 0
  waitingPosted := false
  jam := jam
  warnTimer := none
  warnNight := false
  holdTimer := none
  travelTimer := none
  phaseTimer := none

/-- The Shutter Controller at a cold start before any limit is handed to it (R97). -/
def ShutterGear.start : ShutterGear where
  records := Bank.replicate 32 (.start .unplaced none)
  fireSet := []
  chainCopy := .parked
  answerCopy := Bank.replicate 16 .unknown

/-- Circuits at a cold start: IDLE under the plan's reset masks (R151). -/
def startCircuits (p : Plan) : Bank 16 CircuitRecord :=
  Bank.build 16 fun i => ⟨none, if (p.circuit i).present then (p.circuit i).resetMask else 0, none⟩

def PlayerContext.rest : PlayerContext := ⟨.idle, none, 0, none, [], none, none, none, [], false, [], 0⟩

def Channel.rest : Channel := ⟨false, none, none, none, none, none⟩

/-- The Speech Controller at a cold start (R170). -/
def Speech.start : Speech where
  playerA := .rest
  playerB := .rest
  queue := []
  evac := ⟨.inactive, [], none, none⟩
  channels := Bank.replicate 8 .rest
  nextTag := 1
  nextSequence := 1

/-- The Closing Sequencer at a reset of either kind (R185). -/
def Closing.start : Closing := ⟨.idle, none, none, Bank.replicate 24 none⟩

/-- A port at a reset of either kind (R186). -/
def PortRecord.start : PortRecord := ⟨.hunting, 0, false, none, [], false, false⟩

/-- Non-volatile memories that hold nothing valid. -/
def NonVolatile.blank : NonVolatile := ⟨emptyPlan, [], false, none, none, false⟩

/-- The full-clear residue set of the empty plan: all residues of its pitch (R32). -/
def emptyFullClear : List Nat := List.range 16

end Sys2Proof.Machine
end

