-- ==== Sys2Proof/Machine/State.lean ====
section
/-! DEFINITION. The state of the JN-710, its fault and refusal reasons, and the state right after reset. -/

namespace Sys2Proof.Machine
open Sys2Proof

/-- Why a step faults. -/
inductive Fault
  /-- Raised by SCAN, PHRASE_END and SAMPLE_WRITE_DONE where the part would read or write a sample at an address
  beyond the 1,048,576 bytes of sample memory (section 9.1). Safe: adoption refuses such a phrase (R26), so a part whose
  plan was adopted never comes to it. -/
  | sampleAddress
deriving DecidableEq, Repr

/-- Why a step is refused. -/
inductive Refusal
  /-- Raised by exec's arm of a command that has no meaning yet. Safe: the model stops where the part goes on. -/
  | notModelled (mnemonic : String)
deriving DecidableEq, Repr

/-- The whole machine: the commands that wait, first in first out; whether it is supplied and out of reset; the
non-volatile sample memory, plan store and wear records; and the running part. -/
structure State where
  pending : List Instr
  power : Power
  samples : List Host.Cell
  nv : NonVolatile
  live : Live
deriving DecidableEq, Repr

/-- The outcome type of every meaning. -/
abbrev Out := Host.Outcome State Fault Refusal

/-- What the queues of a part hold after a cold start on an empty loop with no valid non-volatile memory: STARTED, WEAR
LOST and the SHUTTER STATE of shutters 0 to 29; those of shutters 30 and 31 found the queue full (R97, R190, R193). -/
def resetNotices : List Notice :=
  ⟨.started .cold false, 0, false⟩ :: ⟨.wearLost, 0, false⟩ ::
    (List.range 30).map fun k => ⟨.shutterState k .unplaced .noCause false false 0, 0, false⟩

/-- A port right after reset. -/
def resetPort : PortRecord := { PortRecord.start with notices := resetNotices, lost := true, attention := true }

/-- The running part right after reset: notes/assumptions/6.md. -/
def resetLive : Live where
  seconds := 0
  startCause := .cold
  rateIsHigh := false
  restart := false
  wearDue := false
  free := 0
  loop := .blank
  image := .blank
  store := ⟨emptyPlan, emptyFullClear, emptyPlan, .closed, false, none, false⟩
  monitor := .start emptyPlan .zero
  chain := .start
  zones := Bank.replicate 16 (.start false)
  gear := .start
  calls := []
  circuits := startCircuits emptyPlan
  speech := .start
  closing := .start
  portC := resetPort
  portF := resetPort

/-- The machine right after reset. DESIGN CHOICE (notes/assumptions/6.md): the cold start it has just taken met a loop
with no module and non-volatile memories that hold nothing valid. -/
def State.reset : State where
  pending := []
  power := .on
  samples := []
  nv := .blank
  live := resetLive

end Sys2Proof.Machine
end

