-- ==== Sys2Proof/Machine/Ops.lean ====
section
/-! DEFINITION. The named operations the meanings share: posting notices, raising wear counts, writing the output image,
reading and writing sample memory, and running a meaning only while the part is supplied and out of reset. -/

namespace Sys2Proof.Machine
open Sys2Proof

/-! ## Sample memory -/

/-- The byte at address `a` of a cell list; an unlisted address reads as the erased value (notes/assumptions/7.md). -/
def readSample : List Host.Cell → Nat → Byte
  | [], _ => Config.erasedSample
  | (k, v) :: rest, a => if k = a then v else readSample rest a

/-- Writes one byte, keeping addresses rising and listing no erased value. -/
def writeSample : List Host.Cell → Nat → Byte → List Host.Cell
  | [], a, x => if x = Config.erasedSample then [] else [(a, x)]
  | (k, v) :: rest, a, x =>
    if a < k then (if x = Config.erasedSample then (k, v) :: rest else (a, x) :: (k, v) :: rest)
    else if a = k then (if x = Config.erasedSample then rest else (k, x) :: rest)
    else (k, v) :: writeSample rest a x

/-- The canonical form of sample memory: addresses strictly rising from `lo`, no erased value listed. -/
def samplesFrom : Nat → List Host.Cell → Bool
  | _, [] => true
  | lo, (k, v) :: rest => decide (lo ≤ k) && decide (v ≠ Config.erasedSample) && samplesFrom (k + 1) rest

def Memory.wf (m : List Host.Cell) : Bool := samplesFrom 0 m

/-- Writes bytes at a pointer that returns to the region's start after its last address (R22), and gives the pointer
after the last byte. -/
def writeRegion (start length : Nat) : List Byte → Nat → List Host.Cell → Nat × List Host.Cell
  | [], ptr, m => (ptr, m)
  | x :: rest, ptr, m =>
    writeRegion start length rest (if ptr + 1 < start + length then ptr + 1 else start) (writeSample m ptr x)

/-- The `n` bytes from address `a`. -/
def readSamples (m : List Host.Cell) (a n : Nat) : List Byte := (List.range n).map fun i => readSample m (a + i)

/-! ## Notices (R190) -/

/-- One queue takes or drops one notice. -/
def PortRecord.take (p : PortRecord) (n : Notice) : PortRecord :=
  if p.notices.length < Config.noticeQueueSize then { p with notices := p.notices ++ [n], attention := true }
  else { p with lost := true }

/-- Posts a notice: it is stamped with the seconds counter and offered to both queues (R190). -/
def Live.post (s : Live) (n : Note) : Live :=
  { s with portC := s.portC.take ⟨n, s.seconds, false⟩, portF := s.portF.take ⟨n, s.seconds, false⟩ }

def Live.postAll (s : Live) (ns : List Note) : Live := ns.foldl Live.post s

/-- Posts `n` where `b` holds. -/
def Live.postIf (s : Live) (b : Bool) (n : Note) : Live := if b then s.post n else s

def Live.port (s : Live) : Port → PortRecord
  | .c => s.portC
  | .f => s.portF

def Live.withPort (s : Live) (p : Port) (r : PortRecord) : Live :=
  match p with
  | .c => { s with portC := r }
  | .f => { s with portF := r }

/-! ## Wear counts (R46) -/

/-- Which wear count an event raises. -/
inductive WearEvent | link | index | emergency | closure (k : Nat) | obstruction (k : Nat)
deriving DecidableEq, Repr

/-- The subject of WEAR SATURATED (R46). -/
def WearEvent.subject : WearEvent → Nat
  | .link => 0
  | .index => 1
  | .emergency => 2
  | .closure k => 32 + k
  | .obstruction k => 64 + k

def WearEvent.top : WearEvent → Nat
  | .link | .index => Config.top32
  | .emergency | .closure _ | .obstruction _ => Config.top16

def WearCounts.count (w : WearCounts) : WearEvent → Nat
  | .link => w.links
  | .index => w.index
  | .emergency => w.emergencyStops
  | .closure k => w.closures.read k 0
  | .obstruction k => w.obstructions.read k 0

def WearCounts.setCount (w : WearCounts) (n : Nat) : WearEvent → WearCounts
  | .link => { w with links := n }
  | .index => { w with index := n }
  | .emergency => { w with emergencyStops := n }
  | .closure k => { w with closures := w.closures.put k n }
  | .obstruction k => { w with obstructions := w.obstructions.put k n }

/-- One wear event: the count rises by one unless it stands at its maximum, and the increment that reaches the maximum
posts WEAR SATURATED (R46). -/
def Live.raiseWear (s : Live) (e : WearEvent) : Live :=
  let n := s.monitor.wear.count e
  if e.top ≤ n then s
  else
    let s := { s with monitor := { s.monitor with wear := s.monitor.wear.setCount (n + 1) e } }
    s.postIf (n + 1 == e.top) (.wearSaturated e.subject)

/-! ## Numbered points (R2) -/

def isKind (a : ModuleKind) (m : ModuleRecord) : Bool := decide (m.kind = a)

/-- How many modules of a kind were listed at the walk. -/
def FieldLoop.countOf (l : FieldLoop) (k : ModuleKind) : Nat := (l.modules.filter (isKind k)).length

/-- Points one module of a kind carries (R2); a BELL module's are its sounders. -/
def pointsPer : ModuleKind → Nat
  | .detector => 8
  | .call => 8
  | .shutter => 2
  | .bell => 8
  | .audio => 4
  | .other _ => 0

/-- The numbered capacity of a kind (R2). -/
def capacity : ModuleKind → Nat
  | .detector => 48
  | .call => 64
  | .shutter => 32
  | .bell => 16
  | .audio => 8
  | .other _ => 0

/-- Whether point `i` of a kind was numbered at the walk: a module carries it and it lies within the capacity (R2). -/
def FieldLoop.numbered (l : FieldLoop) (k : ModuleKind) (i : Nat) : Bool :=
  decide (i < pointsPer k * l.countOf k) && decide (i < capacity k)

/-- Gongs 0 to 7 stand on the first BELL module (R2). -/
def FieldLoop.gongNumbered (l : FieldLoop) (i : Nat) : Bool := decide (i < 8) && decide (0 < l.countOf .bell)

/-- The points of a module, numbered from its first (R2). -/
def ModuleRecord.points (m : ModuleRecord) : List Nat :=
  match m.first with
  | none => []
  | some f => (List.range (pointsPer m.kind)).map (f + ·)

/-- Whether a module that is present carries point `i` of a kind (R10, R11). -/
def FieldLoop.presentAt (l : FieldLoop) (k : ModuleKind) (i : Nat) : Bool :=
  l.modules.any fun m => isKind k m && m.present && m.points.contains i

/-! ## The output image (R12): a point not numbered at the walk is written into no point -/

def Live.input (s : Live) (k : Nat) : GearInput :=
  s.loop.gear.read k ⟨.still false, .still false, .still false, none⟩

def Live.pushInput (s : Live) (p : Nat) : PushInput := s.loop.pushes.read p ⟨.still .idle, none⟩

def Live.detector (s : Live) (d : Nat) : LineState := (s.loop.detectors.read d (.still .broken)).value

def Live.readyInput (s : Live) (ch : Nat) : Bool := (s.loop.ready.read ch (.still false)).value

/-- A push line is blanked for 5 scans, the first that of the next message to its module (R8). The run count is held at
0 from that scan on. On a lost module no blanking is begun: the reply that finds it is debounced (R11,
notes/assumptions/44.md). -/
def Live.blankPush (s : Live) (p : Nat) : Live :=
  if s.loop.presentAt .call p then
    { s with loop := { s.loop with pushes := s.loop.pushes.put p { s.pushInput p with blank := some Config.pushBlanking } } }
  else s

/-- A shutter's EDGE is blanked for 3 scans, the first that of the next message to its module (R9). -/
def Live.blankEdge (s : Live) (k : Nat) : Live :=
  if s.loop.presentAt .shutter k then
    { s with loop := { s.loop with gear := s.loop.gear.put k { s.input k with blank := some Config.edgeBlanking } } }
  else s

/-- The Call Queue writes a push's indicator; a change blanks the line (R7, R8, R128). DESIGN CHOICE
(notes/assumptions/44.md): an indicator changed and changed back before the next message to its module, which no message
shows changed (R12), blanks the line for 5 scans all the same. -/
def Live.writeIndicator (s : Live) (p : Nat) (on : Bool) : Live :=
  if s.loop.numbered .call p && (s.image.indicators.read p false != on) then
    ({ s with image := { s.image with indicators := s.image.indicators.put p on } }).blankPush p
  else s

/-- The four outputs a shutter's state calls for: RELEASE, BRAKE, WIND, WARN (R96). -/
def gearOutputs : ShutterState → Bool × Bool × Bool × Bool
  | .opened => (false, false, false, false)
  | .armed => (false, false, false, true)
  | .descending => (true, false, false, true)
  | .lifting => (true, false, true, true)
  | .paused => (true, true, false, true)
  | .closed => (true, false, false, false)
  | .halted => (true, true, false, false)
  | .raising => (true, false, true, false)
  | .unplaced => (false, false, false, false)
  | .jammed => (false, true, false, false)

/-- Writes a shutter's four outputs together; BRAKE going from de-asserted to asserted blanks the EDGE (R9, R96). DESIGN
CHOICE (notes/assumptions/44.md): BRAKE asserted and de-asserted again before the next message to the module, which then
never carries it, blanks the EDGE for 3 scans all the same. -/
def Live.writeGear (s : Live) (k : Nat) (st : ShutterState) : Live :=
  if s.loop.numbered .shutter k then
    let o := gearOutputs st
    let braked := s.image.brake.read k false
    let s := { s with image := { s.image with
      release := s.image.release.put k o.1
      brake := s.image.brake.put k o.2.1
      wind := s.image.wind.put k o.2.2.1
      warn := s.image.warn.put k o.2.2.2 } }
    if !braked && o.2.1 then s.blankEdge k else s
  else s

/-- The Ring Sequencer writes a sounder (R139). -/
def Live.writeSounder (s : Live) (c : Nat) (on : Bool) : Live :=
  if s.loop.numbered .bell c then { s with image := { s.image with sounders := s.image.sounders.put c on } } else s

/-- The Chain Drive Controller sounds or silences the gongs of the plan's landings that were numbered (R54, R68). -/
def Live.writeGongs (s : Live) (on : Bool) : Live :=
  { s with
    chain := { s.chain with gongsOn := on }
    image := { s.image with gongs := Bank.build 8 fun i =>
      on && s.loop.gongNumbered i && decide (i < s.store.active.geometry.landings.length) } }

/-- The Speech Controller writes a channel's ON, SEL-A and SEL-B (R164 to R166). -/
def Live.writeChannel (s : Live) (ch : Nat) (on selA selB : Bool) : Live :=
  if s.loop.numbered .audio ch then
    { s with image := { s.image with
        on := s.image.on.put ch on, selA := s.image.selA.put ch selA, selB := s.image.selB.put ch selB } }
  else s

/-! ## Messages to the modules (R3, R12) -/

/-- The outputs one message carries to a module: the image at each of its output points, and de-asserted where the
module's points were not numbered. Gongs 0 to 7 stand on the first BELL module (R2, R12). -/
def Image.messageTo (g : Image) (m : ModuleRecord) : ModuleMessage :=
  let outputs {α : Type} (rest : α) (f : Nat → α) : List α :=
    if m.first.isSome then m.points.map f else List.replicate (pointsPer m.kind) rest
  match m.kind with
  | .detector => .detector
  | .call => .call (outputs false fun p => g.indicators.read p false)
  | .shutter => .shutter (outputs ⟨false, false, false, false⟩ fun k =>
      ⟨g.release.read k false, g.brake.read k false, g.wind.read k false, g.warn.read k false⟩)
  | .bell => .bell (outputs false fun c => g.sounders.read c false)
      ((List.range 8).map fun i => m.first == some 0 && g.gongs.read i false)
  | .audio => .audio (outputs ⟨false, false, false⟩ fun ch =>
      ⟨g.on.read ch false, g.selA.read ch false, g.selB.read ch false⟩)
  | .other _ => .other

/-- The message of a scan goes out to the module at a loop position: it carries the image as it stands (R3, R12). -/
def Live.sendMessage (s : Live) (pos : Nat) (m : ModuleRecord) : Live :=
  { s with loop := { s.loop with sent := s.loop.sent.put pos (some (s.image.messageTo m)) } }

/-! ## The active plan -/

abbrev Live.plan (s : Live) : Plan := s.store.active

/-! ## Running a meaning -/

/-- A meaning acts while the part is supplied and out of reset; otherwise nothing reaches it
(notes/assumptions/29.md). -/
def whenOn (s : State) (out : Out) : Out := if s.power = .on then out else .next s

/-- A meaning that changes the running part alone. -/
def onLive (s : State) (f : Live → Live) : Out := whenOn s (.next { s with live := f s.live })

end Sys2Proof.Machine
end

