-- ==== Sys2Proof/Machine/Geometry.lean ====
section
/-! DEFINITION. The loop's geometry: sill positions, cars and their roofs, clearance at a sill, the full-clear residue
set and the stop target (R27, R35, R43, R57). -/

namespace Sys2Proof.Machine
open Sys2Proof

/-- `a` taken modulo `m`, in the range 0 to m − 1. -/
def modNat (a : Int) (m : Nat) : Nat := (a % (m : Int)).toNat

/-- The chain position of a sill (R27). -/
def Plan.sillPosition (p : Plan) (e : SillEntry) : Nat :=
  let h := p.geometry.landings.getD e.landing 0
  match e.run with
  | .up => h
  | .down => p.geometry.loopLength / 2 + p.geometry.upRun - h

/-- The middle of a sill's roof band (R27). -/
def Plan.roofCentre (p : Plan) (e : SillEntry) : Int :=
  match e.run with
  | .up => (p.sillPosition e : Int) - p.geometry.carHeight
  | .down => (p.sillPosition e : Int) + p.geometry.carHeight

/-- Whether residue `r` lies in the band of half-width `b` about `centre`, taken modulo `m` (R27). -/
def inBand (m b : Nat) (centre : Int) (r : Nat) : Bool :=
  (List.range (2 * b + 1)).any fun d => modNat (centre - b + d) m == r

/-- Whether a sill forbids residue `r` (R27). -/
def Plan.sillForbids (p : Plan) (e : SillEntry) (r : Nat) : Bool :=
  inBand p.pitch p.geometry.keepClear (p.sillPosition e) r ||
    inBand p.pitch p.geometry.keepClear (p.roofCentre e) r

/-- The full-clear residue set A: the residues no present sill forbids (R27). -/
def Plan.residues (p : Plan) : List Nat :=
  (List.range p.pitch).filter fun r => (List.range 16).all fun i =>
    !(p.sill i).present || !p.sillForbids (p.sill i) r

/-- The distance between two positions of the loop (R43). -/
def loopDistance (l a b : Nat) : Nat := min (modNat ((a : Int) - b) l) (modNat ((b : Int) - a) l)

/-- The floor of car `k` with the count at `c` (R35). -/
def Plan.carFloor (p : Plan) (c k : Nat) : Nat := (c + k * p.pitch) % p.geometry.loopLength

/-- The roof a car shows to sills on run `r` (R35). -/
def Plan.carRoof (p : Plan) (c k : Nat) (r : Run) : Nat :=
  match r with
  | .up => (p.carFloor c k + p.geometry.carHeight) % p.geometry.loopLength
  | .down => modNat ((p.carFloor c k : Int) - p.geometry.carHeight) p.geometry.loopLength

/-- Whether a sill is clear of every car's floor and roof with the count at `c` (R43). -/
def Plan.sillClear (p : Plan) (e : SillEntry) (c : Nat) : Bool :=
  (List.range p.geometry.cars).all fun k =>
    decide (p.geometry.keepClear < loopDistance p.geometry.loopLength (p.carFloor c k) (p.sillPosition e)) &&
      decide (p.geometry.keepClear <
        loopDistance p.geometry.loopLength (p.carRoof c k e.run) (p.sillPosition e))

/-- The run a floor stands in (section 3.1). -/
def Plan.runOf (p : Plan) (floor : Nat) : CarRun :=
  if floor ≤ p.geometry.upRun then .up
  else if floor < p.geometry.loopLength / 2 then .topTurn
  else if floor ≤ p.geometry.loopLength / 2 + p.geometry.upRun then .down
  else .bottomTurn

/-- The stopping allowance D = max(1, ceil(v·t_dec/2000)) (R57). -/
def stopAllowance (v tDec : Nat) : Nat := max 1 ((v * tDec + 1999) / 2000)

/-- The smallest Δ ≥ D with (c + Δ) mod P in A (R57); D itself where A holds no residue at all. -/
def stopDistance (c d p : Nat) (a : List Nat) : Nat :=
  match (List.range p).find? fun i => a.contains ((c + d + i) % p) with
  | some i => d + i
  | none => d

/-- The stop record a planned stop takes at count `c` and speed `v` (R57). -/
def placeStop (p : Plan) (a : List Nat) (c v : Nat) : StopRecord :=
  let d := stopAllowance v p.geometry.decelTime
  let g := stopDistance c d p.pitch a
  ⟨g, d, (c + g) % p.geometry.loopLength, 0⟩

end Sys2Proof.Machine
end

