-- ==== Sys2Proof/Machine/Flags.lean ====
section
/-! DEFINITION. The flags and views the blocks compute from one another's state: zones and the fire demand (R78, R87),
the sill shutters' states, the tests of CHAIN START and PLAN ADOPT (R53, R28), and the codes notices, results and
requests carry (R188, section 11.4, section 11.6). -/

namespace Sys2Proof

/-- The BUSY reason codes of R188. -/
def BusyReason.code : BusyReason → Nat
  | .state => 0x01
  | .shutter => 0x02
  | .flap => 0x03
  | .zone => 0x04
  | .detector => 0x05
  | .fire => 0x06
  | .limits => 0x07
  | .nightClose => 0x08

end Sys2Proof

namespace Sys2Proof.Machine
open Sys2Proof

/-! ## Zones and the fire demand -/

def Live.zone (s : Live) (z : Nat) : ZoneRecord := s.zones.read z (.start false)

/-- The present zone that lists a detector (section 5.1). -/
def Plan.zoneOf (p : Plan) (d : Nat) : Option Nat :=
  (List.range 16).find? fun z => (p.zone z).present && (p.zone z).detectors.contains d

/-- The detectors a zone lists; a zone that is not present lists none (section 5.1). -/
def Plan.detectorsOf (p : Plan) (z : Nat) : List Nat := if (p.zone z).present then (p.zone z).detectors else []

/-- The line condition of a zone (R78). -/
def Live.lineCondition (s : Live) (z : Nat) : ZoneState :=
  if (s.plan.detectorsOf z).any fun d => s.detector d == .broken || s.detector d == .short then .fault else .normal

/-- The lowest-numbered listed detector in ALARM. -/
def Live.alarmedDetector (s : Live) (z : Nat) : Option Nat :=
  (List.range 48).find? fun d => (s.plan.detectorsOf z).contains d && s.detector d == .alarm

def Live.inAlarm (s : Live) (z : Nat) : Bool := (s.zone z).state == .alarm

/-- The lowest zone in ALARM. -/
def Live.lowestAlarm (s : Live) : Option Nat := (List.range 16).find? s.inAlarm

/-- Alarm present (R87). -/
def Live.alarmPresent (s : Live) : Bool := s.lowestAlarm.isSome

/-- The lowest zone in ALARM that lists a landing (R53, R89). -/
def Live.alarmWithLanding (s : Live) : Option Nat :=
  (List.range 16).find? fun z => s.inAlarm z && !(s.plan.zone z).landings.isEmpty

/-- A zone's contribution to the shutter set (R87). -/
def Plan.contribution (p : Plan) (z : Nat) : List Nat :=
  (List.range 32).filter fun k => (p.shutter k).present &&
    ((p.shutter k).home == z || (p.zone z).neighbours.contains (p.shutter k).home)

/-- Whether a zone in ALARM sounds: it is not silenced. -/
def Live.sounds (s : Live) (z : Nat) : Bool := s.inAlarm z && !(s.zone z).silenced

/-- The fire demand (R87). -/
def Live.demand (s : Live) : Demand where
  shutters := (List.range 32).filter fun k =>
    (List.range 16).any fun z => s.inAlarm z && (s.plan.contribution z).contains k
  landings := (List.range 8).filter fun l =>
    (List.range 16).any fun z => s.inAlarm z && (s.plan.zone z).landings.contains l
  circuits := (List.range 16).filter fun c =>
    (List.range 16).any fun z => s.sounds z && (s.plan.zone z).circuits.contains c
  channels := (List.range 8).filter fun c =>
    (List.range 16).any fun z => s.sounds z && (s.plan.zone z).channels.contains c
  context := (List.range 16).find? s.sounds
  lowestAlarm := s.lowestAlarm

/-! ## Shutters and the chain -/

def Live.shutter (s : Live) (k : Nat) : ShutterRecord := s.gear.records.read k (.start .unplaced none)

/-- Whether a shutter is a sill shutter of the active plan (R98). -/
def Live.isSill (s : Live) (k : Nat) : Bool := (s.plan.sillOf k).isSome

/-- The lowest sill shutter that is not in OPEN (R53). -/
def Live.sillNotOpen (s : Live) : Option Nat :=
  (List.range 32).find? fun k => s.isSill k && (s.shutter k).state != .opened

/-- The EDGE as the Shutter Controller reads it: asserted and unblanked (R9). -/
def GearInput.edgeTaken (i : GearInput) : Bool :=
  i.edge.value && match i.blank with
    | some (_ + 1) => false
    | _ => true

/-- Whether the EDGE is blanked (R9). -/
def GearInput.edgeBlanked (i : GearInput) : Bool :=
  match i.blank with
  | some (_ + 1) => true
  | _ => false

/-- The conditions of R53 other than the chain's own state, as the reason and subject of the refusal. DESIGN CHOICE
(notes/assumptions/23.md): R53 gives FLAP the subject 0 for the top flap and 1 for the bottom; with both tripped it is 0. -/
def Live.startRefusal (s : Live) : Option (BusyReason × Nat) :=
  match s.sillNotOpen with
  | some k => some (.shutter, k)
  | none =>
    if s.chain.flapTop then some (.flap, 0)
    else if s.chain.flapBottom then some (.flap, 1)
    else match s.alarmWithLanding with
      | some z => some (.zone, z)
      | none => none

/-- The chain states in which a clear sill lets a shutter fall (R103). -/
def ChainState.atRest : ChainState → Bool
  | .parked => true
  | .held _ => true
  | .inspection .idle => true
  | _ => false

/-- The number of present sills whose answer is not CLEAR (R59). -/
def Live.sillsNotClear (s : Live) : Nat :=
  ((List.range 16).filter fun i =>
    (s.plan.sill i).present && s.monitor.answers.read i .notASill != .clear).length

/-! ## Quiescence (R28) -/

def ShutterState.quiet : ShutterState → Bool
  | .opened | .closed | .halted | .unplaced | .jammed => true
  | _ => false

def ChainState.quiet : ChainState → Bool
  | .parked => true
  | .held .fire => false
  | .held _ => true
  | .fault => true
  | _ => false

/-- The first condition of R28 that fails, with its index. -/
def Live.disquiet (s : Live) : Option (Condition × Nat) :=
  match s.lowestAlarm with
  | some z => some (.zones, z)
  | none =>
    if s.closing.state != .idle then some (.programme, 0)
    else match (List.range 32).find? fun k => !(s.shutter k).state.quiet with
      | some k => some (.shutters, k)
      | none =>
        if !s.chain.state.quiet then some (.chain, 0)
        else if s.speech.playerA.phase != .idle || s.speech.playerB.phase != .idle || !s.speech.queue.isEmpty then
          some (.speech, 0)
        else none

/-! ## Codes -/

/-- The notice kind codes of section 11.4. -/
def Note.code : Note → Nat
  | .started _ _ => 0x01
  | .moduleLost _ _ => 0x02
  | .moduleFound _ _ => 0x03
  | .planAdopted _ => 0x04
  | .positionValid _ => 0x10
  | .resync _ => 0x11
  | .positionSuspect _ => 0x12
  | .positionLost _ => 0x13
  | .chainDrift _ => 0x14
  | .wearSaturated _ => 0x15
  | .wearLost => 0x16
  | .chainState _ => 0x18
  | .chainOverrun _ _ => 0x19
  | .stopDeferred _ => 0x1A
  | .chainEmergency _ _ _ => 0x1B
  | .flapChange _ _ => 0x1C
  | .stepDone _ _ => 0x1D
  | .zoneState _ _ _ _ => 0x20
  | .zoneAlarm _ _ => 0x21
  | .shutterState _ _ _ _ _ _ => 0x28
  | .shutterWaiting _ _ _ => 0x29
  | .shutterUncleared _ _ _ => 0x2A
  | .shutterObstructed _ _ _ => 0x2B
  | .shutterForced _ => 0x2C
  | .shutterHalted _ _ => 0x2D
  | .callEntered _ _ _ _ _ _ => 0x30
  | .callDropped _ _ _ _ _ _ => 0x31
  | .callPressed _ _ _ _ => 0x32
  | .callRemoved _ _ _ _ _ _ => 0x33
  | .callRung _ _ _ _ _ => 0x34
  | .callEscalated _ _ _ _ => 0x35
  | .pushLine _ _ => 0x36
  | .circuitMask _ _ _ => 0x37
  | .phraseMissing _ _ _ => 0x38
  | .speakDropped _ _ _ _ => 0x39
  | .speakAbandoned _ _ _ _ _ => 0x3A
  | .speakDone _ _ _ => 0x3B
  | .ampNotReady _ _ _ => 0x3C
  | .programmeState _ _ _ => 0x40
  | .programmeStep _ _ _ => 0x41
  | .stepSkipped _ _ _ => 0x42
  | .programmeDone _ _ => 0x43

/-- The subject of the call notices: the push of a PUSH call, the circuit of any other (R122). -/
def callSubject (key : CallKey) (circuit : Nat) : Nat :=
  match key with
  | .push p => p
  | _ => circuit

/-- A notice's subject, as the rule that posts it gives it. DESIGN CHOICE (notes/assumptions/48.md): R30 and section 11.4
give PLAN ADOPTED no subject, and it is 0. -/
def Note.subject : Note → Nat
  | .started _ _ => 0
  | .moduleLost pos _ => pos
  | .moduleFound pos _ => pos
  | .planAdopted _ => 0
  | .positionValid _ => 0
  | .resync _ => 0
  | .positionSuspect _ => 0
  | .positionLost _ => 0
  | .chainDrift _ => 0
  | .wearSaturated w => w
  | .wearLost => 0
  | .chainState _ => 0
  | .chainOverrun _ _ => 0
  | .stopDeferred _ => 0
  | .chainEmergency _ _ _ => 0
  | .flapChange bottom _ => if bottom then 1 else 0
  | .stepDone _ _ => 0
  | .zoneState z _ _ _ => z
  | .zoneAlarm z _ => z
  | .shutterState k _ _ _ _ _ => k
  | .shutterWaiting k _ _ => k
  | .shutterUncleared k _ _ => k
  | .shutterObstructed k _ _ => k
  | .shutterForced k => k
  | .shutterHalted k _ => k
  | .callEntered key _ circuit _ _ _ => callSubject key circuit
  | .callDropped key _ circuit _ _ _ => callSubject key circuit
  | .callPressed p _ _ _ => p
  | .callRemoved key _ circuit _ _ _ => callSubject key circuit
  | .callRung key circuit _ _ _ => callSubject key circuit
  | .callEscalated key _ newCircuit _ => callSubject key newCircuit
  | .pushLine p _ => p
  | .circuitMask c _ _ => c
  | .phraseMissing tag _ _ => tag
  | .speakDropped tag _ _ _ => tag
  | .speakAbandoned tag _ _ _ _ => tag
  | .speakDone tag _ _ => tag
  | .ampNotReady ch _ _ => ch
  | .programmeState _ _ _ => 0
  | .programmeStep step _ _ => step
  | .stepSkipped step _ _ => step
  | .programmeDone _ _ => 0

/-- The result codes of R188. -/
def Result.code : Result → Nat
  | .done => 0x00
  | .empty => 0x01
  | .notPermitted => 0x10
  | .unknownKind => 0x11
  | .badLength => 0x12
  | .badValue => 0x13
  | .noSuch => 0x14
  | .busy _ _ => 0x15
  | .full => 0x16
  | .notQuiescent _ _ => 0x17
  | .noParkResidue => 0x18
  | .planCheck _ _ => 0x19

/-- The request kinds of section 11.6. -/
inductive Kind
  | unitRead | zoneRead | shutterRead | chainRead | callList | speakList | closingRead | wearRead | planRead | noticeFetch
  | planOpen | planEntry | planClose | planAdopt | planDiscard | sampleOpen | sampleData
  | zoneIsolate | zoneRestore | zoneSilence | zoneReset | shutterLower | shutterRaise | shutterHalt
  | chainStart | chainStop | chainInspect | chainStep | callPlace | callClear | callMask | speak | speakCancel
  | closingBegin | closingPostpone | closingAbort | closingResume | unitRestart
deriving DecidableEq, Repr

def Kind.code : Kind → Nat
  | .unitRead => 0x01
  | .zoneRead => 0x02
  | .shutterRead => 0x03
  | .chainRead => 0x04
  | .callList => 0x05
  | .speakList => 0x06
  | .closingRead => 0x07
  | .wearRead => 0x08
  | .planRead => 0x09
  | .noticeFetch => 0x0A
  | .planOpen => 0x10
  | .planEntry => 0x11
  | .planClose => 0x12
  | .planAdopt => 0x13
  | .planDiscard => 0x14
  | .sampleOpen => 0x15
  | .sampleData => 0x16
  | .zoneIsolate => 0x20
  | .zoneRestore => 0x21
  | .zoneSilence => 0x22
  | .zoneReset => 0x23
  | .shutterLower => 0x28
  | .shutterRaise => 0x29
  | .shutterHalt => 0x2A
  | .chainStart => 0x30
  | .chainStop => 0x31
  | .chainInspect => 0x32
  | .chainStep => 0x33
  | .callPlace => 0x38
  | .callClear => 0x39
  | .callMask => 0x3A
  | .speak => 0x40
  | .speakCancel => 0x41
  | .closingBegin => 0x48
  | .closingPostpone => 0x49
  | .closingAbort => 0x4A
  | .closingResume => 0x4B
  | .unitRestart => 0x50

/-- The kinds the request kind table permits on port F; a permission that depends on fields is the rule's own
(section 11.6, R188 step 4). -/
def Kind.onPortF : Kind → Bool
  | .unitRead | .zoneRead | .shutterRead | .chainRead | .callList | .speakList | .closingRead | .wearRead | .planRead
  | .noticeFetch | .chainStop | .callPlace | .callClear | .speak | .speakCancel => true
  | _ => false

def allKinds : List Kind :=
  [.unitRead, .zoneRead, .shutterRead, .chainRead, .callList, .speakList, .closingRead, .wearRead, .planRead,
   .noticeFetch, .planOpen, .planEntry, .planClose, .planAdopt, .planDiscard, .sampleOpen, .sampleData, .zoneIsolate,
   .zoneRestore, .zoneSilence, .zoneReset, .shutterLower, .shutterRaise, .shutterHalt, .chainStart, .chainStop,
   .chainInspect, .chainStep, .callPlace, .callClear, .callMask, .speak, .speakCancel, .closingBegin, .closingPostpone,
   .closingAbort, .closingResume, .unitRestart]

/-- Whether a kind code names a request; codes of 80h and above name none (R188). -/
def knownKind (code : Nat) : Bool := allKinds.any fun k => k.code == code

end Sys2Proof.Machine
end

