-- ==== Sys2Proof/Machine/Operands.lean ====
section
/-! DEFINITION. The operands of requests: the range of every field of a plan entry (section 2.2, R16), the reading and
writing of one entry of a table (R19, R23), the ranges of request fields, and the clamps (R189). -/

namespace Sys2Proof

/-! ## Ranges -/

def within (lo hi n : Nat) : Bool := decide (lo ≤ n) && decide (n ≤ hi)

/-- A millisecond field: in range and a whole multiple of 10 (R16). -/
def withinMs (lo hi n : Nat) : Bool := within lo hi n && n % 10 == 0

/-- An optional field: absent, or in range. -/
def optWithin (lo hi : Nat) : Option Nat → Bool
  | none => true
  | some n => within lo hi n

/-- A list of `lo` to `hi` elements, each at most `top`. -/
def listWithin (lo hi bottom top : Nat) (l : List Nat) : Bool :=
  within lo hi l.length && l.all (within bottom top)

def Geometry.inRange (g : Geometry) : Bool :=
  within 64 4000 g.loopLength && within 4 24 g.cars && within 1 1999 g.upRun &&
  listWithin 2 8 1 1999 g.landings && within 1 999 g.carHeight && within 1 8 g.keepClear &&
  withinMs 100 5000 g.decelTime && withinMs 500 5000 g.stallTime && within 0 8 g.indexTolerance &&
  within 5 30 g.startWarning && within 1 4 g.sweepLoops && within 10 300 g.holdOff &&
  within 0 30 g.fireWarning && within 5 120 g.nightWarning && within 10 600 g.reRing &&
  within 1 9 g.escalationRings && within 10 120 g.evacRepeat && optWithin 0 31 g.evacScript

def SillEntry.inRange (e : SillEntry) : Bool := within 0 7 e.landing

def ZoneEntry.inRange (e : ZoneEntry) : Bool :=
  listWithin 1 6 0 47 e.detectors && listWithin 0 8 0 15 e.neighbours && listWithin 0 16 0 15 e.circuits &&
  listWithin 0 8 0 7 e.channels && listWithin 0 8 0 7 e.landings && optWithin 0 127 e.namePhrase

def ShutterEntry.inRange (e : ShutterEntry) : Bool :=
  within 0 15 e.home && optWithin 0 15 e.sill && within 5 120 e.descentLimit &&
  withinMs 500 5000 e.retract && within 2 30 e.pause

def PushEntry.inRange (e : PushEntry) : Bool :=
  within 1 99 e.code && within 1 6 e.level && within 0 15 e.circuit && optWithin 0 15 e.escalation

def CircuitEntry.inRange (e : CircuitEntry) : Bool := within 0 6 e.resetMask

def PhraseEntry.inRange (e : PhraseEntry) : Bool := within 0 1048575 e.start && within 0 65535 e.length

def Item.inRange : Item → Bool
  | .phrase p => within 0 127 p
  | .zoneName => true
  | .number base => within 0 127 base
  | .silence ms => withinMs 100 5000 ms
  | .chime => true
  | .again k => within 0 15 k

def ScriptEntry.inRange (e : ScriptEntry) : Bool := within 1 16 e.items.length && e.items.all Item.inRange

/-- A field a step's kind uses holds a value `ok` takes; a field it does not use is absent (R16). -/
def usedOnly (used : Bool) (ok : α → Bool) : Option α → Bool
  | none => !used
  | some x => used && ok x

def StepEntry.inRange (e : StepEntry) : Bool :=
  decide (-7200 ≤ e.offset) && decide (e.offset ≤ 1800) &&
  usedOnly (e.kind == .announce) (within 0 31) e.script &&
  usedOnly (e.kind == .announce) (listWithin 1 8 0 7) e.channels &&
  usedOnly (e.kind == .bell || e.kind == .mask) (listWithin 1 16 0 15) e.circuits &&
  usedOnly (e.kind == .nightClose) (listWithin 1 16 0 15) e.zones &&
  usedOnly (e.kind == .mask) (within 0 6) e.level

def PlanEntry.inRange : PlanEntry → Bool
  | .geometry e => Geometry.inRange e
  | .sill e => SillEntry.inRange e
  | .zone e => ZoneEntry.inRange e
  | .shutter e => ShutterEntry.inRange e
  | .push e => PushEntry.inRange e
  | .circuit e => CircuitEntry.inRange e
  | .phrase e => PhraseEntry.inRange e
  | .script e => ScriptEntry.inRange e
  | .step e => StepEntry.inRange e

/-! ## One entry of a table -/

/-- The table an entry belongs to. -/
def PlanEntry.table : PlanEntry → PlanTable
  | .geometry _ => .geometry
  | .sill _ => .sills
  | .zone _ => .zones
  | .shutter _ => .shutters
  | .push _ => .pushes
  | .circuit _ => .circuits
  | .phrase _ => .phrases
  | .script _ => .scripts
  | .step _ => .steps

end Sys2Proof

namespace Sys2Proof.Machine
open Sys2Proof

/-- The plan with entry `i` of its table replaced by a full entry. -/
def Plan.setEntry (p : Plan) (i : Nat) : PlanEntry → Plan
  | .geometry e => { p with geometry := e }
  | .sill e => { p with sills := p.sills.put i e }
  | .zone e => { p with zones := p.zones.put i e }
  | .shutter e => { p with shutters := p.shutters.put i e }
  | .push e => { p with pushes := p.pushes.put i e }
  | .circuit e => { p with circuits := p.circuits.put i e }
  | .phrase e => { p with phrases := p.phrases.put i e }
  | .script e => { p with scripts := p.scripts.put i e }
  | .step e => { p with steps := p.steps.put i e }

/-- The full entry the EMPTY entry writes into a table; the geometry table has none (R16). -/
def emptyEntry : PlanTable → Option PlanEntry
  | .geometry => none
  | .sills => some (.sill emptySill)
  | .zones => some (.zone emptyZone)
  | .shutters => some (.shutter emptyShutter)
  | .pushes => some (.push emptyPush)
  | .circuits => some (.circuit emptyCircuit)
  | .phrases => some (.phrase emptyPhrase)
  | .scripts => some (.script emptyScript)
  | .steps => some (.step emptyStep)

/-- The entry a PLAN ENTRY item writes into a table, or none where R16 refuses it BAD VALUE. -/
def itemEntry (t : PlanTable) : PlanItem → Option PlanEntry
  | .empty => emptyEntry t
  | .badCode => none
  | .full e => if e.inRange then some e else none

/-- Whether every full entry of a frame has the open table's form (R19, notes/assumptions/27.md). -/
def ofTable (t : PlanTable) (items : List PlanItem) : Bool :=
  items.all fun
    | .full e => e.table == t
    | _ => true

/-- A present entry is read as a full entry, one that is not as the EMPTY entry (R16, R23). -/
def readOut (present : Bool) (e : PlanEntry) : PlanItem := if present then .full e else .empty

/-- Entry `i` of a table as PLAN READ returns it (R23). -/
def Plan.readEntry (p : Plan) (t : PlanTable) (i : Nat) : PlanItem :=
  match t with
  | .geometry => .full (.geometry p.geometry)
  | .sills => readOut (p.sill i).present (.sill (p.sill i))
  | .zones => readOut (p.zone i).present (.zone (p.zone i))
  | .shutters => readOut (p.shutter i).present (.shutter (p.shutter i))
  | .pushes => readOut (p.push i).present (.push (p.push i))
  | .circuits => readOut (p.circuit i).present (.circuit (p.circuit i))
  | .phrases => .full (.phrase (p.phrase i))
  | .scripts => readOut (p.script i).present (.script (p.script i))
  | .steps => readOut (p.step i).present (.step (p.step i))

end Sys2Proof.Machine

namespace Sys2Proof

/-! ## Request fields -/

/-- Whether every field of a call's key lies in its range (R130). -/
def CallKey.inRange : CallKey → Bool
  | .push p => within 0 63 p
  | .fire c => within 0 15 c
  | .programme s c => within 0 23 s && within 0 15 c
  | .host code c => within 1 99 code && within 0 15 c

/-- CALL PLACE's re-ring interval, clamped to 10–600 s (R129, R189). -/
def clampReRing : Option Nat → Option Nat
  | none => none
  | some n => some (max 10 (min 600 n))

/-- The fields R129 refuses BAD VALUE. -/
def CallPlaceFields.inRange (f : CallPlaceFields) : Bool :=
  within 0 15 f.circuit && within 1 6 f.level && within 1 99 f.code && f.mode.isSome

/-- Whether a list names no element twice. -/
def noRepeat (l : List Nat) : Bool := decide l.Nodup

/-- The fields R156 refuses BAD VALUE. -/
def SpeakFields.inRange (f : SpeakFields) : Bool :=
  within 0 31 f.script && (f.cls == some .closing || f.cls == some .general) && !f.channels.isEmpty &&
  f.channels.all (within 0 7) && noRepeat f.channels && optWithin 0 15 f.context

/-- A number above 60 is clamped to 60 (R156, R189). -/
def clampNumber : Option Nat → Option Nat
  | none => none
  | some n => some (min n Config.numberTop)

/-- Whether a body fits its kind's fields (R188, step 3). -/
def Body.isFit : Body α → Bool
  | .fits _ => true
  | .misfit => false

end Sys2Proof
end

