-- ==== Sys2Proof/Machine/Ports.lean ====
section
/-! DEFINITION. The Link Ports' receivers, the taking of a request and its reply, and the commands of the byte stream
(chapter 11: R186 to R188). -/

namespace Sys2Proof.Machine
open Sys2Proof

/-! ## Frames (R187) -/

/-- One bit of the check: polynomial 1021h, most significant bit first. -/
def crcBit (r : Word16) : Word16 := if r.msb then (r <<< 1) ^^^ 0x1021#16 else r <<< 1

/-- One byte enters the check register, its most significant bit first. -/
def crcByte (r : Word16) (b : Byte) : Word16 :=
  (crcBit ∘ crcBit ∘ crcBit ∘ crcBit ∘ crcBit ∘ crcBit ∘ crcBit ∘ crcBit) (r ^^^ (b.zeroExtend 16 <<< 8))

/-- The frame check: the register starts at FFFFh and is sent without a final inversion (R187). -/
def crc (bytes : List Byte) : Word16 := bytes.foldl crcByte 0xFFFF#16

/-- The lead byte of a frame. -/
def leadByte : Byte := 0xA5

/-- How far the bytes after a lead byte make a frame. -/
inductive FrameStatus | unfinished | badLength | badCrc | whole
deriving DecidableEq, Repr

/-- Judges the bytes after the lead byte: the length byte n, n body bytes and the check, more significant byte first. -/
def frameStatus : List Byte → FrameStatus
  | [] => .unfinished
  | n :: rest =>
    if n = 0 ∨ Config.bodyMax < n.toNat then .badLength
    else if rest.length < n.toNat + 2 then .unfinished
    else
      let body := rest.take n.toNat
      let sent := (rest.getD n.toNat 0).zeroExtend 16 <<< 8 ||| (rest.getD (n.toNat + 1) 0).zeroExtend 16
      if crc (n :: body) = sent then .whole else .badCrc

/-- A receiver in HUNTING takes one byte: the lead byte begins a frame, any other is discarded. -/
def huntByte (b : Byte) : Receiver := if b = leadByte then .receiving [] else .hunting

/-- The receiver after one byte, while no reply is pending. A frame that has ended in a discard leaves the receiver
hunting; a whole frame waits for its request to be taken, and bytes meanwhile are discarded
(notes/assumptions/9.md). -/
def receiveByte (r : Receiver) (b : Byte) : Receiver :=
  match r with
  | .hunting => huntByte b
  | .receiving bytes =>
    match frameStatus bytes with
    | .unfinished => .receiving (bytes ++ [b])
    | .whole => .receiving bytes
    | .badLength | .badCrc => huntByte b

/-- Whether the port takes bytes and frames: no reply is pending and no warm restart waits (R187, R193). DESIGN CHOICE
(notes/assumptions/54.md): a frame that has begun on port F when UNIT RESTART is taken counts among those that R193 discards;
its remaining bytes are ignored, and a request whose row has not been taken by then is not taken. -/
def Live.listens (s : Live) (p : Port) : Bool := !(s.port p).replyPending && !s.restart

/-! ## Requests and replies (R188) -/

/-- Whether the receiver leaves room for a request of this kind code: it holds no whole frame of another kind. -/
def PortRecord.agrees (r : PortRecord) (code : Nat) : Bool :=
  match r.receiver with
  | .hunting => true
  | .receiving bytes => frameStatus bytes != .whole || (bytes.getD 1 0).toNat == code

/-- Whether a request of a kind code can be taken on a port now. -/
def Live.takes (s : Live) (p : Port) (code : Nat) : Bool := s.listens p && (s.port p).agrees code

/-- The port's part of taking a request: the receiver hunts and reply pending is set (R187). -/
def Live.takeFrame (s : Live) (p : Port) : Live :=
  s.withPort p { s.port p with receiver := .hunting, gap := 0, replyPending := true, reply := none }

/-- Puts a reply on the port, to be sent. -/
def Live.putReply (s : Live) (p : Port) (kind : Nat) (r : Result) (f : Fields) : Live :=
  s.withPort p { s.port p with reply := some ⟨kind, r, f⟩ }

/-- The kind code of a reply: the request's with 80h added (R188). -/
def Kind.replyCode (k : Kind) : Nat := k.code + 0x80

def Live.closeCursor (s : Live) : Live := { s with store := { s.store with cursor := .closed } }

/-- What a request's rule gives: the part after it, and the result and fields of the reply, or none where the reply
comes at a later step (R22, R30). -/
abbrev Handled := Live × Option (Result × Fields)

/-- A request refused or answered with a result alone. -/
def answer (s : Live) (r : Result) : Handled := (s, some (r, .none))

def answerWith (s : Live) (r : Result) (f : Fields) : Handled := (s, some (r, f))

/-- A BUSY refusal whose rule states no subject: the subject is a free value (notes/assumptions/12.md). -/
def busyFree (s : Live) (r : BusyReason) : Handled :=
  answer { s with free := s.free + 1 } (.busy r (Config.freeSubject s.free))

/-- A BUSY refusal whose rule states neither reason nor subject. -/
def busyAnyReason (s : Live) : Handled :=
  answer { s with free := s.free + 1 } (.busy (Config.freeReason s.free) (Config.freeSubject s.free))

/-- Puts the reply a rule gave, if it gave one. -/
def Live.putHandled (p : Port) (k : Kind) (h : Handled) : Live :=
  match h.2 with
  | some (r, f) => h.1.putReply p k.replyCode r f
  | none => h.1

/-- A request breaks the load in progress before it is handled (R17): `breaks` says whether this kind does with the
cursor as it stands. -/
def Live.breakLoad (s : Live) (p : Port) (breaks : Cursor → Bool) : Live :=
  if p = .c ∧ breaks s.store.cursor then s.closeCursor else s

/-- The checks of R188 in their order, then the request's own rule `h`. -/
def takeRequest (p : Port) (k : Kind) (breaks : Cursor → Bool) (fit : Bool) (h : Live → Handled) (s : Live) : Live :=
  if s.takes p k.code then
    let s := (s.takeFrame p).breakLoad p breaks
    if p = .f ∧ k.onPortF = false then s.putReply p k.replyCode .notPermitted .none
    else if fit = false then s.putReply p k.replyCode .badLength .none
    else Live.putHandled p k (h s)
  else s

/-- A request whose body the rule reads. -/
def onBody (body : Body α) (h : α → Live → Handled) (s : Live) : Handled :=
  match body with
  | .fits a => h a s
  | .misfit => answer s .badLength

/-- Which requests break a load (R17). -/
def breaksAlways : Cursor → Bool := fun _ => true
def breaksNever : Cursor → Bool := fun _ => false
def breaksUnlessTable : Cursor → Bool
  | .table _ _ => false
  | _ => true
def breaksUnlessSample : Cursor → Bool
  | .sample _ _ _ _ => false
  | _ => true

/-- A read with fields: permitted on both ports, breaking no load. -/
def readRequest (p : Port) (k : Kind) (body : Body α) (h : α → Live → Result × Fields) (s : Live) : Live :=
  takeRequest p k breaksNever body.isFit (onBody body fun a s => (s, some (h a s))) s

/-- A request that breaks a load and is handled by its rule. -/
def breakingRequest (p : Port) (k : Kind) (body : Body α) (h : α → Live → Handled) (s : Live) : Live :=
  takeRequest p k breaksAlways body.isFit (onBody body h) s

/-! ## The commands of the byte stream -/

/-- The receiver of a port takes one byte: a gap of more than 30 ms since the last byte of an unfinished frame has
discarded that frame, and the late byte is judged as a hunting byte (R187). -/
def PortRecord.receive (r : PortRecord) (b : Byte) : Receiver :=
  match r.receiver with
  | .hunting => huntByte b
  | .receiving bytes =>
    if frameStatus bytes = .unfinished ∧ Config.frameGapMs < r.gap then huntByte b else receiveByte r.receiver b

/-- FRAME_BYTE (R187). -/
def frameByteStep (p : Port) (b : Byte) (s : Live) : Live :=
  if s.listens p then s.withPort p { s.port p with receiver := (s.port p).receive b, gap := 0 } else s

def execFrameByte (p : Port) (b : Byte) (s : State) : Out := onLive s (frameByteStep p b)

/-- FRAME_GAP_TIMEOUT (R187): more than 30 ms have passed since the last byte of an unfinished frame. -/
def frameGapStep (p : Port) (s : Live) : Live :=
  match (s.port p).receiver with
  | .receiving bytes =>
    if frameStatus bytes = .unfinished ∧ Config.frameGapMs < (s.port p).gap then
      s.withPort p { s.port p with receiver := .hunting, gap := 0 }
    else s
  | .hunting => s

def execFrameGapTimeout (p : Port) (s : State) : Out := onLive s (frameGapStep p)

/-- FRAME_DISCARD (R187): a frame with a bad length byte or a check that does not match is discarded without a reply. -/
def frameDiscardStep (p : Port) (s : Live) : Live :=
  match (s.port p).receiver with
  | .receiving bytes =>
    if frameStatus bytes = .badLength ∨ frameStatus bytes = .badCrc then
      s.withPort p { s.port p with receiver := .hunting, gap := 0 }
    else s
  | .hunting => s

def execFrameDiscard (p : Port) (s : State) : Out := onLive s (frameDiscardStep p)

/-- REPLY_SENT (R187): the last byte of a reply clears reply pending. -/
def replySentStep (p : Port) (s : Live) : Live :=
  if (s.port p).replyPending && (s.port p).reply.isSome then
    s.withPort p { s.port p with replyPending := false, reply := none }
  else s

def execReplySent (p : Port) (s : State) : Out := onLive s (replySentStep p)

/-- UNKNOWN_KIND (R188): a kind code that names no request, answered with reply kind FFh. -/
def unknownKindStep (p : Port) (code : Byte) (s : Live) : Live :=
  if s.takes p code.toNat && !knownKind code.toNat then
    ((s.takeFrame p).breakLoad p breaksAlways).putReply p 0xFF .unknownKind .none
  else s

def execUnknownKind (p : Port) (code : Byte) (s : State) : Out := onLive s (unknownKindStep p code)

/-! ## NOTICE FETCH (R191) -/

/-- Removes and returns the oldest notice of the port's queue, or answers EMPTY. -/
def noticeFetch (p : Port) (s : Live) : Handled :=
  let r := s.port p
  match r.notices with
  | [] => answer s .empty
  | n :: rest =>
    answerWith (s.withPort p { r with notices := rest, lost := false, attention := !rest.isEmpty }) .done
      (.notice { n with lost := r.lost })

def execNoticeFetch (p : Port) (body : Body Unit) (s : State) : Out :=
  onLive s (takeRequest p .noticeFetch breaksNever body.isFit (onBody body fun _ => noticeFetch p))

/-! ## The unit (R192, R193) -/

def PortRecord.readout (r : PortRecord) : PortReadout := ⟨r.notices.length, r.lost⟩

/-- UNIT READ (R192). -/
def unitReadout (s : Live) : UnitReadout where
  seconds := s.seconds
  cause := s.startCause
  loaded := s.store.storeGood
  bitRate := if s.rateIsHigh then Config.rateHigh else Config.rateLow
  portC := s.portC.readout
  portF := s.portF.readout
  modules := (List.range s.loop.modules.length).zip s.loop.modules

def execUnitRead (p : Port) (body : Body Unit) (s : State) : Out :=
  onLive s (readRequest p .unitRead body fun _ s => (.done, .unit (unitReadout s)))

/-- UNIT RESTART (R193): DONE, and a warm restart waits for the reply and for port F. -/
def execUnitRestart (p : Port) (body : Body Unit) (s : State) : Out :=
  onLive s (breakingRequest p .unitRestart body fun _ s => answer { s with restart := true } .done)

/-- SECONDS_TICK (R192). A whole multiple of 60 s calls for a wear write (R47). -/
def secondsTickStep (s : Live) : Live :=
  if s.seconds < Config.secondsTop then
    { s with
      seconds := s.seconds + 1
      wearDue := s.wearDue || (s.seconds + 1) % Config.wearPeriod == 0 }
  else s

def execSecondsTick (s : State) : Out := onLive s secondsTickStep

end Sys2Proof.Machine
end

