-- ==== Sys2Proof/Machine/Store.lean ====
section
/-! DEFINITION. The Plan Store's loads, reads and sample writes (R15 to R24), the checks of adoption (R25, R26) and the
end of its store write (R30), and the wear record (R47, R48). -/

namespace Sys2Proof.Machine
open Sys2Proof

/-! ## Table loads -/

/-- PLAN OPEN (R18). -/
def planOpen (f : PlanOpenFields) (s : Live) : Handled :=
  match f.table with
  | none => answer s .badValue
  | some t =>
    if f.first < tableSize t then
      answer { s with store := { s.store with cursor := .table t f.first } } .done
    else answer s .badValue

def execPlanOpen (p : Port) (body : Body PlanOpenFields) (s : State) : Out :=
  onLive s (breakingRequest p .planOpen body planOpen)

/-- Takes the entries of a frame in order from index `i`: the plan and index after them, and the result (R19). -/
def loadEntries (t : PlanTable) : List PlanItem → Nat → Plan → Plan × Nat × Result
  | [], i, p => (p, i, .done)
  | x :: rest, i, p =>
    if tableSize t ≤ i then (p, i, .full)
    else
      match itemEntry t x with
      | none => (p, i, .badValue)
      | some e => loadEntries t rest (i + 1) (p.setEntry i e)

/-- PLAN ENTRY (R19). -/
def planEntry (f : EntryFrame) (s : Live) : Handled :=
  match s.store.cursor with
  | .table t i =>
    match f with
    | .indivisible => answer s .badLength
    | .entries items =>
      if ofTable t items then
        let r := loadEntries t items i s.store.pending
        answerWith { s with store := { s.store with pending := r.1, cursor := .table t r.2.1 } } r.2.2 (.index r.2.1)
      else answer s .badLength
  | _ => answer s .noSuch

/-- A PLAN ENTRY frame carries one or more entries (R19): one with none does not fit the kind. -/
def entryFrameFits : Body EntryFrame → Bool
  | .fits (.entries items) => !items.isEmpty
  | .fits .indivisible => true
  | .misfit => false

def execPlanEntry (p : Port) (body : Body EntryFrame) (s : State) : Out :=
  onLive s (takeRequest p .planEntry breaksUnlessTable (entryFrameFits body) (onBody body planEntry))

/-- PLAN CLOSE (R20). -/
def execPlanClose (p : Port) (body : Body Unit) (s : State) : Out :=
  onLive s (breakingRequest p .planClose body fun _ s => answer s.closeCursor .done)

/-- PLAN DISCARD (R24). -/
def planDiscard (s : Live) : Handled := answer { s with store := { s.store with pending := s.store.active } } .done

def execPlanDiscard (p : Port) (body : Body Unit) (s : State) : Out :=
  onLive s (breakingRequest p .planDiscard body fun _ => planDiscard)

/-- PLAN READ (R23). -/
def planRead (f : PlanReadFields) (s : Live) : Result × Fields :=
  match f.copy, f.table with
  | some c, some t =>
    if f.index < tableSize t then
      let plan := match c with
        | .active => s.store.active
        | .pending => s.store.pending
      (.done, .plan (plan.readEntry t f.index)
        (if c = .active ∧ t = .geometry then some s.store.fullClear.length else none))
    else (.noSuch, .none)
  | _, _ => (.noSuch, .none)

def execPlanRead (p : Port) (body : Body PlanReadFields) (s : State) : Out :=
  onLive s (readRequest p .planRead body planRead)

/-! ## Sample loads -/

/-- SAMPLE OPEN (R21). -/
def sampleOpen (ph : Nat) (s : Live) : Handled :=
  if Config.phrases ≤ ph then answer s .badValue
  else
    let e := s.plan.phrase ph
    if e.length = 0 then answer s .noSuch
    else answer { s with store := { s.store with cursor := .sample ph e.start e.length e.start } } .done

def execSampleOpen (p : Port) (body : Body Nat) (s : State) : Out :=
  onLive s (breakingRequest p .sampleOpen body sampleOpen)

/-- Whether a player plays a phrase with its sample pointer within a region: a phrase with no sample left has ended, and
its pointer, which stands past its last sample until PHRASE_END, lies in no region (R22, R152, notes/assumptions/36.md). -/
def PlayerContext.readsIn (start length : Nat) (c : PlayerContext) : Bool :=
  match c.pointer with
  | some a => c.remaining != some 0 && decide (start ≤ a) && decide (a < start + length)
  | none => false

/-- Whether either player is playing samples from a region (R22, R152). -/
def Live.regionPlaying (s : Live) (start length : Nat) : Bool :=
  s.speech.playerA.readsIn start length || s.speech.playerB.readsIn start length

/-- SAMPLE DATA (R22): the bytes go to the non-volatile memory, and the reply comes when they are in it. -/
def sampleData (bytes : List Byte) (s : Live) : Handled :=
  match s.store.cursor with
  | .sample _ start length _ =>
    if s.regionPlaying start length then busyAnyReason s
    else ({ s with store := { s.store with sampleWrite := some bytes } }, none)
  | _ => answer s .noSuch

/-- SAMPLE DATA carries 1 to 192 bytes (R22). -/
def sampleDataFits : Body (List Byte) → Bool
  | .fits bytes => within 1 Config.sampleDataMax bytes.length
  | .misfit => false

def execSampleData (p : Port) (body : Body (List Byte)) (s : State) : Out :=
  onLive s (takeRequest p .sampleData breaksUnlessSample (sampleDataFits body) (onBody body sampleData))

/-- The first `n` bytes of a sample write in flight reach sample memory (R22). -/
def State.writeSamples (s : State) (n : Nat) : State :=
  match s.live.store.sampleWrite, s.live.store.cursor with
  | some bytes, .sample ph start length ptr =>
    let r := writeRegion start length (bytes.take n) ptr s.samples
    { s with
      samples := r.2
      live := { s.live with store := { s.live.store with
        sampleWrite := some (bytes.drop n), cursor := .sample ph start length r.1 } } }
  | _, _ => s

/-- Whether a sample write in flight keeps within sample memory; adoption sees to it (R26). -/
def Live.writeInMemory (s : Live) : Bool :=
  match s.store.cursor with
  | .sample _ start length _ => decide (start + length ≤ Config.sampleMemory)
  | _ => true

/-- The reply to SAMPLE DATA: DONE with the write pointer as an offset from the start (R22). -/
def sampleDoneReply (s : Live) : Live :=
  match s.store.cursor with
  | .sample _ start _ ptr =>
    { s with store := { s.store with sampleWrite := none } }.putReply .c Kind.sampleData.replyCode .done
      (.pointer (ptr - start))
  | _ => s

/-- SAMPLE_WRITE_DONE (R22): the rest of the bytes is in the memory and the reply is sent. -/
def execSampleWriteDone (s : State) : Out :=
  whenOn s <|
    match s.live.store.sampleWrite with
    | none => .next s
    | some bytes =>
      if s.live.writeInMemory then
        let s := s.writeSamples bytes.length
        .next { s with live := sampleDoneReply s.live }
      else .fault .sampleAddress

/-! ## The checks of adoption (R25, R26) -/

/-- Whether the present entries a list of numbers names are present. -/
def namesPresent (present : Nat → Bool) (l : List Nat) : Bool := l.all present

/-- Whether heights rise strictly. -/
def rising : List Nat → Bool
  | a :: b :: rest => decide (a < b) && rising (b :: rest)
  | _ => true

/-- The geometry entry's relations (R25). -/
def Plan.geometryOk (p : Plan) : Bool :=
  let g := p.geometry
  g.loopLength % 2 == 0 && g.loopLength % g.cars == 0 && decide (2 * g.upRun < g.loopLength) &&
  rising g.landings && decide (1 ≤ g.landings.headD 0) && decide (g.landings.getLastD 0 ≤ g.upRun) &&
  decide (g.carHeight < p.pitch) && decide (2 * g.keepClear + 1 < p.pitch) &&
  (match g.evacScript with
    | none => true
    | some k => (p.script k).present)

/-- No entry of lower index for which `clash` holds. -/
def noneBelow (i : Nat) (clash : Nat → Bool) : Bool := (List.range i).all fun j => !clash j

def Plan.sillOk (p : Plan) (i : Nat) : Bool :=
  let e := p.sill i
  decide (e.landing < p.geometry.landings.length) &&
  noneBelow i fun j => (p.sill j).present && (p.sill j).landing == e.landing && (p.sill j).run == e.run

def Plan.zoneOk (p : Plan) (l : FieldLoop) (i : Nat) : Bool :=
  let e := p.zone i
  e.detectors.all (l.numbered .detector) &&
  noneBelow i (fun j => (p.zone j).present && (p.zone j).detectors.any e.detectors.contains) &&
  e.neighbours.all (fun z => (p.zone z).present && z != i) &&
  namesPresent (fun c => (p.circuit c).present) e.circuits &&
  e.channels.all (l.numbered .audio) &&
  e.landings.all (fun x => decide (x < p.geometry.landings.length)) &&
  noRepeat e.detectors && noRepeat e.neighbours && noRepeat e.circuits && noRepeat e.channels && noRepeat e.landings

def Plan.shutterOk (p : Plan) (l : FieldLoop) (i : Nat) : Bool :=
  let e := p.shutter i
  l.numbered .shutter i && (p.zone e.home).present &&
  (match e.sill with
    | none => true
    | some x => (p.sill x).present && noneBelow i fun j => (p.shutter j).present && (p.shutter j).sill == some x)

def Plan.pushOk (p : Plan) (l : FieldLoop) (i : Nat) : Bool :=
  let e := p.push i
  l.numbered .call i && (p.circuit e.circuit).present &&
  (match e.escalation with
    | none => true
    | some c => (p.circuit c).present)

def Plan.phraseOk (p : Plan) (i : Nat) : Bool :=
  let e := p.phrase i
  e.length == 0 || decide (e.start + e.length ≤ Config.sampleMemory)

/-- Every REPEAT item's target is an item of lower position (R26). -/
def repeatsBack : Nat → List Item → Bool
  | _, [] => true
  | i, .again k :: rest => decide (k < i) && repeatsBack (i + 1) rest
  | i, _ :: rest => repeatsBack (i + 1) rest

def optAll (ok : α → Bool) : Option α → Bool
  | none => true
  | some x => ok x

def Plan.stepOk (p : Plan) (l : FieldLoop) (i : Nat) : Bool :=
  let e := p.step i
  noneBelow i (fun j => (p.step j).present && decide (e.offset < (p.step j).offset)) &&
  optAll (fun k => (p.script k).present) e.script &&
  optAll (fun c => c.all (l.numbered .audio) && noRepeat c) e.channels &&
  optAll (fun c => namesPresent (fun x => (p.circuit x).present) c && noRepeat c) e.circuits &&
  optAll (fun z => namesPresent (fun x => (p.zone x).present) z && noRepeat z) e.zones

/-- Whether an entry passes its check; an entry that is not present is passed over (R25). -/
def Plan.entryOk (p : Plan) (l : FieldLoop) (t : PlanTable) (i : Nat) : Bool :=
  match t with
  | .geometry => p.geometryOk
  | .sills => !(p.sill i).present || p.sillOk i
  | .zones => !(p.zone i).present || p.zoneOk l i
  | .shutters => !(p.shutter i).present || p.shutterOk l i
  | .pushes => !(p.push i).present || p.pushOk l i
  | .circuits => !(p.circuit i).present || l.numbered .bell i
  | .phrases => p.phraseOk i
  | .scripts => !(p.script i).present || repeatsBack 0 (p.script i).items
  | .steps => !(p.step i).present || p.stepOk l i

/-- The tables in the order R25 takes them. -/
def checkOrder : List PlanTable :=
  [.geometry, .sills, .zones, .shutters, .pushes, .circuits, .phrases, .scripts, .steps]

/-- The first entry that fails, tables in order and indices ascending (R25). -/
def Plan.firstFailure (p : Plan) (l : FieldLoop) : Option (PlanTable × Nat) :=
  checkOrder.findSome? fun t => ((List.range (tableSize t)).find? fun i => !p.entryOk l t i).map fun i => (t, i)

/-! ## The end of the store write (R30) -/

/-- STORE_WRITE_DONE: the read-back has ended; the reply is sent and PLAN ADOPTED posted with the same flag. -/
def storeDoneStep (matched : Bool) (s : Live) : Live :=
  ({ s with store := { s.store with storeWriting := false, storeGood := matched } }.putReply .c
    Kind.planAdopt.replyCode .done (.stored matched)).post (.planAdopted matched)

def execStoreWriteDone (matched : Bool) (s : State) : Out :=
  whenOn s <|
    if s.live.store.storeWriting then
      .next { s with nv := { s.nv with valid := matched }, live := storeDoneStep matched s.live }
    else .next s

/-! ## The wear record (R47, R48) -/

/-- The later sequence number of the two places, 0 where neither holds a valid record. -/
def NonVolatile.lastSequence (n : NonVolatile) : Nat :=
  max ((n.wearA.map WearRecord.sequence).getD 0) ((n.wearB.map WearRecord.sequence).getD 0)

/-- Writes a wear record to the place not written last (R47). -/
def NonVolatile.writeWear (n : NonVolatile) (w : WearCounts) : NonVolatile :=
  let r : WearRecord := ⟨w, n.lastSequence + 1⟩
  if n.lastIsB then { n with wearA := some r, lastIsB := false } else { n with wearB := some r, lastIsB := true }

/-- WEAR_WRITE (R47), called for by a whole multiple of 60 s. -/
def execWearWrite (s : State) : Out :=
  whenOn s <|
    if s.live.wearDue then
      .next { s with nv := s.nv.writeWear s.live.monitor.wear, live := { s.live with wearDue := false } }
    else .next s

/-- The wear record a cold start takes: of the valid ones, the one with the later sequence number (R47). -/
def NonVolatile.readWear (n : NonVolatile) : Option WearCounts :=
  match n.wearA, n.wearB with
  | some a, some b => some (if b.sequence < a.sequence then a.counts else b.counts)
  | some a, none => some a.counts
  | none, some b => some b.counts
  | none, none => none

/-- WEAR READ without the clear option (R48). DESIGN CHOICE (notes/assumptions/56.md): a clear option that holds neither set
nor clear counts as not set, so its request is this row. -/
def execWearRead (p : Port) (body : Body Unit) (s : State) : Out :=
  onLive s (readRequest p .wearRead body fun _ s => (.done, .wear s.monitor.wear))

/-- WEAR READ with the clear option: port C alone (R48). The row stands for the option set and nothing else
(notes/assumptions/56.md). -/
def wearReadClear (p : Port) (s : Live) : Handled :=
  if p = .f then answer s .notPermitted
  else answerWith { s with monitor := { s.monitor with wear := .zero } } .done (.wear s.monitor.wear)

def execWearReadClear (p : Port) (body : Body Unit) (s : State) : Out :=
  onLive s (takeRequest p .wearRead breaksNever body.isFit (onBody body fun _ => wearReadClear p))

end Sys2Proof.Machine
end

