-- ==== Sys2Proof/Machine/Gear.lean ====
section
/-! DEFINITION. The Shutter Controller's own moves: changing a record with its outputs and notice, the conditions for
leaving ARMED, descent, obstruction, and the hand-overs it takes from the chain (R96, R101 to R111). What a close
request or a limit does to the chain stands in Shutters.lean, above the Chain Drive Controller. -/

namespace Sys2Proof.Machine
open Sys2Proof

/-- Replaces one record, nothing else. -/
def Live.withShutter (s : Live) (k : Nat) (r : ShutterRecord) : Live :=
  { s with gear := { s.gear with records := s.gear.records.put k r } }

/-- The notice of a record as it stands (R96). -/
def shutterNote (k : Nat) (r : ShutterRecord) : Note :=
  .shutterState k r.state r.cause r.uncleared r.forced r.obstructions

/-- Changes a record: a change of state writes the outputs, and a change of state or of cause posts SHUTTER STATE
(R96). -/
def Live.changeShutter (s : Live) (k : Nat) (r : ShutterRecord) : Live :=
  let old := s.shutter k
  let s := s.withShutter k r
  let s := if old.state = r.state then s else s.writeGear k r.state
  s.postIf (old.state != r.state || old.cause != r.cause) (shutterNote k r)

/-! ## Timers against the plan -/

/-- What the running warning timer runs to, in ms (R101, R102). -/
def Live.warnLimit (s : Live) (k : Nat) : Nat :=
  1000 * (if (s.shutter k).warnNight then s.plan.geometry.nightWarning else s.plan.geometry.fireWarning)

def Live.holdLimit (s : Live) : Nat := 1000 * s.plan.geometry.holdOff

def timerAt (limit : Nat) : Option Nat → Bool
  | some t => decide (limit ≤ t)
  | none => false

def Live.warnExpired (s : Live) (k : Nat) : Bool := timerAt (s.warnLimit k) (s.shutter k).warnTimer

def Live.holdExpired (s : Live) (k : Nat) : Bool := timerAt s.holdLimit (s.shutter k).holdTimer

/-! ## Descent -/

/-- The DOWN limit ends the descent (R107). DESIGN CHOICE (notes/assumptions/16.md): SHUTTER STATE of CLOSED is posted before
the closure is counted, which may post WEAR SATURATED. -/
def Live.closeAtLimit (s : Live) (k : Nat) : Live :=
  let r := s.shutter k
  (s.changeShutter k { r with state := .closed, travelTimer := none, holdTimer := none, phaseTimer := none }).raiseWear
    (.closure k)

/-- The third obstruction (R110). DESIGN CHOICE (notes/assumptions/16.md): SHUTTER STATE of HALTED is posted before SHUTTER
HALTED. -/
def Live.thirdObstruction (s : Live) (k : Nat) : Live :=
  let r := s.shutter k
  if r.cause = .fire then
    (s.withShutter k { r with forced := true }).post (.shutterForced k)
  else
    (s.changeShutter k { r with state := .halted, travelTimer := none, holdTimer := none, phaseTimer := none }).post
      (.shutterHalted k .obstruction)

/-- An obstruction met in DESCENDING (R108). DESIGN CHOICE (notes/assumptions/16.md): the wear count, which may post WEAR
SATURATED, then SHUTTER OBSTRUCTED, then what the obstruction leads to. -/
def Live.obstruct (s : Live) (k : Nat) : Live :=
  let r := s.shutter k
  let r := { r with obstructions := r.obstructions + 1 }
  let s := ((s.withShutter k r).raiseWear (.obstruction k)).post (.shutterObstructed k r.obstructions r.cause)
  if r.obstructions < 3 then s.changeShutter k { r with state := .lifting, phaseTimer := some 0 }
  else s.thirdObstruction k

/-- Entry to DESCENDING with the record `r`: its limits and EDGE are read as they stand (R106). -/
def Live.enterDescending (s : Live) (k : Nat) (r : ShutterRecord) : Live :=
  let s := s.changeShutter k { r with state := .descending }
  let i := s.input k
  if i.down.value && !i.up.value then s.closeAtLimit k
  else if i.edgeTaken && !r.forced then s.obstruct k
  else s

/-- Entry to DESCENDING from ARMED (R106). -/
def Live.leaveArmed (s : Live) (k : Nat) (uncleared : Bool) : Live :=
  let r := s.shutter k
  s.enterDescending k { r with uncleared := r.uncleared || uncleared, warnTimer := none, travelTimer := some 0 }

/-! ## The conditions for leaving ARMED (R103 to R105) -/

/-- The sill's answer as last handed (R97, R118); a plain shutter has none. -/
def Live.answerFor (s : Live) (k : Nat) : Option SillAnswer :=
  (s.plan.sillOf k).map fun i => s.gear.answerCopy.read i .unknown

/-- The sill's answer as SHUTTER WAITING and SHUTTER UNCLEARED give it: NOT A SILL and UNKNOWN as UNKNOWN. DESIGN CHOICE
(notes/assumptions/47.md): a CLEAR answer that finds the chain not at rest (in FAULT, say, or STOPPING BRAKED) is given as
CLEAR, where R104 and R105 list NOT CLEAR and UNKNOWN alone. -/
def noticeAnswer : Option SillAnswer → SillAnswer
  | some .clear => .clear
  | some .notClear => .notClear
  | _ => .unknown

/-- The condition Clear of R103. -/
def Live.clearHolds (s : Live) (k : Nat) : Bool := s.answerFor k == some .clear && s.gear.chainCopy.atRest

/-- The condition Hold-off of R103. -/
def Live.holdOffHolds (s : Live) (k : Nat) : Bool :=
  (s.shutter k).cause == .fire && s.holdExpired k && s.chain.drive == .brake

/-- Judges a shutter in ARMED whose warning has expired (R103 to R105). DESIGN CHOICES: a plain shutter of cause FIRE whose
hold-off has expired by then descends by the condition Plain, its uncleared flag clear and SHUTTER UNCLEARED not posted
(notes/assumptions/52.md); SHUTTER UNCLEARED is posted before the SHUTTER STATE of DESCENDING (notes/assumptions/16.md). -/
def Live.judge (s : Live) (k : Nat) : Live :=
  if (s.shutter k).state = .armed ∧ s.warnExpired k then
    if s.answerFor k = none ∨ s.clearHolds k then s.leaveArmed k false
    else if s.holdOffHolds k then
      (s.post (.shutterUncleared k (noticeAnswer (s.answerFor k)) s.gear.chainCopy)).leaveArmed k true
    else if (s.shutter k).waitingPosted then s
    else
      (s.withShutter k { s.shutter k with waitingPosted := true }).post
        (.shutterWaiting k (noticeAnswer (s.answerFor k)) s.gear.chainCopy)
  else s

/-- Judges the shutters for which `which` holds, in increasing number. -/
def Live.judgeWhere (s : Live) (which : Nat → Bool) : Live :=
  (List.range 32).foldl (fun s k => if which k then s.judge k else s) s

/-- Judges every sill shutter: the settled event, the end of settling and a change of chain state (R103). A plain
shutter does not look at the chain (R118). -/
def Live.judgeSills (s : Live) : Live := s.judgeWhere s.isSill

/-- Takes a change of chain state handed by the Chain Drive Controller (R51, R103). -/
def Live.takeChainState (s : Live) : Live :=
  if s.gear.chainCopy = s.chain.state then s
  else ({ s with gear := { s.gear with chainCopy := s.chain.state } }).judgeSills

/-- Takes a changed answer handed by the Chain Monitor for one sill (R44, R103). -/
def Live.takeAnswer (s : Live) (i : Nat) (a : SillAnswer) : Live :=
  let s := { s with gear := { s.gear with answerCopy := s.gear.answerCopy.put i a } }
  s.judgeWhere fun k => s.plan.sillOf k == some i

/-! ## The timed commands of one shutter -/

/-- SHUTTER_WARNING_EXPIRY (R103): judges the shutter where its warning timer has run out. -/
def execShutterWarningExpiry (k : Nat) (s : State) : Out :=
  onLive s fun s => if s.warnExpired k then s.judge k else s

/-- HOLD_OFF_EXPIRY (R104): judges the shutter where its hold-off has run out. -/
def execHoldOffExpiry (k : Nat) (s : State) : Out :=
  onLive s fun s => if s.holdExpired k then s.judge k else s

/-- Entry to PAUSED from LIFTING (R109). -/
def Live.pauseShutter (s : Live) (k : Nat) : Live :=
  s.changeShutter k { s.shutter k with state := .paused, phaseTimer := some 0 }

/-- RETRACT_EXPIRY (R109). -/
def retractStep (k : Nat) (s : Live) : Live :=
  if (s.shutter k).state = .lifting ∧ timerAt (s.plan.shutter k).retract (s.shutter k).phaseTimer then s.pauseShutter k
  else s

def execRetractExpiry (k : Nat) (s : State) : Out := onLive s (retractStep k)

/-- PAUSE_EXPIRY (R109): back into DESCENDING, the travel timer resuming (R106). -/
def pauseStep (k : Nat) (s : Live) : Live :=
  if (s.shutter k).state = .paused ∧ timerAt (1000 * (s.plan.shutter k).pause) (s.shutter k).phaseTimer then
    s.enterDescending k { s.shutter k with phaseTimer := none }
  else s

def execPauseExpiry (k : Nat) (s : State) : Out := onLive s (pauseStep k)

/-- Entry to JAMMED: the brake alone, every timer of the movement absent (R111, R113, R115). -/
def Live.jam (s : Live) (k : Nat) (why : JamReason) : Live :=
  s.changeShutter k { s.shutter k with
    state := .jammed, jam := some why, warnTimer := none, holdTimer := none, travelTimer := none, phaseTimer := none }

/-- A travel timer that exceeds a limit given in seconds. -/
def travelOver (seconds : Nat) : Option Nat → Bool
  | some t => decide (1000 * seconds < t)
  | none => false

/-- DESCENT_LIMIT_EXPIRY (R111). -/
def descentLimitStep (k : Nat) (s : Live) : Live :=
  if (s.shutter k).state = .descending ∧ travelOver (s.plan.shutter k).descentLimit (s.shutter k).travelTimer then
    s.jam k .travel
  else s

def execDescentLimitExpiry (k : Nat) (s : State) : Out := onLive s (descentLimitStep k)

/-- RAISE_LIMIT_EXPIRY (R113): the raise limit is twice the descent limit. -/
def raiseLimitStep (k : Nat) (s : Live) : Live :=
  if (s.shutter k).state = .raising ∧ travelOver (2 * (s.plan.shutter k).descentLimit) (s.shutter k).travelTimer then
    s.jam k .raise
  else s

def execRaiseLimitExpiry (k : Nat) (s : State) : Out := onLive s (raiseLimitStep k)

/-- EDGE_BLANKING_END (R9): the three scans have passed, and a sample of the EDGE is debounced from the held state.
Debouncing and the hand-over stand in Scan.lean. -/
def Live.edgeAsserted (s : Live) (k : Nat) : Live :=
  let r := s.shutter k
  if r.state = .descending ∧ r.forced = false then s.obstruct k else s

end Sys2Proof.Machine
end

