-- ==== Sys2Proof/Machine/Monitor.lean ====
section
/-! DEFINITION. The Chain Monitor: the answers at the sills, the interval ring and rolling speed, the drive output's
effect on them, and the part of a LINK or INDEX pulse that is the Chain Monitor's (R34 to R44). -/

namespace Sys2Proof.Machine
open Sys2Proof

/-! ## Answers (R44) -/

/-- The answer for sill `i` as it stands (R43, R44). -/
def Live.sillAnswer (s : Live) (i : Nat) : SillAnswer :=
  let e := s.plan.sill i
  if !e.present then .notASill
  else if s.monitor.position = .valid ∧ s.monitor.settled then
    if s.plan.sillClear e s.monitor.count then .clear else .notClear
  else .unknown

/-- Judges sill `i` afresh and hands a changed answer to the Shutter Controller (R44). -/
def Live.rejudgeSill (s : Live) (i : Nat) : Live :=
  let a := s.sillAnswer i
  if s.monitor.answers.read i .notASill = a then s
  else ({ s with monitor := { s.monitor with answers := s.monitor.answers.put i a } }).takeAnswer i a

/-- Judges every sill afresh (R44). -/
def Live.rejudge (s : Live) : Live := (List.range 16).foldl Live.rejudgeSill s

/-! ## The interval ring (R40, R41) -/

/-- The rolling speed of a ring (R41). -/
def ringSpeed (ring : List Nat) : Nat := if ring = [] then 0 else 10000 * ring.length / ring.sum

/-- An interval enters the ring, the oldest leaving a full one (R40). -/
def ringPush (ring : List Nat) (x : Nat) : List Nat :=
  if ring.length < Config.ringSize then ring ++ [x] else ring.tail ++ [x]

/-- The interval a timer reads: at least 1 tick and at most 65,535 (R40). -/
def intervalOf (reading : Int) : Nat := max 1 (min Config.intervalTop reading.toNat)

/-- The ring and timer at a LINK pulse `phase` ticks into the scan period, while the drive is off BRAKE (R40). -/
def ChainMonitor.timePulse (m : ChainMonitor) (phase : Nat) : ChainMonitor :=
  match m.intervalTimer with
  | none => { m with intervalTimer := some (-(phase : Int)) }
  | some t =>
    let ring := ringPush m.ring (intervalOf (t + phase))
    { m with ring := ring, speed := ringSpeed ring, intervalTimer := some (-(phase : Int)) }

/-- The drive output goes to BRAKE: the ring is emptied, v is 0 and the settle timer starts (R40, R42). -/
def ChainMonitor.braked (m : ChainMonitor) : ChainMonitor :=
  { m with ring := [], intervalTimer := none, speed := 0, settleTimer := some 0, settled := false }

/-- The drive output leaves BRAKE: settling ends and the settle timer stops (R40, R42). -/
def ChainMonitor.released (m : ChainMonitor) : ChainMonitor :=
  { m with ring := [], intervalTimer := none, speed := 0, settleTimer := none, settled := false }

/-- The Chain Drive Controller changes the drive output and hands the change to the Chain Monitor (R51). The stall
timer starts as the drive leaves BRAKE and stops as it returns (R65). -/
def Live.driveTo (s : Live) (d : DriveOutput) : Live :=
  if s.chain.drive = d then s
  else if d = .brake then
    { s with monitor := s.monitor.braked, chain := { s.chain with drive := .brake, stallTimer := none } }
  else if s.chain.drive = .brake then
    ({ s with monitor := s.monitor.released, chain := { s.chain with drive := d, stallTimer := some 0 } }).rejudge
  else { s with chain := { s.chain with drive := d } }

/-! ## The Chain Monitor's part of a LINK pulse -/

/-- The count after one pulse (R34). -/
def Live.nextCount (s : Live) : Nat :=
  if s.plan.geometry.loopLength ≤ s.monitor.count + 1 then 0 else s.monitor.count + 1

/-- The count advances, the links wear count rises, and a wrap arms the missed-index watch (R34, R39). -/
def Live.advanceCount (s : Live) : Live :=
  let c := s.nextCount
  ({ s with monitor := { s.monitor with
      count := c
      watchArmed := s.monitor.watchArmed || (c == 0 && s.monitor.position != Position.unknown) } }).raiseWear .link

/-- Whether the armed watch finds its index missed at the count as it stands (R39). -/
def Live.indexMissed (s : Live) : Bool :=
  s.monitor.watchArmed && s.monitor.count == s.plan.geometry.indexTolerance + 2

/-- The missed index makes the position UNKNOWN (R39). -/
def Live.loseIndex (s : Live) : Live :=
  if s.indexMissed then
    ({ s with monitor := { s.monitor with position := .unknown, watchArmed := false } }).post
      (.positionLost (s.plan.geometry.indexTolerance + 2))
  else s

/-- The interval timer's and the settle timer's part of a pulse: a pulse on a settled chain ends settling and posts
CHAIN DRIFT (R40, R42). -/
def Live.feedTimers (s : Live) (phase : Nat) : Live :=
  if s.chain.drive = .brake then
    let drift := s.monitor.settled
    ({ s with monitor := { s.monitor with settled := false, settleTimer := some 0 } }).postIf drift
      (.chainDrift s.monitor.count)
  else { s with monitor := s.monitor.timePulse phase }

/-- The Chain Monitor's part of a LINK pulse; the Shutter Controller is told of the end of settling. DESIGN CHOICE
(notes/assumptions/16.md): the notices come in the order WEAR SATURATED (R34), POSITION LOST (R39), CHAIN DRIFT (R42), then
those of the shutters that the changed answers and the end of settling reach. -/
def Live.monitorPulse (s : Live) (phase : Nat) : Live :=
  let drift := s.monitor.settled
  let s := (((s.advanceCount).loseIndex).feedTimers phase).rejudge
  if drift && !s.monitor.settled then s.judgeSills else s

/-! ## The Chain Monitor's part of an INDEX pulse -/

/-- The signed index error (R37). -/
def Live.indexError (s : Live) : Int :=
  if s.monitor.count ≤ s.plan.geometry.loopLength / 2 then s.monitor.count
  else (s.monitor.count : Int) - s.plan.geometry.loopLength

/-- The position state and the notice after an index of error `e` (R37). -/
def indexJudge (before : Position) (e : Int) (tolerance : Nat) : Position × Option Note :=
  match before with
  | .unknown => (.valid, some (.positionValid e))
  | .valid =>
    if e = 0 then (.valid, none)
    else if e.natAbs ≤ tolerance then (.valid, some (.resync e))
    else (.suspect, some (.positionSuspect e))
  | .suspect =>
    if e.natAbs ≤ tolerance then (.valid, some (.positionValid e)) else (.suspect, some (.positionSuspect e))

/-- The Chain Monitor's part of an INDEX pulse, before its hand-overs (R37). DESIGN CHOICE (notes/assumptions/16.md): WEAR
SATURATED is posted before the notice of the position. -/
def Live.monitorIndex (s : Live) : Live :=
  let e := s.indexError
  let j := indexJudge s.monitor.position e s.plan.geometry.indexTolerance
  let s := s.raiseWear .index
  let s := { s with monitor := { s.monitor with
    count := 0, watchArmed := false, lastError := some e, position := j.1 } }
  match j.2 with
  | some n => s.post n
  | none => s

end Sys2Proof.Machine
end

