-- ==== Sys2Proof/Machine/Drive.lean ====
section
/-! DEFINITION. The Chain Drive Controller: its changes of state, starting, planned stops, the fire stop, emergency
braking, flaps, sill shutters leaving OPEN, sweep and park, inspection, and its commands (chapter 4), with the commands
of the chain's pulses. -/

namespace Sys2Proof.Machine
open Sys2Proof

/-! ## Changes of state -/

/-- A change of chain state posts CHAIN STATE (R51). -/
def Live.setChain (s : Live) (st : ChainState) : Live :=
  if s.chain.state = st then s else ({ s with chain := { s.chain with state := st } }).post (.chainState st)

/-- A change of chain state with its hand-over to the Shutter Controller (R51). DESIGN CHOICE (notes/assumptions/16.md):
CHAIN STATE is posted before the Shutter Controller takes the change. -/
def Live.enterChain (s : Live) (st : ChainState) : Live := (s.setChain st).takeChainState

/-- A step under way brakes (R72, R73): the drive goes to BRAKE and STEPPING passes from CREEPING to BRAKED. Among the
changes R51 hands to the Shutter Controller and posts as CHAIN STATE is the INSPECTION sub-state, IDLE or STEPPING (R74), and
not the phase within STEPPING, so nothing is handed and nothing posted. -/
def Live.brakeStep (s : Live) : Live :=
  let s := s.driveTo .brake
  { s with chain := { s.chain with state := .inspection .braked } }

/-- A sweep ends: its remainder becomes absent and its gongs are de-asserted (R68). -/
def Live.endSweep (s : Live) : Live :=
  if s.chain.sweep.isSome then
    ({ s with chain := { s.chain with sweep := none, gongTimer := none } }).writeGongs false
  else s

/-- The drive output of service: REDUCED while SLOW is asserted, RUN otherwise (R55). -/
def Live.serviceDrive (s : Live) : DriveOutput := if s.chain.slow then .reduced else .run

/-! ## Planned stops (R56 to R60) -/

/-- Places a stop target with its cause (R57, R58). -/
def Live.placeStop (s : Live) (cause : StopCause) : Live :=
  let r := Machine.placeStop s.plan s.store.fullClear s.monitor.count s.monitor.speed
  let s := { s with chain := { s.chain with stop := some r, deferred := none } }
  if r.decel < r.linksToGo then s.enterChain (.stopping cause .approach)
  else (s.driveTo .creep).enterChain (.stopping cause .creeping)

/-- A planned stop requested in RUNNING: placed where the position is VALID, deferred otherwise (R56, R60). -/
def Live.requestStop (s : Live) (cause : StopCause) : Live :=
  let s := s.endSweep
  if s.monitor.position = .valid then s.placeStop cause
  else if s.chain.deferred.isSome then s
  else ({ s with chain := { s.chain with deferred := some cause } }).post (.stopDeferred cause)

/-- A change of the position state to VALID places a deferred stop (R60). -/
def Live.placeDeferred (s : Live) : Live :=
  match s.chain.state, s.chain.deferred with
  | .running, some cause => if s.monitor.position = .valid then (s.endSweep).placeStop cause else s
  | _, _ => s

/-! ## Emergency braking and the ends of a warning (R54, R63) -/

/-- An emergency brake (R63). DESIGN CHOICE (notes/assumptions/16.md): CHAIN STATE, the wear count, CHAIN EMERGENCY, and then
the hand-over of the new state to the Shutter Controller. -/
def Live.emergency (s : Live) (reason : EmergencyReason) (index : Nat) (target : ChainState) : Live :=
  let left := s.chain.drive
  let s := s.endSweep
  let s := { s with chain := { s.chain with stop := none, deferred := none, step := none } }
  ((((s.driveTo .brake).setChain target).raiseWear .emergency).post (.chainEmergency reason index left)).takeChainState

/-- A warning ends: the gongs are de-asserted at once and a carried sweep is dropped (R54). -/
def Live.endWarning (s : Live) (st : ChainState) : Live :=
  (({ s with chain := { s.chain with warnTimer := none, carriedLoops := none } }).writeGongs false).enterChain st

/-- A state that carries a stop or a step is left without settling: the record becomes absent. -/
def Live.dropTo (s : Live) (st : ChainState) : Live :=
  ({ s with chain := { s.chain with stop := none, step := none } }).enterChain st

/-- The fire stop (R61). -/
def Live.fireStop (s : Live) : Live :=
  match s.chain.state with
  | .running =>
    if s.monitor.position = .valid then (s.endSweep).placeStop .fire else s.emergency .fire 0 (.held .fire)
  | .stopping _ phase => s.enterChain (.stopping .fire phase)
  | .warning => s.endWarning (.held .fire)
  | .inspection .creeping => s.emergency .fire 0 (.held .fire)
  | .inspection .braked => s.dropTo (.held .fire)
  | .inspection .idle => s.enterChain (.held .fire)
  | .parked => s.enterChain (.held .fire)
  | .held _ => s.enterChain (.held .fire)
  | .fault => s

/-- What a flap trip or a sill shutter leaving OPEN does to a chain off BRAKE: a chain STOPPING(FIRE) keeps the cause
FIRE (R64, R66). -/
def heldAfter (st : ChainState) (cause : HeldCause) : ChainState :=
  match st with
  | .stopping .fire _ => .held .fire
  | _ => .held cause

/-- A flap trips (R64). -/
def Live.flapTrip (s : Live) (index : Nat) : Live :=
  match s.chain.state with
  | .running => s.emergency .flap index (.held .flap)
  | .stopping c .approach => s.emergency .flap index (heldAfter (.stopping c .approach) .flap)
  | .stopping c .creeping => s.emergency .flap index (heldAfter (.stopping c .creeping) .flap)
  | .stopping c .braked => s.dropTo (heldAfter (.stopping c .braked) .flap)
  | .warning => s.endWarning (.held .flap)
  | .inspection .creeping => s.emergency .flap index (.held .flap)
  | .inspection .braked => s.dropTo (.held .flap)
  | .inspection .idle => s
  | .parked => s
  | .held _ => s
  | .fault => s

/-- A sill shutter leaves OPEN; `byFire` is a close request of cause FIRE (R66). -/
def Live.sillLeavesOpen (s : Live) (k : Nat) (byFire : Bool) : Live :=
  match s.chain.state with
  | .running => s.emergency .shutter k (.held .hostEmergency)
  | .stopping c .approach => s.emergency .shutter k (heldAfter (.stopping c .approach) .hostEmergency)
  | .stopping c .creeping => s.emergency .shutter k (heldAfter (.stopping c .creeping) .hostEmergency)
  | .stopping _ .braked => s
  | .warning => s.endWarning (.held (if byFire then .fire else .hostEmergency))
  | .inspection .creeping => s.emergency .shutter k (.held .hostEmergency)
  | .inspection .braked => s
  | .inspection .idle => s
  | .parked => s
  | .held _ => s
  | .fault => s

/-! ## Changes of the chain pins (R55, R64) -/

/-- A change of a flap handed by the Field Scanner (R64). -/
def Live.flapChange (s : Live) (bottom : Bool) (tripped : Bool) : Live :=
  let s := { s with chain := if bottom then { s.chain with flapBottom := tripped } else { s.chain with flapTop := tripped } }
  let s := s.post (.flapChange bottom tripped)
  if tripped then s.flapTrip (if bottom then 1 else 0) else s

/-- A change of SLOW switches the drive in RUNNING and STOPPING APPROACH (R55). -/
def Live.slowChange (s : Live) (slow : Bool) : Live :=
  let s := { s with chain := { s.chain with slow := slow } }
  match s.chain.state with
  | .running => s.driveTo s.serviceDrive
  | .stopping _ .approach => s.driveTo s.serviceDrive
  | _ => s

/-! ## Starting (R53, R54) -/

/-- WARNING is entered: the timer starts and the gongs sound (R53, R54, R67). -/
def Live.enterWarning (s : Live) (loops : Option Nat) : Live :=
  (({ s with chain := { s.chain with warnTimer := some 0, carriedLoops := loops } }).writeGongs true).enterChain .warning

/-- A sweep begins: its remainder is set and the first stroke is struck (R67, R68). -/
def Live.beginSweep (s : Live) (loops : Nat) : Live :=
  ({ s with chain := { s.chain with sweep := some (loops * s.plan.geometry.loopLength), gongTimer := some 0 } }).writeGongs
    true

/-- Whether CHAIN START is taken from this state (R53). -/
def ChainState.startable : ChainState → Bool
  | .parked => true
  | .held _ => true
  | .fault => true
  | _ => false

/-- CHAIN START (R53). -/
def chainStart (s : Live) : Handled :=
  if s.chain.state.startable then
    match s.startRefusal with
    | some r => answer s (.busy r.1 r.2)
    | none => answer (s.enterWarning none) .done
  else answer s (.busy .state 0)

def execChainStart (p : Port) (body : Body Unit) (s : State) : Out :=
  onLive s (breakingRequest p .chainStart body fun _ => chainStart)

/-- The start-warning timer has run out (R54). -/
def startWarningEndStep (s : Live) : Live :=
  if s.chain.state = .warning ∧ timerAt (1000 * s.plan.geometry.startWarning) s.chain.warnTimer then
    let loops := s.chain.carriedLoops
    let s := ({ s with chain := { s.chain with warnTimer := none, carriedLoops := none } }).writeGongs false
    let s := (s.driveTo s.serviceDrive).enterChain .running
    match loops with
    | some n => s.beginSweep n
    | none => s
  else s

/-- START_WARNING_END (R54). -/
def execStartWarningEnd (s : State) : Out := onLive s startWarningEndStep

/-- WARNING_GONG_TOGGLE (R54): the gongs are on in even half-seconds of the warning and off in odd ones. -/
def warningGongStep (s : Live) : Live :=
  match s.chain.state, s.chain.warnTimer with
  | .warning, some t =>
    let want := t / Config.gongMs % 2 == 0
    if s.chain.gongsOn = want then s else s.writeGongs want
  | _, _ => s

def execWarningGongToggle (s : State) : Out := onLive s warningGongStep

/-- SWEEP_GONG_TIMER (R68): a stroke ends after 500 ms and the next is struck at 5 s. -/
def sweepGongStep (s : Live) : Live :=
  match s.chain.sweep, s.chain.gongTimer with
  | some _, some t =>
    if Config.sweepGongMs ≤ t then ({ s with chain := { s.chain with gongTimer := some 0 } }).writeGongs true
    else if Config.gongMs ≤ t ∧ s.chain.gongsOn then s.writeGongs false
    else s
  | _, _ => s

def execSweepGongTimer (s : State) : Out := onLive s sweepGongStep

/-! ## Stopping (R56) -/

/-- CHAIN STOP's effect by state (R56). -/
def Live.stopChain (s : Live) : Live :=
  match s.chain.state with
  | .running => if s.chain.deferred.isSome then s else s.requestStop .host
  | .warning => s.endWarning .parked
  | .inspection .creeping => ({ s with chain := { s.chain with step := some 0 } }).brakeStep
  | _ => s

def execChainStop (p : Port) (body : Body Unit) (s : State) : Out :=
  onLive s (breakingRequest p .chainStop body fun _ s => answer s.stopChain .done)

/-! ## Sweep and park (R67 to R70) -/

/-- A sweep request: the chain after it, and whether it is TAKEN (R67). -/
def Live.requestSweep (s : Live) : Live × Bool :=
  let loops := s.plan.geometry.sweepLoops
  match s.chain.state with
  | .running =>
    if s.chain.deferred.isSome then (s, false)
    else if s.chain.sweep.isSome then
      ({ s with chain := { s.chain with sweep := some (loops * s.plan.geometry.loopLength) } }, true)
    else (s.beginSweep loops, true)
  | .parked => if s.startRefusal.isNone then (s.enterWarning (some loops), true) else (s, false)
  | .warning => ({ s with chain := { s.chain with carriedLoops := some loops } }, true)
  | _ => (s, false)

/-- A park request: the chain after it, and whether it is TAKEN (R69). -/
def Live.requestPark (s : Live) : Live × Bool :=
  match s.chain.state with
  | .running => if s.chain.deferred.isSome then (s, false) else (s.requestStop .park, true)
  | .parked => (s, true)
  | _ => (s, false)

/-- The Closing Sequencer's clear of the sweep at an abort (R70). -/
def Live.clearSweep (s : Live) : Live :=
  match s.chain.state with
  | .running => s.endSweep
  | .warning => { s with chain := { s.chain with carriedLoops := none } }
  | _ => s

/-! ## Inspection (R71 to R73) -/

/-- CHAIN INSPECT ON (R71). -/
def inspectOn (s : Live) : Handled :=
  if s.chain.state = .parked then
    match s.sillNotOpen with
    | some k => answer s (.busy .shutter k)
    | none => answer (s.enterChain (.inspection .idle)) .done
  else answer s (.busy .state 0)

/-- CHAIN INSPECT OFF (R71). -/
def inspectOff (s : Live) : Handled :=
  match s.chain.state with
  | .inspection .idle => answer (s.enterChain .parked) .done
  | .inspection _ => answer s (.busy .state 0)
  | _ => answer s .done

/-- A row code that names neither ON nor OFF is refused BAD VALUE (R189). -/
def onRowCode (h : Live → Handled) (code : RowCode) (s : Live) : Handled :=
  match code with
  | .named => h s
  | .unnamed => answer s .badValue

def execChainInspectOn (p : Port) (body : Body RowCode) (s : State) : Out :=
  onLive s (breakingRequest p .chainInspect body (onRowCode inspectOn))

def execChainInspectOff (p : Port) (body : Body RowCode) (s : State) : Out :=
  onLive s (breakingRequest p .chainInspect body (onRowCode inspectOff))

/-- The conditions of CHAIN STEP other than the state: sill shutters and flaps (R72). DESIGN CHOICE
(notes/assumptions/23.md): with both flaps tripped the subject of FLAP is 0, the top flap's. -/
def Live.stepRefusal (s : Live) : Option (BusyReason × Nat) :=
  match s.sillNotOpen with
  | some k => some (.shutter, k)
  | none =>
    if s.chain.flapTop then some (.flap, 0)
    else if s.chain.flapBottom then some (.flap, 1)
    else none

/-- CHAIN STEP (R72). -/
def chainStep (n : Nat) (s : Live) : Handled :=
  if n = 0 then answer s .badValue
  else if s.chain.state = .inspection .idle then
    match s.stepRefusal with
    | some r => answer s (.busy r.1 r.2)
    | none =>
      let s := { s with chain := { s.chain with step := some (min n s.plan.geometry.loopLength) } }
      answer ((s.driveTo .creep).enterChain (.inspection .creeping)) .done
  else answer s (.busy .state 0)

def execChainStep (p : Port) (body : Body Nat) (s : State) : Out :=
  onLive s (breakingRequest p .chainStep body chainStep)

/-! ## The Chain Drive Controller's part of a LINK pulse (R52) -/

/-- The links to go after one pulse, with what the drive does (R52, R58). -/
def Live.stopPulse (s : Live) (cause : StopCause) (phase : StopPhase) (r : StopRecord) : Live :=
  let g := r.linksToGo - 1
  let s := { s with chain := { s.chain with stop := some { r with linksToGo := g } } }
  if g = 0 then (s.driveTo .brake).enterChain (.stopping cause .braked)
  else if phase = .approach ∧ g = r.decel then (s.driveTo .creep).enterChain (.stopping cause .creeping)
  else s

/-- One LINK pulse at the Chain Drive Controller (R52, R65). -/
def Live.drivePulse (s : Live) : Live :=
  let s := if s.chain.drive = .brake then s else { s with chain := { s.chain with stallTimer := some 0 } }
  match s.chain.state with
  | .running =>
    match s.chain.sweep with
    | some n =>
      if n ≤ 1 then s.requestStop .sweepEnd
      else { s with chain := { s.chain with sweep := some (n - 1) } }
    | none => s
  | .stopping _ .braked =>
    match s.chain.stop with
    | some r => { s with chain := { s.chain with stop := some { r with overrun := min Config.top16 (r.overrun + 1) } } }
    | none => s
  | .stopping cause phase =>
    match s.chain.stop with
    | some r => s.stopPulse cause phase r
    | none => s
  | .inspection .creeping =>
    match s.chain.step with
    | some n =>
      let s := { s with chain := { s.chain with step := some (n - 1) } }
      if n ≤ 1 then s.brakeStep else s
    | none => s
  | _ => s

/-- One LINK pulse `phase` ticks into the scan period (R34, R52). DESIGN CHOICE (notes/assumptions/51.md): the whole of the
Chain Monitor's part comes first (the count, the missed index of R39, the interval of R40, the sills of R44), so a sweep that
ends on the pulse finds the position and the rolling speed as the pulse leaves them. -/
def pulse (phase : Nat) (s : Live) : Live := (s.monitorPulse phase).drivePulse

/-- LINK_PULSE (R34). -/
def execLinkPulse (phase : Nat) (s : State) : Out := onLive s (pulse phase)

/-- DECEL_POINT (R58): the LINK pulse that brings the links to go to D. -/
def Live.reachesDecel (s : Live) : Bool :=
  match s.chain.state, s.chain.stop with
  | .stopping _ .approach, some r => decide (0 < r.decel) && r.linksToGo == r.decel + 1
  | _, _ => false

def execDecelPoint (phase : Nat) (s : State) : Out :=
  onLive s fun s => if s.reachesDecel then pulse phase s else s

/-- STOP_TARGET_REACHED (R58): the LINK pulse that brings the links to go to 0. -/
def Live.reachesTarget (s : Live) : Bool :=
  match s.chain.state, s.chain.stop with
  | .stopping _ .braked, _ => false
  | .stopping _ _, some r => r.linksToGo == 1
  | _, _ => false

def execStopTargetReached (phase : Nat) (s : State) : Out :=
  onLive s fun s => if s.reachesTarget then pulse phase s else s

/-- SWEEP_END (R68): the LINK pulse that brings the sweep remainder to 0. -/
def Live.reachesSweepEnd (s : Live) : Bool := s.chain.state == .running && s.chain.sweep == some 1

def execSweepEnd (phase : Nat) (s : State) : Out :=
  onLive s fun s => if s.reachesSweepEnd then pulse phase s else s

/-- STEP_REMAINDER_END (R72): the LINK pulse that brings the step remainder to 0. -/
def Live.reachesStepEnd (s : Live) : Bool := s.chain.state == .inspection .creeping && s.chain.step == some 1

def execStepRemainderEnd (phase : Nat) (s : State) : Out :=
  onLive s fun s => if s.reachesStepEnd then pulse phase s else s

/-- MISSED_INDEX (R39): the LINK pulse that brings the count to t + 2 with the watch armed. -/
def Live.reachesMissed (s : Live) : Bool :=
  s.monitor.watchArmed && s.nextCount == s.plan.geometry.indexTolerance + 2

def execMissedIndex (phase : Nat) (s : State) : Out :=
  onLive s fun s => if s.reachesMissed then pulse phase s else s

/-- One INDEX pulse (R37): the Chain Monitor's part, its answers, and a deferred stop that meets a VALID position, in that
order, which R36 leaves open (DESIGN CHOICE (notes/assumptions/16.md)). -/
def indexStep (s : Live) : Live :=
  let was := s.monitor.position
  let s := s.monitorIndex.rejudge
  if was = .valid then s else s.placeDeferred

/-- INDEX_PULSE (R37). -/
def execIndexPulse (s : State) : Out := onLive s indexStep

/-! ## The settled event and the stall (R42, R59, R65, R72) -/

/-- The settled event at the Chain Drive Controller (R59, R72). DESIGN CHOICE (notes/assumptions/16.md): CHAIN STATE is
posted, then CHAIN OVERRUN or STEP DONE, and only then is the new state handed to the Shutter Controller, whose notices
follow. -/
def Live.settleDrive (s : Live) : Live :=
  match s.chain.state with
  | .stopping cause .braked =>
    let overrun := (s.chain.stop.map StopRecord.overrun).getD 0
    let n := s.sillsNotClear
    let s := { s with chain := { s.chain with stop := none } }
    let s := s.setChain (if cause = .fire then .held .fire else .parked)
    (s.postIf (decide (1 ≤ overrun) || decide (1 ≤ n)) (.chainOverrun overrun n)).takeChainState
  | .inspection .braked =>
    let s := { s with chain := { s.chain with step := none } }
    ((s.setChain (.inspection .idle)).post (.stepDone s.monitor.count s.monitor.position)).takeChainState
  | _ => s

/-- The settle timer reaches 1,000 ms at BRAKE (R42). DESIGN CHOICE (notes/assumptions/53.md): the sills are judged first, as
R59 has it, and each changed answer is handed to the shutters as it is judged, while the chain still stands as it braked;
then the Chain Drive Controller ends its stop or step and hands its new state; then the shutters take the settled event. -/
def chainSettledStep (s : Live) : Live :=
  if s.chain.drive = .brake ∧ s.monitor.settled = false ∧ timerAt Config.settleMs s.monitor.settleTimer then
    let s := { s with monitor := { s.monitor with settled := true, settleTimer := none } }
    s.rejudge.settleDrive.judgeSills
  else s

/-- CHAIN_SETTLED (R42). -/
def execChainSettled (s : State) : Out := onLive s chainSettledStep

/-- The stall timer reaches the stall time with the drive off BRAKE (R65). -/
def stallStep (s : Live) : Live :=
  if s.chain.drive ≠ .brake ∧ timerAt s.plan.geometry.stallTime s.chain.stallTimer then s.emergency .stall 0 .fault
  else s

/-- STALL (R65). -/
def execStall (s : State) : Out := onLive s stallStep

/-! ## CHAIN READ (R45, R74) -/

def chainReadout (s : Live) : ChainReadout where
  state := s.chain.state
  drive := s.chain.drive
  stop := s.chain.stop
  deferred := s.chain.deferred
  sweep := s.chain.sweep
  carriedLoops := s.chain.carriedLoops
  step := s.chain.step
  warningLeft := s.chain.warnTimer.map fun t => 1000 * s.plan.geometry.startWarning - t
  flapTop := s.chain.flapTop
  flapBottom := s.chain.flapBottom
  slow := s.chain.slow
  count := s.monitor.count
  position := s.monitor.position
  speed := s.monitor.speed
  ringEntries := s.monitor.ring.length
  settled := s.monitor.settled
  lastError := s.monitor.lastError
  answers := s.monitor.answers
  cars :=
    if s.monitor.position = .valid then
      some ((List.range s.plan.geometry.cars).map fun k =>
        let f := s.plan.carFloor s.monitor.count k
        ⟨f, s.plan.runOf f⟩)
    else none

def execChainRead (p : Port) (body : Body Unit) (s : State) : Out :=
  onLive s (readRequest p .chainRead body fun _ s => (.done, .chain (chainReadout s)))

end Sys2Proof.Machine
end

