-- ==== Sys2Proof/Machine/Shutters.lean ====
section
/-! DEFINITION. What close requests, limit changes and lost modules do to a shutter and to the chain, and the shutter
requests of a host (R99 to R102, R107, R108, R112 to R119). -/

namespace Sys2Proof.Machine
open Sys2Proof

/-- Changes a record and tells the chain where a sill shutter leaves OPEN (R66, R118). DESIGN CHOICE
(notes/assumptions/16.md): SHUTTER STATE is posted before the notices of the chain that the leaving brings about. -/
def Live.moveShutter (s : Live) (k : Nat) (r : ShutterRecord) (byFire : Bool) : Live :=
  let leaves := s.isSill k && (s.shutter k).state == .opened && r.state != .opened
  let s := s.changeShutter k r
  if leaves then s.sillLeavesOpen k byFire else s

/-! ## Close requests (R99 to R102) -/

/-- Both limits asserted (R99, R115). -/
def Live.bothLimits (s : Live) (k : Nat) : Bool := (s.input k).up.value && (s.input k).down.value

/-- The record of a shutter entering ARMED by a close request (R101). -/
def armedRecord (cause : CloseCause) : ShutterRecord where
  state := .armed
  cause := cause
  uncleared := false
  forced := false
  obstructions := 0
  waitingPosted := false
  jam := none
  warnTimer := some 0
  warnNight := cause != .fire
  holdTimer := if cause = .fire then some 0 else none
  travelTimer := none
  phaseTimer := none

/-- Entry to ARMED; a fire warning of 0 s is judged at once (R101). DESIGN CHOICE (notes/assumptions/16.md): the chain takes
the shutter's leaving OPEN before that judging. -/
def Live.arm (s : Live) (k : Nat) (cause : CloseCause) : Live :=
  let s := s.moveShutter k (armedRecord cause) (cause == .fire)
  if s.warnExpired k then s.judge k else s

/-- A FIRE request that finds the shutter closing for another cause (R102). -/
def Live.upgrade (s : Live) (k : Nat) : Live :=
  let r := s.shutter k
  s.changeShutter k { r with
    cause := .fire, holdTimer := if r.state = .armed then some 0 else r.holdTimer }

/-- A close request by the shutter's state (R100). -/
def Live.closeByState (s : Live) (k : Nat) (cause : CloseCause) : Live :=
  match (s.shutter k).state with
  | .opened | .unplaced | .halted | .jammed | .raising => s.arm k cause
  | .armed | .descending | .lifting | .paused =>
    if cause = .fire ∧ (s.shutter k).cause ≠ .fire then s.upgrade k else s
  | .closed => s

/-- Whether a shutter stands JAMMED with both limits asserted (R99). -/
def Live.limitsJammed (s : Live) (k : Nat) : Bool := (s.shutter k).state == .jammed && s.bothLimits k

/-- Takes a close request of any cause (R99, R100). -/
def Live.closeRequest (s : Live) (k : Nat) (cause : CloseCause) : Live :=
  if s.limitsJammed k then s else s.closeByState k cause

/-! ## Changes of the limits and lost modules (R107, R108, R113, R115 to R117) -/

/-- Which limit changed. -/
inductive Limit | up | down
deriving DecidableEq, Repr

/-- An UP limit that becomes asserted in RAISING ends the raise (R113). -/
def Live.raiseEnds (s : Live) (k : Nat) : Live :=
  s.changeShutter k { s.shutter k with state := .opened, travelTimer := none }

/-- A limit change that does not leave both limits asserted, by the shutter's state (R106 to R109, R113, R116). -/
def Live.limitByState (s : Live) (k : Nat) (l : Limit) : Live :=
  let i := s.input k
  match (s.shutter k).state with
  | .opened => if i.up.value then s else s.moveShutter k { s.shutter k with state := .unplaced } false
  | .closed => if i.down.value then s else s.moveShutter k { s.shutter k with state := .unplaced } false
  | .unplaced =>
    if i.up.value && !i.down.value then s.moveShutter k { s.shutter k with state := .opened } false else s
  | .descending => if l = .down ∧ i.down.value then s.closeAtLimit k else s
  | .lifting => if l = .up ∧ i.up.value then s.pauseShutter k else s
  | .raising => if l = .up ∧ i.up.value then s.raiseEnds k else s
  | .armed | .paused | .halted | .jammed => s

/-- A limit fault (R115). -/
def Live.limitFault (s : Live) (k : Nat) : Live :=
  s.moveShutter k { s.shutter k with
    state := .jammed, jam := some .limits, warnTimer := none, holdTimer := none, travelTimer := none,
    phaseTimer := none } false

/-- A change of a limit handed by the Field Scanner (R115, R116). -/
def Live.limitChange (s : Live) (k : Nat) (l : Limit) : Live :=
  if (s.shutter k).state = .jammed then s
  else if s.bothLimits k then s.limitFault k
  else s.limitByState k l

/-- The loss of a SHUTTER module (R117). -/
def Live.shutterModuleLost (s : Live) (k : Nat) : Live :=
  if (s.shutter k).state = .opened then s.moveShutter k { s.shutter k with state := .unplaced } false else s

/-! ## The requests of a host -/

/-- A request of port C that names a present shutter (R99, R112, R114). -/
def onShutter (k : Nat) (h : Live → Handled) (s : Live) : Handled :=
  if 32 ≤ k then answer s .badValue
  else if (s.plan.shutter k).present then h s
  else answer s .noSuch

/-- SHUTTER LOWER (R99). The manual gives a BUSY of reason LIMITS no subject (notes/assumptions/12.md). -/
def shutterLower (k : Nat) (s : Live) : Handled :=
  if s.limitsJammed k then busyFree s .limits
  else
    let s := s.closeByState k .host
    answerWith s .done (.shutterState (s.shutter k).state)

def execShutterLower (p : Port) (body : Body Nat) (s : State) : Out :=
  onLive s (breakingRequest p .shutterLower body fun k => onShutter k (shutterLower k))

/-- The states SHUTTER RAISE is taken from (R112). -/
def ShutterState.raisable : ShutterState → Bool
  | .closed | .halted | .unplaced | .jammed => true
  | _ => false

/-- The record cleared for a raise (R112). -/
def raiseRecord (r : ShutterRecord) (st : ShutterState) (travel : Option Nat) : ShutterRecord :=
  { r with
    state := st, cause := .noCause, uncleared := false, forced := false, obstructions := 0, jam := none,
    warnTimer := none, holdTimer := none, travelTimer := travel, phaseTimer := none }

/-- An accepted raise (R112). -/
def Live.raiseShutter (s : Live) (k : Nat) : Live :=
  if (s.input k).up.value then s.moveShutter k (raiseRecord (s.shutter k) .opened none) false
  else s.moveShutter k (raiseRecord (s.shutter k) .raising (some 0)) false

/-- SHUTTER RAISE (R112). -/
def shutterRaise (k : Nat) (s : Live) : Handled :=
  if s.gear.fireSet.contains k then busyFree s .fire
  else if !(s.shutter k).state.raisable then busyFree s .state
  else if s.bothLimits k then busyFree s .limits
  else answer (s.raiseShutter k) .done

def execShutterRaise (p : Port) (body : Body Nat) (s : State) : Out :=
  onLive s (breakingRequest p .shutterRaise body fun k => onShutter k (shutterRaise k))

/-- A shutter enters HALTED by request (R114). DESIGN CHOICE (notes/assumptions/16.md): SHUTTER STATE is posted before
SHUTTER HALTED. -/
def Live.haltShutter (s : Live) (k : Nat) : Live :=
  (s.changeShutter k { s.shutter k with
    state := .halted, warnTimer := none, holdTimer := none, travelTimer := none, phaseTimer := none }).post
    (.shutterHalted k .host)

/-- SHUTTER HALT (R114). -/
def shutterHalt (k : Nat) (s : Live) : Handled :=
  match (s.shutter k).state with
  | .armed | .descending | .lifting | .paused =>
    if (s.shutter k).cause = .fire then busyFree s .fire else answer (s.haltShutter k) .done
  | .raising => answer (s.haltShutter k) .done
  | .halted => answer s .done
  | .opened | .closed | .unplaced | .jammed => busyFree s .state

def execShutterHalt (p : Port) (body : Body Nat) (s : State) : Out :=
  onLive s (breakingRequest p .shutterHalt body fun k => onShutter k (shutterHalt k))

/-! ## SHUTTER READ (R119) -/

/-- SHUTTER READ of one shutter (R119). DESIGN CHOICE (notes/assumptions/46.md): for an entry stored with its present flag
cleared and its other fields filled (R16), the home zone is returned as stored and the sill absent, since such a shutter
stands on no sill (R98). -/
def shutterReadout (s : Live) (k : Nat) : ShutterReadout where
  present := (s.plan.shutter k).present
  home := (s.plan.shutter k).home
  sill := s.plan.sillOf k
  record := s.shutter k
  up := (s.input k).up.value
  down := (s.input k).down.value
  edge := (s.input k).edge.value
  edgeBlanked := (s.input k).edgeBlanked
  release := s.image.release.read k false
  brake := s.image.brake.read k false
  wind := s.image.wind.read k false
  warn := s.image.warn.read k false
  inFireSet := s.gear.fireSet.contains k
  answer := (s.plan.sillOf k).map fun i => s.monitor.answers.read i .notASill

def shutterSummary (s : Live) (k : Nat) : ShutterSummary :=
  ⟨(s.plan.shutter k).present, (s.shutter k).state, (s.shutter k).cause⟩

def shutterRead (sel : ShutterSelector) (s : Live) : Result × Fields :=
  match sel with
  | .one k => if k < 32 then (.done, .shutter (shutterReadout s k)) else (.noSuch, .none)
  | .all => (.done, .shutters ((List.range 32).map (shutterSummary s)))

def execShutterRead (p : Port) (body : Body ShutterSelector) (s : State) : Out :=
  onLive s (readRequest p .shutterRead body shutterRead)

end Sys2Proof.Machine
end

