-- ==== Sys2Proof/Machine/Calls.lean ====
section
/-! DEFINITION. The call list and the circuits as one pair of blocks: a circuit's choice, beginning, giving up and
stopping of a ring (R140, R141, R145, R147, R149), and the joining, leaving and changing of calls (R120 to R132, R138). -/

namespace Sys2Proof.Machine
open Sys2Proof

/-! ## The list -/

def hasKey (key : CallKey) (r : CallRecord) : Bool := decide (r.key = key)

/-- The record with a key. -/
def Live.call (s : Live) (key : CallKey) : Option CallRecord := s.calls.find? (hasKey key)

/-- The place of the record with a key. -/
def Live.placeOf (s : Live) (key : CallKey) : Nat := s.calls.findIdx (hasKey key)

/-- Places a record after the last whose level is equal or higher (R121). -/
def insertCall (r : CallRecord) : List CallRecord → List CallRecord
  | [] => [r]
  | x :: rest => if r.level ≤ x.level then x :: insertCall r rest else r :: x :: rest

/-- The list without the record of a key. -/
def dropKey (key : CallKey) (l : List CallRecord) : List CallRecord := l.filter fun r => !hasKey key r

/-- Changes the record with key `key` where it stands. -/
def Live.updateCall (s : Live) (key : CallKey) (f : CallRecord → CallRecord) : Live :=
  { s with calls := s.calls.map fun r => if hasKey key r then f r else r }

/-- Replaces a record by `r`, placing it again where its level changed (R121). -/
def Live.replaceCall (s : Live) (old r : CallRecord) : Live :=
  if old.level = r.level then s.updateCall old.key fun _ => r
  else { s with calls := insertCall r (dropKey old.key s.calls) }

/-! ## Circuits -/

def Live.circuit (s : Live) (c : Nat) : CircuitRecord := s.circuits.read c ⟨none, 0, none⟩

def Live.withCircuit (s : Live) (c : Nat) (r : CircuitRecord) : Live := { s with circuits := s.circuits.put c r }

/-- A record is eligible on a circuit (R140). -/
def Live.eligible (s : Live) (c : Nat) (r : CallRecord) : Bool :=
  r.circuit == c && r.state == .waiting && (decide ((s.circuit c).mask < r.level) || r.level == Config.fireLevel)

/-- The first eligible record in list order (R140). -/
def Live.firstEligible (s : Live) (c : Nat) : Option CallRecord := s.calls.find? (s.eligible c)

/-- The first stroke of a pattern (R142, R143). -/
def firstStroke : Pattern → RingPlace
  | .coded code => .digit (decide (10 ≤ code)) 1
  | .closing => .group 1 1
  | .fire => .fire

/-- A circuit begins a record's ring (R141); the record becomes RINGING (R133). -/
def Live.beginRing (s : Live) (c : Nat) (r : CallRecord) : Live :=
  let s := s.withCircuit c { s.circuit c with ring := some ⟨r.key, r.pattern, firstStroke r.pattern, .on, 0⟩ }
  (s.writeSounder c true).updateCall r.key fun x => { x with state := .ringing }

/-- A circuit in IDLE chooses (R141); in RINGING it does not. -/
def Live.choose (s : Live) (c : Nat) : Live :=
  if (s.circuit c).ring.isSome then s
  else match s.firstEligible c with
    | some r => s.beginRing c r
    | none => s

/-- A boundary: a pending mask takes effect (R149). -/
def Live.takeMask (s : Live) (c : Nat) : Live :=
  let r := s.circuit c
  match r.pendingMask with
  | none => s
  | some m => (s.withCircuit c { r with mask := m, pendingMask := none }).postIf (m != r.mask) (.circuitMask c m r.mask)

/-- A circuit's ring goes to silence and IDLE, which is a boundary, and the circuit chooses (R146, R147). -/
def Live.stopRing (s : Live) (c : Nat) : Live :=
  let s := (s.withCircuit c { s.circuit c with ring := none }).writeSounder c false
  (s.takeMask c).choose c

/-- A circuit gives up its record, which becomes WAITING, and begins another (R133, R144, R145). -/
def Live.preempt (s : Live) (c : Nat) (ring : Ring) (r : CallRecord) : Live :=
  (s.updateCall ring.key fun x => { x with state := .waiting }).beginRing c r

/-- The word that a record stands WAITING on its circuit: a fire call takes a circuit that rings another pattern at
once (R141, R145). -/
def Live.tellCircuit (s : Live) (r : CallRecord) : Live :=
  match (s.circuit r.circuit).ring with
  | some ring => if r.pattern = .fire ∧ ring.pattern ≠ .fire then s.preempt r.circuit ring r else s
  | none => s.choose r.circuit

/-- Stops a circuit that rings the record of a key (R147). -/
def Live.stopIfRinging (s : Live) (c : Nat) (key : CallKey) : Live :=
  match (s.circuit c).ring with
  | some ring => if ring.key = key then s.stopRing c else s
  | none => s

/-- A setting of a circuit's mask (R149). -/
def Live.setMask (s : Live) (c m : Nat) : Live :=
  let s := s.withCircuit c { s.circuit c with pendingMask := some m }
  if (s.circuit c).ring.isSome then s else (s.takeMask c).choose c

/-! ## Joining and leaving -/

/-- The push whose indicator a record holds on (R128). -/
def indicatorOff (s : Live) (key : CallKey) : Live :=
  match key with
  | .push p => s.writeIndicator p false
  | _ => s

def indicatorOn (s : Live) (key : CallKey) : Live :=
  match key with
  | .push p => s.writeIndicator p true
  | _ => s

/-- A record leaves the list: a circuit ringing it stops and a PUSH call's indicator goes off (R128, R147). -/
def Live.takeOut (s : Live) (r : CallRecord) : Live :=
  let s := { s with calls := dropKey r.key s.calls }
  indicatorOff (s.stopIfRinging r.circuit r.key) r.key

/-- A record leaves the list for a reason that posts CALL REMOVED; the place is the one it leaves (notes/assumptions/25.md).
DESIGN CHOICE (notes/assumptions/16.md): its circuit stops first, and a pending mask that takes effect there (R147) posts
CIRCUIT MASK before CALL REMOVED. -/
def Live.removeCall (s : Live) (r : CallRecord) (why : RemoveReason) : Live :=
  let place := s.placeOf r.key
  (s.takeOut r).post (.callRemoved r.key r.number r.circuit r.level place why)

/-- The room check (R123): the list after it, and whether the new record finds room. DESIGN CHOICE (notes/assumptions/16.md):
a CIRCUIT MASK of the displaced record's circuit is posted before its CALL DROPPED. -/
def Live.makeRoom (s : Live) (r : CallRecord) : Live × Bool :=
  if s.calls.length < Config.callListSize then (s, true)
  else match s.calls.getLast? with
    | none => (s, true)
    | some last =>
      if last.level < r.level then
        let place := s.placeOf last.key
        ((s.takeOut last).post (.callDropped last.key last.number last.circuit last.level (some place) .displaced), true)
      else (s.post (.callDropped r.key r.number r.circuit r.level none .full), false)

/-- A new record joins the list (R121, R122); the second part says whether it was entered. -/
def Live.join (s : Live) (r : CallRecord) : Live × Bool :=
  let room := s.makeRoom r
  if room.2 then
    let s := { room.1 with calls := insertCall r room.1.calls }
    let s := s.post (.callEntered r.key r.number r.circuit r.level (s.placeOf r.key) false)
    ((indicatorOn s r.key).tellCircuit r, true)
  else (room.1, false)

/-- A record as it joins: WAITING, no ring done, arriving now (R122). -/
def newCall (s : Live) (key : CallKey) (circuit level : Nat) (pattern : Pattern) (needsAck : Bool) (presses : Nat)
    (reRing : Option Nat) : CallRecord where
  key := key
  circuit := circuit
  level := level
  pattern := pattern
  needsAck := needsAck
  state := .waiting
  rings := 0
  presses := presses
  reRing := reRing
  nextRing := none
  arrival := s.seconds

/-! ## Pushes (R124 to R127) -/

/-- The record after one more press: the count, and at each third press the level (R125). -/
def pressed (r : CallRecord) : CallRecord :=
  if Config.pressTop ≤ r.presses then r
  else
    let n := r.presses + 1
    { r with presses := n, level := if n % 3 = 0 then max r.level (min Config.levelTop (r.level + 1)) else r.level }

/-- A RESTING record returns to WAITING (R125, R135). -/
def woken (r : CallRecord) : CallRecord :=
  if r.state = .resting then { r with state := .waiting, nextRing := none } else r

/-- A repeated press (R125, R148). -/
def Live.pressAgain (s : Live) (p : Nat) (r : CallRecord) : Live :=
  let n := woken (pressed r)
  let s := (s.replaceCall r n).post (.callPressed p n.presses n.level n.state)
  if n.state = .waiting ∧ (r.state = .resting ∨ r.level ≠ n.level) then s.choose n.circuit else s

/-- A press (R124). -/
def Live.press (s : Live) (p : Nat) : Live :=
  let e := s.plan.push p
  if e.present then
    match s.call (.push p) with
    | some r => s.pressAgain p r
    | none => (s.join (newCall s (.push p) e.circuit e.level (.coded e.code) true 1 none)).1
  else s

/-- An acknowledgement at a push (R126). -/
def Live.attend (s : Live) (p : Nat) : Live :=
  match s.call (.push p) with
  | some r => s.removeCall r .attend
  | none => s

/-- A change of a push line: PUSH LINE, and then what the change does to the call (R124 to R127). -/
def Live.pushChange (s : Live) (p : Nat) (old new : PushState) : Live :=
  let s := s.postIf (new == .broken || old == .broken) (.pushLine p (new == .broken))
  match new with
  | .press => s.press p
  | .attend => s.attend p
  | .idle | .broken => s

/-! ## Fire and programme calls (R131, R132) -/

/-- A circuit enters the circuit set: its fire call joins (R131). -/
def Live.fireCallEnter (s : Live) (c : Nat) : Live :=
  match s.call (.fire c) with
  | some _ => s
  | none => (s.join (newCall s (.fire c) c Config.fireLevel .fire false 0 none)).1

/-- A circuit leaves the circuit set: its fire call leaves the list (R131). -/
def Live.fireCallLeave (s : Live) (c : Nat) : Live :=
  match s.call (.fire c) with
  | some r => s.removeCall r .fireDemand
  | none => s

/-- A programme call on one circuit; the second part says whether it was entered (R120, R132). -/
def Live.programmeCall (s : Live) (step c : Nat) : Live × Bool :=
  match s.call (.programme step c) with
  | some _ => (s, false)
  | none => s.join (newCall s (.programme step c) c Config.programmeLevel .closing false 0 none)

def isProgramme (r : CallRecord) : Bool :=
  match r.key with
  | .programme _ _ => true
  | _ => false

/-- The Closing Sequencer withdraws its calls (R132). DESIGN CHOICE (notes/assumptions/16.md): they leave, and CALL REMOVED
is posted for them, in the order of the list. -/
def Live.withdrawCalls (s : Live) : Live :=
  (s.calls.filter isProgramme).foldl (fun s r =>
    match s.call r.key with
    | some x => s.removeCall x .programme
    | none => s) s

/-! ## Emptying the list (R138, R151) -/

/-- Every circuit stopped under the plan's reset masks, with nothing reported and no CIRCUIT MASK (R151). -/
def Live.resetCircuits (s : Live) : Live :=
  let s := (List.range 16).foldl (fun s c => s.writeSounder c false) s
  { s with circuits := startCircuits s.plan }

/-- The list is emptied without a notice for each record; indicators that were on go off, blanking their lines
(R138). -/
def Live.emptyCalls (s : Live) : Live :=
  let s := { s with calls := [] }
  (List.range 64).foldl (fun s p => s.writeIndicator p false) s

/-! ## The requests of a host -/

/-- The record CALL PLACE calls for (R129). -/
def placedCall (s : Live) (f : CallPlaceFields) : CallRecord :=
  newCall s (.host f.code f.circuit) f.circuit f.level (.coded f.code) (f.mode == some .untilCleared) 0
    (clampReRing f.reRing)

/-- A standing record replaced in place (R129). DESIGN CHOICE (notes/assumptions/16.md): its circuit's own work, with a
CIRCUIT MASK, comes before CALL ENTERED. -/
def Live.replacePlaced (s : Live) (old : CallRecord) (f : CallPlaceFields) : Live :=
  let r := { placedCall s f with arrival := old.arrival, presses := old.presses }
  let s := s.replaceCall old r
  let s := if old.state = .ringing then s.stopIfRinging r.circuit r.key else s.choose r.circuit
  s.post (.callEntered r.key r.number r.circuit r.level (s.placeOf r.key) true)

/-- CALL PLACE (R129). -/
def callPlace (f : CallPlaceFields) (s : Live) : Handled :=
  if !f.inRange then answer s .badValue
  else if !(s.plan.circuit f.circuit).present then answer s .noSuch
  else
    match s.call (.host f.code f.circuit) with
    | some old =>
      let s := s.replacePlaced old f
      answerWith s .done (.place true (s.placeOf old.key))
    | none =>
      let r := placedCall s f
      let j := s.join r
      if j.2 then answerWith j.1 .done (.place false (j.1.placeOf r.key)) else answer j.1 .full

def execCallPlace (p : Port) (body : Body CallPlaceFields) (s : State) : Out :=
  onLive s (breakingRequest p .callPlace body callPlace)

/-- CALL CLEAR (R130). -/
def callClear (f : Option CallKey) (s : Live) : Handled :=
  match f with
  | none => answer s .badValue
  | some key =>
    if !key.inRange then answer s .badValue
    else match s.call key with
      | none => answer s .noSuch
      | some r => if r.pattern = .fire then busyFree s .fire else answer (s.removeCall r .clear) .done

def execCallClear (p : Port) (body : Body (Option CallKey)) (s : State) : Out :=
  onLive s (breakingRequest p .callClear body callClear)

/-- CALL LIST (R137). -/
def callList (first : Nat) (s : Live) : Result × Fields :=
  if Config.callListSize ≤ first then (.noSuch, .none)
  else (.done, .calls s.calls.length ((((List.range s.calls.length).zip s.calls).drop first).take 8))

def execCallList (p : Port) (body : Body Nat) (s : State) : Out := onLive s (readRequest p .callList body callList)

end Sys2Proof.Machine
end

