-- ==== Sys2Proof/Machine/Rings.lean ====
section
/-! DEFINITION. The course of a ring: its phases, stroke boundaries and completion with what the Call Queue makes of it
(R134 to R136, R139, R142 to R146), and the requests of a circuit (R149, R150). -/

namespace Sys2Proof.Machine
open Sys2Proof

/-! ## Patterns (R142, R143) -/

/-- The length of a phase in ms. -/
def phaseLength : Pattern → RingPhase → Nat
  | .coded _, .on => 150
  | .coded _, .off => 250
  | .coded _, .gap => 800
  | .closing, .on => 600
  | .closing, .off => 400
  | .closing, .gap => 2000
  | .fire, .on => 1000
  | .fire, .off => 500
  | .fire, .gap => 0

/-- The strokes of a digit: 0 is rung as 10 (R142). -/
def strokesOf (digit : Nat) : Nat := if digit = 0 then 10 else digit

/-- The strokes rung for a code's tens or units digit (R142). -/
def digitStrokes (code : Nat) (tens : Bool) : Nat := strokesOf (if tens then code / 10 else code % 10)

/-- Whether the end of this OFF completes the ring (R142, R143). -/
def Ring.lastStroke (r : Ring) : Bool :=
  match r.pattern, r.place with
  | .coded code, .digit false n => decide (digitStrokes code false ≤ n)
  | .closing, .group 3 n => decide (3 ≤ n)
  | _, _ => false

/-- The phase and place that follow the end of an OFF that is not the last (R142, R143). -/
def Ring.afterOff (r : Ring) : RingPhase × RingPlace :=
  match r.pattern, r.place with
  | .coded code, .digit true n => if digitStrokes code true ≤ n then (.gap, .digit true n) else (.on, .digit true (n + 1))
  | .closing, .group g n => if 3 ≤ n then (.gap, .group g n) else (.on, .group g (n + 1))
  | _, .digit t n => (.on, .digit t (n + 1))
  | _, p => (.on, p)

/-- The place that follows a GAP. -/
def Ring.afterGap (r : Ring) : RingPlace :=
  match r.place with
  | .digit _ _ => .digit false 1
  | .group g _ => .group (g + 1) 1
  | .fire => .fire

/-- The phase and place that follow the end of an OFF or a GAP. -/
def Ring.following (r : Ring) : RingPhase × RingPlace := if r.phase = .gap then (.on, r.afterGap) else r.afterOff

/-! ## The end of a phase -/

/-- A circuit's ring enters a phase; the sounder follows it (R139). -/
def Live.enterPhase (s : Live) (c : Nat) (ring : Ring) (phase : RingPhase) (place : RingPlace) : Live :=
  (s.withCircuit c { s.circuit c with ring := some { ring with phase := phase, place := place, timer := 0 } }).writeSounder
    c (phase == .on)

/-- The level of the record a circuit rings, as it stands. -/
def Live.ringLevel (s : Live) (ring : Ring) : Nat := ((s.call ring.key).map CallRecord.level).getD 0

/-- A stroke boundary (R144). -/
def Live.boundary (s : Live) (c : Nat) (ring : Ring) : Live :=
  let s := s.takeMask c
  match s.firstEligible c with
  | some r =>
    if s.ringLevel ring < r.level then s.preempt c ring r
    else s.enterPhase c ring ring.following.1 ring.following.2
  | none => s.enterPhase c ring ring.following.1 ring.following.2

/-- The record a completed ring leaves resting, before its re-ring second is set: escalated where its rings done has
reached the escalation rings (R136). -/
def escalated (p : Plan) (r : CallRecord) : CallRecord :=
  { r with
    level := max r.level (min Config.levelTop (r.level + 1))
    rings := 0
    circuit := match r.key with
      | .push q => ((p.push q).escalation).getD r.circuit
      | _ => r.circuit }

/-- A record enters RESTING (R134). -/
def rested (s : Live) (r : CallRecord) : CallRecord :=
  { r with state := .resting, nextRing := some (s.seconds + r.reRing.getD s.plan.geometry.reRing) }

/-- What the Call Queue makes of a completed ring (R134, R136). The level of CALL RUNG is the level the record was rung
at (notes/assumptions/24.md). -/
def Live.ringCompleted (s : Live) (r : CallRecord) : Live :=
  let r := { r with rings := r.rings + 1 }
  if r.needsAck then
    let due := decide (s.plan.geometry.escalationRings ≤ r.rings)
    let n := if due then escalated s.plan r else r
    let s := (s.replaceCall r (rested s n)).post (.callRung r.key r.circuit r.rings r.level (some .resting))
    s.postIf due (.callEscalated r.key n.level n.circuit r.circuit)
  else
    let place := s.placeOf r.key
    let s := indicatorOff { s with calls := dropKey r.key s.calls } r.key
    (s.post (.callRung r.key r.circuit r.rings r.level none)).post
      (.callRemoved r.key r.number r.circuit r.level place .completed)

/-- The end of the last OFF: the Call Queue is told first, and the circuit then enters IDLE and chooses (R146). -/
def Live.completeRing (s : Live) (c : Nat) (ring : Ring) : Live :=
  let s := match s.call ring.key with
    | some r => s.ringCompleted r
    | none => s
  s.stopRing c

/-- PHASE_END (R139): acts when the phase timer has reached its pattern's time. -/
def phaseEndStep (c : Nat) (s : Live) : Live :=
  match (s.circuit c).ring with
  | none => s
  | some ring =>
    if ring.timer < phaseLength ring.pattern ring.phase then s
    else
      match ring.phase with
      | .on => s.enterPhase c ring .off ring.place
      | .off => if ring.lastStroke then s.completeRing c ring else s.boundary c ring
      | .gap => s.boundary c ring

def execPhaseEnd (c : Nat) (s : State) : Out := onLive s (phaseEndStep c)

/-- RE_RING (R135): acts on the record named when its next-ring second has been reached. -/
def reRingStep (key : CallKey) (s : Live) : Live :=
  match s.call key with
  | none => s
  | some r =>
    match r.state, r.nextRing with
    | .resting, some n => if n ≤ s.seconds then (s.updateCall key woken).choose r.circuit else s
    | _, _ => s

def execReRing (key : CallKey) (s : State) : Out := onLive s (reRingStep key)

/-! ## The requests of a circuit -/

/-- CALL MASK with a level (R149). -/
def callMask (f : CallMaskFields) (s : Live) : Handled :=
  if 16 ≤ f.circuit ∨ Config.levelTop < f.level then answer s .badValue
  else if (s.plan.circuit f.circuit).present then
    let s := s.setMask f.circuit f.level
    answerWith s .done (.masks (s.circuit f.circuit).mask (s.circuit f.circuit).pendingMask)
  else answer s .noSuch

def execCallMask (p : Port) (body : Body CallMaskFields) (s : State) : Out :=
  onLive s (breakingRequest p .callMask body callMask)

/-- CALL MASK with the level absent: a read of the circuit (R150). -/
def circuitRead (c : Nat) (s : Live) : Result × Fields :=
  if c < 16 ∧ (s.plan.circuit c).present then (.done, .circuit (s.circuit c)) else (.noSuch, .none)

/-- CALL MASK with the level absent. DESIGN CHOICE (notes/assumptions/8.md): R17 and R150 leave open whether a CALL MASK
whose body does not fit, which gives no level to read, breaks a load; a misfit of this row is a read's and breaks none, one
of the row CALL MASK breaks it. -/
def execCircuitRead (p : Port) (body : Body Nat) (s : State) : Out := onLive s (readRequest p .callMask body circuitRead)

end Sys2Proof.Machine
end

