-- ==== Sys2Proof/Machine/Speech.lean ====
section
/-! DEFINITION. The Speech Controller: its channels and amplifiers (R164 to R166), the items of a play (R153 to R155),
the grant pass (R161), the evacuation entry (R159, R160, R162, R163), the ends of plays (R167), and its requests (R156
to R158, R168, R169). A grant pass called for by one event is made when the event is complete, so that it finds the
channels as R162 says. -/

namespace Sys2Proof

/-- The order of the classes, EVACUATE the highest (section 9.3). -/
def SpeakClass.rank : SpeakClass → Nat
  | .evacuate => 2
  | .closing => 1
  | .general => 0

/-- The duration of a SILENCE or CHIME item in ms (R155). -/
def Item.timed : Item → Option Nat
  | .silence ms => some ms
  | .chime => some Config.chimeMs
  | _ => none

end Sys2Proof

namespace Sys2Proof.Machine
open Sys2Proof

/-! ## Players and channels -/

def Live.player (s : Live) : Player → PlayerContext
  | .a => s.speech.playerA
  | .b => s.speech.playerB

def Live.withPlayer (s : Live) (pl : Player) (c : PlayerContext) : Live :=
  match pl with
  | .a => { s with speech := { s.speech with playerA := c } }
  | .b => { s with speech := { s.speech with playerB := c } }

def Live.channel (s : Live) (ch : Nat) : Channel := s.speech.channels.read ch .rest

/-- Whether SEL-A, or SEL-B, is asserted for a routing (R165). -/
def selects (routing : Option Player) (pl : Player) : Bool := routing == some pl

/-- Replaces a channel's record and writes its three outputs (R164 to R166). -/
def Live.withChannel (s : Live) (ch : Nat) (c : Channel) : Live :=
  ({ s with speech := { s.speech with channels := s.speech.channels.put ch c } }).writeChannel ch c.on
    (selects c.routing .a) (selects c.routing .b)

/-- The channels a player holds, in increasing number. -/
def Live.held (s : Live) (pl : Player) : List Nat := (List.range 8).filter fun ch => (s.channel ch).holder == some pl

/-- A channel is released (R166). -/
def Live.release (s : Live) (ch : Nat) : Live :=
  s.withChannel ch ⟨(s.channel ch).on, none, none, none, none, some 0⟩

def Live.releaseAll (s : Live) (pl : Player) : Live := (s.held pl).foldl Live.release s

/-- A player takes a channel (R164); in PLAYING a channel that is READY is routed at once (R165). -/
def Live.takeChannel (s : Live) (pl : Player) (ch : Nat) : Live :=
  if s.readyInput ch then
    s.withChannel ch ⟨true, some pl, some .ready, none, if (s.player pl).phase = .playing then some pl else none, none⟩
  else s.withChannel ch ⟨true, some pl, some .awaiting, some 0, none, none⟩

def Live.awaits (s : Live) (ch : Nat) : Bool := (s.channel ch).readiness == some .awaiting

/-! ## Samples (R152) -/

/-- The samples a player puts out where the scan period holds `room` more. -/
def PlayerContext.playing (c : PlayerContext) (room : Nat) : Nat := min room (c.remaining.getD 0)

/-- A player puts out the samples of its phrase that the scan period has room for (R152). -/
def PlayerContext.putOut (m : List Host.Cell) (c : PlayerContext) : PlayerContext :=
  match c.pointer with
  | none => { c with spare := 0 }
  | some a =>
    let n := c.playing c.spare
    { c with
      sound := c.sound ++ readSamples m a n
      pointer := some (a + n)
      remaining := c.remaining.map (· - n)
      spare := c.spare - n }

/-- Whether the samples a player is about to put out lie within sample memory. -/
def PlayerContext.inMemory (c : PlayerContext) (room : Nat) : Bool :=
  match c.pointer with
  | some a => decide (a + c.playing room ≤ Config.sampleMemory)
  | none => true

/-! ## The end of a play (R167) -/

/-- The player's context in IDLE; its sequence stands, its dropped channels stand until they leave the evacuation set or
the player takes the next play (R163, Live.setEvacuation, Live.takeUp), and what it put out in the last scan period has been
put out. -/
def idleContext (c : PlayerContext) : PlayerContext :=
  { PlayerContext.rest with sequence := c.sequence, dropped := c.dropped, sound := c.sound }

/-- The player releases its channels and becomes IDLE. -/
def Live.freePlayer (s : Live) (pl : Player) : Live :=
  let s := s.releaseAll pl
  s.withPlayer pl (idleContext (s.player pl))

/-- An evacuation play has ended and the entry rests (R160). -/
def Live.restEntry (s : Live) : Live :=
  { s with speech := { s.speech with evac := { s.speech.evac with state := .resting, restTimer := some 0 } } }

/-- The entry rests where the play was its own. -/
def Live.restAfter (s : Live) (r : SpeakRequest) : Live := if r.cls = .evacuate then s.restEntry else s

/-- A play completes its script (R167). -/
def Live.completePlay (s : Live) (pl : Player) : Live :=
  match (s.player pl).request with
  | some r => (((s.freePlayer pl).post (.speakDone r.tag r.cls r.origin)).restAfter r)
  | none => s

/-- A play is stopped, abandoned or cancelled (R167). -/
def Live.stopPlay (s : Live) (pl : Player) (why : AbandonReason) : Live :=
  match (s.player pl).request with
  | some r =>
    let item := (s.player pl).item
    (s.freePlayer pl).post (.speakAbandoned r.tag r.cls r.origin why item)
  | none => s

/-- A play that has no channel left is abandoned for want of amplifiers (R164, R165); an evacuation play then rests
(R160). -/
def Live.failPlay (s : Live) (pl : Player) : Live :=
  match (s.player pl).request with
  | some r => (s.stopPlay pl .amplifier).restAfter r
  | none => s

/-! ## Items (R153 to R155) -/

/-- The context zone an item reads: the evacuation entry's as it stands, another request's own (R154). -/
def Live.contextOf (s : Live) (r : SpeakRequest) : Option Nat :=
  if r.cls = .evacuate then s.speech.evac.context else r.context

/-- The phrase an item names, or none where the item names none and is skipped without a notice (R154). -/
def Live.namedPhrase (s : Live) (r : SpeakRequest) : Item → Option Nat
  | .phrase p => some p
  | .zoneName => (s.contextOf r).bind fun z => (s.plan.zone z).namePhrase
  | .number base =>
    match r.number with
    | none => none
    | some n => if n = 0 then none else some (base + min n Config.numberTop - 1)
  | _ => none

/-- The items of the script a request plays. -/
def Live.itemsOf (s : Live) (r : SpeakRequest) : List Item := (s.plan.script r.script).items

/-- The index advances past an item that has ended. -/
def PlayerContext.pastItem (c : PlayerContext) : PlayerContext :=
  { c with item := c.item.map (· + 1), pointer := none, remaining := none, itemTimer := none }

/-- An item naming a phrase begins, or is skipped where the phrase cannot be played (R154). The second part says
whether the item takes time. -/
def Live.beginPhrase (s : Live) (pl : Player) (r : SpeakRequest) (i ph : Nat) : Live × Bool :=
  let c := s.player pl
  let e := s.plan.phrase ph
  if ph < Config.phrases ∧ e.length ≠ 0 then
    (s.withPlayer pl { c with pointer := some e.start, remaining := some e.length }, true)
  else
    ((s.withPlayer pl { c.pastItem with missingPosted := true }).postIf (!c.missingPosted) (.phraseMissing r.tag ph i),
      false)

/-- Item `i` begins (R153); the second part says whether it takes time. -/
def Live.beginItem (s : Live) (pl : Player) (r : SpeakRequest) (i : Nat) (it : Item) : Live × Bool :=
  let c := s.player pl
  match it with
  | .silence _ | .chime => (s.withPlayer pl { c with itemTimer := some 0 }, true)
  | .again k =>
    if c.taken.contains i then (s.withPlayer pl c.pastItem, false)
    else (s.withPlayer pl { c with taken := c.taken ++ [i], item := some k }, false)
  | it =>
    match s.namedPhrase r it with
    | none => (s.withPlayer pl c.pastItem, false)
    | some ph => s.beginPhrase pl r i ph

/-- Takes items until one takes time or the script is complete (R153). A script of 16 items passes fewer than 300 in
a play, since each REPEAT is taken once. -/
def Live.runItems : Nat → Player → Live → Live
  | 0, _, s => s
  | fuel + 1, pl, s =>
    match (s.player pl).request, (s.player pl).item with
    | some r, some i =>
      match (s.itemsOf r)[i]? with
      | none => s.completePlay pl
      | some it =>
        let b := s.beginItem pl r i it
        if b.2 then b.1 else Live.runItems fuel pl b.1
    | _, _ => s

def itemFuel : Nat := 300

/-- The item in play ends and the next begins. -/
def Live.endItem (s : Live) (pl : Player) : Live := (s.withPlayer pl (s.player pl).pastItem).runItems itemFuel pl

/-! ## Warming and playing (R164, R165) -/

/-- Routes a READY channel to the player that holds it (R165). -/
def Live.route (s : Live) (pl : Player) (ch : Nat) : Live :=
  if (s.channel ch).readiness = some .ready then s.withChannel ch { s.channel ch with routing := some pl } else s

/-- The player enters PLAYING: its READY channels are routed and its first item begins (R153, R164). -/
def Live.enterPlaying (s : Live) (pl : Player) : Live :=
  let s := s.withPlayer pl { s.player pl with phase := .playing, item := some 0, taken := [] }
  ((s.held pl).foldl (fun s ch => s.route pl ch) s).runItems itemFuel pl

/-- A player in WARMING passes to PLAYING when it holds a channel and none is AWAITING; a player that holds none
abandons its request (R164, R165). -/
def Live.checkPlayer (s : Live) (pl : Player) : Live :=
  if (s.player pl).phase = .idle then s
  else if (s.held pl).isEmpty then s.failPlay pl
  else if (s.player pl).phase = .warming ∧ (s.held pl).any s.awaits = false then s.enterPlaying pl
  else s

/-- A player takes up a request (R161, R162). -/
def Live.takeUp (s : Live) (pl : Player) (r : SpeakRequest) : Live :=
  let c : PlayerContext := { PlayerContext.rest with
    phase := .warming, request := some r, sequence := s.speech.nextSequence, sound := (s.player pl).sound }
  let s := (({ s with speech := { s.speech with nextSequence := s.speech.nextSequence + 1 } }).withPlayer pl c)
  (r.channels.foldl (fun s ch => s.takeChannel pl ch) s).checkPlayer pl

/-- A channel is dropped from a play for want of READY (R164, R165). DESIGN CHOICE (notes/assumptions/16.md): AMP NOT READY
is posted before the SPEAK ABANDONED of a play left without a channel. -/
def Live.dropChannel (s : Live) (pl : Player) (ch : Nat) (why : AmpReason) : Live :=
  let c := s.player pl
  let tag := (c.request.map SpeakRequest.tag).getD 0
  let s := s.withPlayer pl { c with dropped := c.dropped ++ [ch] }
  ((s.release ch).post (.ampNotReady ch tag why)).checkPlayer pl

/-! ## The grant pass (R161) -/

def Live.idle (s : Live) (pl : Player) : Bool := (s.player pl).phase == .idle

def Live.chanFree (s : Live) (ch : Nat) : Bool := (s.channel ch).holder.isNone

def sharesNone (a b : List Nat) : Bool := a.all fun x => !b.contains x

/-- The first request of a queue that can be granted; `waiting` are the channels of the requests before it. -/
def Live.findGrant (s : Live) : List SpeakRequest → List Nat → Option SpeakRequest
  | [], _ => none
  | r :: rest, waiting =>
    if r.channels.all s.chanFree && sharesNone r.channels waiting then some r
    else s.findGrant rest (waiting ++ r.channels)

/-- The player a request is taken by: A if it is IDLE, B otherwise (R161, R162). -/
def Live.nextPlayer (s : Live) : Player := if s.idle .a then .a else .b

/-- Removes the request of a tag from the queue. -/
def Live.unqueue (s : Live) (tag : Nat) : Live :=
  { s with speech := { s.speech with queue := s.speech.queue.filter fun r => r.tag != tag } }

/-- Grants requests until none can be granted; each grant shortens the queue. -/
def Live.grantUpTo : Nat → Live → Live
  | 0, s => s
  | fuel + 1, s =>
    if s.idle .a || s.idle .b then
      match s.findGrant s.speech.queue [] with
      | some r => Live.grantUpTo fuel ((s.unqueue r.tag).takeUp s.nextPlayer r)
      | none => s
    else s

/-- The grant pass (R161). -/
def Live.grants (s : Live) : Live := s.grantUpTo s.speech.queue.length

/-! ## The evacuation entry (R159, R160, R162, R163) -/

/-- The entry as a request (section 9.4). DESIGN CHOICE (notes/assumptions/55.md): section 9.3 gives a request's arrival
second at its entry to the queue, which the evacuation entry never enters; it is the second at which a player takes it. -/
def Live.evacRequest (s : Live) (script : Nat) : SpeakRequest where
  tag := 0
  script := script
  channels := s.speech.evac.channels
  cls := .evacuate
  context := s.speech.evac.context
  number := none
  origin := .fireDemand
  arrival := s.seconds

/-- Step 1 of R162 for one player. -/
def Live.preemptPlayer (s : Live) (chs : List Nat) (pl : Player) : Live :=
  if (s.held pl).any chs.contains then s.stopPlay pl .preempted else s

/-- The rank of a player's request. -/
def PlayerContext.rank (c : PlayerContext) : Nat := (c.request.map fun r => SpeakClass.rank r.cls).getD 0

/-- The player step 2 of R162 stops: the lower class, or of one class the later grant. -/
def Live.lesserPlayer (s : Live) : Player :=
  if (s.player .a).rank < (s.player .b).rank then .a
  else if (s.player .b).rank < (s.player .a).rank then .b
  else if (s.player .a).sequence < (s.player .b).sequence then .b
  else .a

/-- The entry takes a player at once (R162). DESIGN CHOICE (notes/assumptions/16.md): where both players hold a channel of
the set, step 1 stops player A before B, which fixes the order of the two SPEAK ABANDONED notices. -/
def Live.evacTake (s : Live) (script : Nat) : Live :=
  let chs := s.speech.evac.channels
  let s := (s.preemptPlayer chs .a).preemptPlayer chs .b
  let s := if !s.idle .a && !s.idle .b then s.stopPlay s.lesserPlayer .preempted else s
  let s := { s with speech := { s.speech with evac := { s.speech.evac with state := .playing, restTimer := none } } }
  s.takeUp s.nextPlayer (s.evacRequest script)

/-- The entry is activated, or comes to the end of its rest (R159, R160). -/
def Live.evacBegin (s : Live) : Live :=
  match s.plan.geometry.evacScript with
  | some k => s.evacTake k
  | none =>
    { s with speech := { s.speech with evac := { s.speech.evac with state := .unscripted, restTimer := none } } }

/-- The player that plays the evacuation entry. -/
def Live.evacPlayer (s : Live) : Option Player :=
  let holds := fun pl => ((s.player pl).request.map fun r => r.cls == .evacuate) == some true
  if holds .a then some .a else if holds .b then some .b else none

def otherPlayer : Player → Player
  | .a => .b
  | .b => .a

/-- A channel that joins the set of an evacuation play is taken, from the other player if it holds it; one the play has
dropped does not join (R163). -/
def Live.joinPlay (s : Live) (pl : Player) (ch : Nat) : Live :=
  if (s.channel ch).holder = some pl || (s.player pl).dropped.contains ch then s
  else (s.preemptPlayer [ch] (otherPlayer pl)).takeChannel pl ch

/-- The dropped channels after the evacuation set passes from `before` to `now`: those that leave the set leave them
(R163). -/
def PlayerContext.leaveSet (before now : List Nat) (c : PlayerContext) : PlayerContext :=
  { c with dropped := c.dropped.filter fun ch => !before.contains ch || now.contains ch }

/-- The entry takes a channel set and a context zone (R159); the channels that leave the set leave the dropped channels of
both players, whatever the state of the entry (R163). DEDUCED (notes/assumptions/43.md): R163 does not confine this to the
player of the entry. -/
def Live.setEvacuation (s : Live) (chs : List Nat) (context : Option Nat) : Live :=
  let leave := PlayerContext.leaveSet s.speech.evac.channels chs
  { s with speech := { s.speech with
    playerA := leave s.speech.playerA
    playerB := leave s.speech.playerB
    evac := { s.speech.evac with channels := chs, context := context } } }

/-- A change of the channel set or the context zone while the entry is PLAYING on a player (R154, R163). -/
def Live.evacChange (s : Live) (pl : Player) : Live :=
  let chs := s.speech.evac.channels
  let c := s.player pl
  let s := s.withPlayer pl { c with
    request := c.request.map fun r => { r with channels := chs, context := s.speech.evac.context } }
  let s := (s.held pl).foldl (fun s ch => if chs.contains ch then s else s.release ch) s
  (chs.foldl (fun s ch => s.joinPlay pl ch) s).checkPlayer pl

/-- The entry becomes INACTIVE. -/
def Live.evacEnd (s : Live) : Live :=
  { s with speech := { s.speech with evac := { s.speech.evac with state := .inactive, restTimer := none } } }

/-- Takes the channel set and context zone the Zone Monitor hands (R91, R159). -/
def Live.evacDemand (s : Live) (chs : List Nat) (context : Option Nat) : Live :=
  let st := s.speech.evac.state
  let s := s.setEvacuation chs context
  let s :=
    if chs.isEmpty then
      match st, s.evacPlayer with
      | .playing, some pl => (s.stopPlay pl .demand).evacEnd
      | _, _ => s.evacEnd
    else
      match st, s.evacPlayer with
      | .inactive, _ => s.evacBegin
      | .playing, some pl => s.evacChange pl
      | _, _ => s
  s.grants

/-! ## Timed commands -/

/-- Whether the item timer of a player has reached its item's duration. -/
def Live.itemDue (s : Live) (pl : Player) : Bool :=
  match (s.player pl).request, (s.player pl).item, (s.player pl).itemTimer with
  | some r, some i, some t =>
    match ((s.itemsOf r)[i]?).bind Item.timed with
    | some d => decide (d ≤ t)
    | none => false
  | _, _, _ => false

/-- ITEM_TIMER_EXPIRY (R155). -/
def execItemTimerExpiry (pl : Player) (s : State) : Out :=
  onLive s fun s => if s.itemDue pl then (s.endItem pl).grants else s

/-- The item after a phrase that has ended begins; a phrase puts out its first samples in what is left of the scan period
(R153, notes/assumptions/36.md). -/
def phraseEndStep (m : List Host.Cell) (pl : Player) (s : Live) : Live :=
  if (s.player pl).remaining = some 0 then
    let s := s.endItem pl
    (s.withPlayer pl ((s.player pl).putOut m)).grants
  else s

/-- Whether the samples that follow the end of a player's phrase lie within sample memory; adoption sees to it (R26). -/
def Live.phraseEndInMemory (s : Live) (pl : Player) : Bool :=
  (s.player pl).remaining != some 0 || ((s.endItem pl).player pl).inMemory (s.player pl).spare

/-- PHRASE_END (R152, R153): the remaining samples have reached 0. -/
def execPhraseEnd (pl : Player) (s : State) : Out :=
  whenOn s <|
    if s.live.phraseEndInMemory pl then .next { s with live := phraseEndStep s.samples pl s.live }
    else .fault .sampleAddress

/-- AMP_WAIT_EXPIRY (R164). -/
def ampWaitStep (ch : Nat) (s : Live) : Live :=
  match (s.channel ch).holder, (s.channel ch).readiness with
  | some pl, some .awaiting =>
    if timerAt Config.ampWaitMs (s.channel ch).waitTimer then (s.dropChannel pl ch .timeout).grants else s
  | _, _ => s

def execAmpWaitExpiry (ch : Nat) (s : State) : Out := onLive s (ampWaitStep ch)

/-- AMP_HOLD_EXPIRY (R166). -/
def ampHoldStep (ch : Nat) (s : Live) : Live :=
  if (s.channel ch).holder = none ∧ timerAt Config.ampHoldMs (s.channel ch).holdTimer then
    s.withChannel ch { s.channel ch with on := false, holdTimer := none }
  else s

def execAmpHoldExpiry (ch : Nat) (s : State) : Out := onLive s (ampHoldStep ch)

/-- EVACUATION_REST_EXPIRY (R160). -/
def evacRestStep (s : Live) : Live :=
  if s.speech.evac.state = .resting ∧ timerAt (1000 * s.plan.geometry.evacRepeat) s.speech.evac.restTimer then
    s.evacBegin.grants
  else s

def execEvacuationRestExpiry (s : State) : Out := onLive s evacRestStep

/-- A change of a channel's READY handed by the Field Scanner (R164, R165). -/
def Live.readyChange (s : Live) (ch : Nat) (ready : Bool) : Live :=
  let c := s.channel ch
  match c.holder, c.readiness with
  | some pl, some .awaiting =>
    if ready then
      let routing := if (s.player pl).phase = .playing then some pl else none
      ((s.withChannel ch { c with readiness := some .ready, waitTimer := none, routing := routing }).checkPlayer pl).grants
    else s
  | some pl, some .ready => if ready then s else (s.dropChannel pl ch .lost).grants
  | _, _ => s

/-! ## Entering and leaving the queue (R156 to R158) -/

/-- Whether a tag is held by a queued or playing request. -/
def Live.tagHeld (s : Live) (t : Nat) : Bool :=
  s.speech.queue.any (fun r => r.tag == t) ||
    [Player.a, .b].any fun pl => ((s.player pl).request.map SpeakRequest.tag) == some t

def tagAfter (t : Nat) : Nat := if 65535 ≤ t then 1 else t + 1

/-- The next tag no request holds; at most ten are held (R156). -/
def Live.freeTag (s : Live) : Nat → Nat → Nat
  | 0, t => t
  | fuel + 1, t => if s.tagHeld t then s.freeTag fuel (tagAfter t) else t

/-- Places a request after the last of its class (R157). -/
def placeRequest (r : SpeakRequest) (q : List SpeakRequest) : List SpeakRequest :=
  if r.cls = .closing then
    q.filter (fun x => x.cls == .closing) ++ [r] ++ q.filter fun x => x.cls != .closing
  else q ++ [r]

/-- A request that finds room takes the next tag and enters; the second part is its tag. -/
def Live.enqueue (s : Live) (r : SpeakRequest) : Live × Nat :=
  let t := s.freeTag 11 s.speech.nextTag
  ({ s with speech := { s.speech with
      queue := placeRequest { r with tag := t, arrival := s.seconds } s.speech.queue, nextTag := tagAfter t } }, t)

/-- A request enters the speak queue (R157); the second part is its tag, absent where it was not entered. -/
def Live.enterQueue (s : Live) (r : SpeakRequest) : Live × Option Nat :=
  if s.speech.queue.length < Config.speakQueueSize then
    let e := s.enqueue r
    (e.1.grants, some e.2)
  else if r.cls = .closing then
    match s.speech.queue.reverse.find? (fun x => x.cls == .general) with
    | some last =>
      let s := (s.unqueue last.tag).post (.speakDropped last.tag last.cls last.origin .displaced)
      let e := s.enqueue r
      (e.1.grants, some e.2)
    | none => (s.post (.speakDropped 0 r.cls r.origin .full), none)
  else (s, none)

def isClosing (r : SpeakRequest) : Bool := r.cls == .closing

/-- The notice of a CLOSING request withdrawn from the queue. -/
def withdrawn (r : SpeakRequest) : Note := .speakAbandoned r.tag r.cls r.origin .programme none

/-- The Closing Sequencer withdraws the queued CLOSING requests (R158). DESIGN CHOICE (notes/assumptions/16.md): their
SPEAK ABANDONED notices come in queue order. -/
def Live.withdrawSpeech (s : Live) : Live :=
  let out := s.speech.queue.filter isClosing
  let s := { s with speech := { s.speech with queue := s.speech.queue.filter fun r => !isClosing r } }
  (s.postAll (out.map withdrawn)).grants

/-! ## The requests of a host -/

def portOrigin : Port → Origin
  | .c => .portC
  | .f => .portF

/-- The place of a tag in the queue, absent where it has left (R156). DESIGN CHOICE (notes/assumptions/49.md): the places
are counted from 0, as those of the call list are; chapter 9 does not say. -/
def Live.queuePlace (s : Live) (t : Nat) : Option Nat := s.speech.queue.findIdx? fun r => r.tag == t

/-- SPEAK (R156). -/
def speak (p : Port) (f : SpeakFields) (s : Live) : Handled :=
  if p = .f ∧ f.cls ≠ some .general then answer s .notPermitted
  else if !f.inRange then answer s .badValue
  else if !(s.plan.script f.script).present || !f.channels.all (s.loop.numbered .audio) then answer s .noSuch
  else
    let r : SpeakRequest :=
      ⟨0, f.script, f.channels, f.cls.getD .general, f.context, clampNumber f.number, portOrigin p, s.seconds⟩
    let e := s.enterQueue r
    match e.2 with
    | some t => answerWith e.1 .done (.tag t (e.1.queuePlace t))
    | none => answer e.1 .full

def execSpeak (p : Port) (body : Body SpeakFields) (s : State) : Out := onLive s (breakingRequest p .speak body (speak p))

/-- The player that holds a tag. -/
def Live.playerOf (s : Live) (t : Nat) : Option Player :=
  [Player.a, .b].find? fun pl => ((s.player pl).request.map SpeakRequest.tag) == some t

/-- Whether port F may not touch a request of this origin (R168). -/
def foreign (p : Port) (o : Origin) : Bool := p == .f && o != .portF

/-- The origin of a playing request. -/
def Live.playingOrigin (s : Live) (pl : Player) : Origin := ((s.player pl).request.map SpeakRequest.origin).getD .fireDemand

/-- SPEAK CANCEL (R168). -/
def speakCancel (p : Port) (t : Nat) (s : Live) : Handled :=
  if t = 0 then (if p = .f then answer s .notPermitted else busyFree s .fire)
  else match s.speech.queue.find? (fun r => r.tag == t) with
    | some r =>
      if foreign p r.origin then answer s .notPermitted
      else
        answer (((s.unqueue t).post (.speakAbandoned t r.cls r.origin .cancelled none)).grants) .done
    | none =>
      match s.playerOf t with
      | some pl =>
        if foreign p (s.playingOrigin pl) then answer s .notPermitted
        else answer ((s.stopPlay pl .cancelled).grants) .done
      | none => answer s .noSuch

def execSpeakCancel (p : Port) (body : Body Nat) (s : State) : Out :=
  onLive s (breakingRequest p .speakCancel body (speakCancel p))

/-- What SPEAK LIST returns of the request a player holds (R169). -/
def SpeakRequest.held (r : SpeakRequest) : HeldRequest :=
  ⟨r.tag, r.cls, r.origin, r.script, r.channels, r.context, r.number⟩

def playerReadout (s : Live) (pl : Player) : PlayerReadout :=
  let c := s.player pl
  ⟨c.phase, c.request.map SpeakRequest.held, c.item, c.remaining, c.itemTimer, (s.held pl).map fun ch => (ch, (s.channel ch).readiness)⟩

def channelReadout (s : Live) (ch : Nat) : ChannelReadout :=
  let c := s.channel ch
  ⟨c.on, s.readyInput ch, c.holder, c.routing, c.waitTimer, c.holdTimer⟩

/-- SPEAK LIST (R169). DESIGN CHOICE (notes/assumptions/50.md): the evacuation entry's script is the active plan's in every
state of the entry, INACTIVE too, and absent only where the plan names none. -/
def speakReadout (s : Live) : SpeakReadout where
  playerA := playerReadout s .a
  playerB := playerReadout s .b
  evac :=
    ⟨s.speech.evac.state, s.speech.evac.channels, s.speech.evac.context, s.plan.geometry.evacScript,
      s.speech.evac.restTimer.map fun t => 1000 * s.plan.geometry.evacRepeat - t⟩
  queue := s.speech.queue
  channels := (List.range 8).map (channelReadout s)

def execSpeakList (p : Port) (body : Body Unit) (s : State) : Out :=
  onLive s (readRequest p .speakList body fun _ s => (.done, .speak (speakReadout s)))

/-! ## The warm restart (R170) -/

/-- Both players are stopped and the queue emptied, nothing posted; the entry becomes INACTIVE. DEDUCED
(notes/assumptions/43.md): its channel set is then empty, and the channels that stood in it leave the dropped channels. -/
def Live.restartSpeech (s : Live) : Live :=
  let s := (((s.freePlayer .a).freePlayer .b).setEvacuation [] none).evacEnd
  { s with speech := { s.speech with queue := [] } }

end Sys2Proof.Machine
end

