-- ==== Sys2Proof/Machine/Closing.lean ====
section
/-! DEFINITION. The Closing Sequencer: the execution of its steps (R172 to R177), the catch-up of late ones (R179), its
requests (R178, R180, R181, R183, R184) and the suspension by fire (R182). -/

namespace Sys2Proof

/-- Whether a step is of a kind that R179 skips when it is late. -/
def StepKind.skippedLate : StepKind → Bool
  | .announce | .bell => true
  | _ => false

end Sys2Proof

namespace Sys2Proof.Machine
open Sys2Proof

def Live.withClosing (s : Live) (c : Closing) : Live := { s with closing := c }

/-- The notice of a change of state or of the close instant (R171). -/
def Live.postProgramme (s : Live) (why : ProgrammeReason) : Live :=
  s.post (.programmeState s.closing.state s.closing.closeInstant why)

/-! ## Executing one step (R173 to R177) -/

/-- How a step was taken: its result, or the reason it was skipped. -/
inductive Taken | executed (r : StepResult) | skipped (r : SkipReason)
deriving DecidableEq, Repr

/-- The minutes to the close, rounded up; absent at or after the close (R173). -/
def minutesTo (close now : Nat) : Option Nat := if close ≤ now then none else some ((close - now + 59) / 60)

/-- An ANNOUNCE step (R173). -/
def Live.announce (s : Live) (i : Nat) (e : StepEntry) (close : Nat) : Live × Taken :=
  let r : SpeakRequest :=
    ⟨0, e.script.getD 0, e.channels.getD [], .closing, none, clampNumber (minutesTo close s.seconds), .programme i,
      s.seconds⟩
  let q := s.enterQueue r
  (q.1, .executed (.tag (q.2.getD 0)))

/-- The elements of a set in increasing order. -/
def increasing (n : Nat) (l : List Nat) : List Nat := (List.range n).filter l.contains

/-- A BELL step (R174): the calls in increasing circuit order, and how many were entered. -/
def Live.bell (s : Live) (i : Nat) (e : StepEntry) : Live × Taken :=
  let r := (increasing 16 (e.circuits.getD [])).foldl (fun a c =>
    let j := a.1.programmeCall i c
    (j.1, if j.2 then a.2 + 1 else a.2)) (s, 0)
  (r.1, .executed (.calls r.2))

/-- The chain's answer to a SWEEP or a PARK step (R175). -/
def chainAnswer (a : Live × Bool) : Live × Taken :=
  (a.1, if a.2 then .executed (.chain a.1.chain.state) else .skipped (.chain a.1.chain.state))

/-- The states of a shutter that a NIGHT-CLOSE step sends a request to (R176). -/
def ShutterState.nightEligible : ShutterState → Bool
  | .opened | .unplaced | .halted | .jammed => true
  | _ => false

/-- A NIGHT-CLOSE step (R176). -/
def Live.nightClose (s : Live) (e : StepEntry) : Live × Taken :=
  let ks := (List.range 32).filter fun k =>
    (s.plan.shutter k).present && (e.zones.getD []).contains (s.plan.shutter k).home &&
      (s.shutter k).state.nightEligible
  (ks.foldl (fun s k => s.closeRequest k .night) s, .executed (.requests ks.length))

/-- A MASK step (R177). DESIGN CHOICE (notes/assumptions/16.md): its level is handed to the circuits of its set in increasing
number, and the notices CIRCUIT MASK come in that order (R149). -/
def Live.maskStep (s : Live) (e : StepEntry) : Live × Taken :=
  let m := e.level.getD 0
  ((increasing 16 (e.circuits.getD [])).foldl (fun s c => s.setMask c m) s, .executed (.level m))

/-- Executes a step by the rule of its kind (section 10.3). -/
def Live.executeStep (s : Live) (i close : Nat) : Live × Taken :=
  let e := s.plan.step i
  match e.kind with
  | .announce => s.announce i e close
  | .bell => s.bell i e
  | .sweep => chainAnswer s.requestSweep
  | .park => chainAnswer s.requestPark
  | .nightClose => s.nightClose e
  | .mask => s.maskStep e

/-! ## Taking the steps that are due (R172, R179) -/

/-- The due second of a step (R172). -/
def Live.dueSecond (s : Live) (i close : Nat) : Int := (close : Int) + (s.plan.step i).offset

def Closing.mark (c : Closing) (i : Nat) : Option Mark := c.marks.read i none

/-- The lowest step whose mark is PENDING. -/
def Closing.nextPending (c : Closing) : Option Nat := (List.range 24).find? fun i => c.mark i == some .pending

def Closing.countOf (c : Closing) (m : Mark) : Nat := ((List.range 24).filter fun i => c.mark i == some m).length

/-- Takes step `i`; `catchUp` is whether late steps are judged (R179). -/
def Live.takeStep (s : Live) (i close : Nat) (catchUp : Bool) : Live × Taken :=
  if catchUp && decide (s.dueSecond i close < s.seconds) && (s.plan.step i).kind.skippedLate then (s, .skipped .late)
  else s.executeStep i close

/-- Marks a step, moves the pointer to the next PENDING step and posts what became of it (R172). DESIGN CHOICE
(notes/assumptions/16.md): the step's own effects, with their notices, come before PROGRAMME STEP or STEP SKIPPED. -/
def Live.markStep (s : Live) (i : Nat) (t : Taken) : Live :=
  let mark := match t with
    | .executed _ => Mark.executed
    | .skipped _ => Mark.skipped
  let c := { s.closing with marks := s.closing.marks.put i (some mark) }
  let s := s.withClosing { c with pointer := c.nextPending }
  match t with
  | .executed r => s.post (.programmeStep i (s.plan.step i).kind r)
  | .skipped r => s.post (.stepSkipped i (s.plan.step i).kind r)

/-- A run is complete when no PENDING step remains (R172). -/
def Live.finishRun (s : Live) : Live :=
  (s.withClosing { s.closing with state := .idle, closeInstant := none, pointer := none }).post
    (.programmeDone (s.closing.countOf .executed) (s.closing.countOf .skipped))

/-- Takes the steps from the pointer while the step there is due (R172, R179); a run has at most 24 steps. -/
def Live.takeDue (catchUp : Bool) : Nat → Live → Live
  | 0, s => s
  | fuel + 1, s =>
    match s.closing.state, s.closing.closeInstant, s.closing.pointer with
    | .running, some close, some i =>
      if s.dueSecond i close ≤ s.seconds then
        let t := s.takeStep i close catchUp
        Live.takeDue catchUp fuel (t.1.markStep i t.2)
      else s
    | .running, _, none => s.finishRun
    | _, _, _ => s

def stepFuel : Nat := 25

/-- CLOSING_STEP_DUE (R172). -/
def execClosingStepDue (s : State) : Out := onLive s (Live.takeDue false stepFuel)

/-! ## The requests of a host -/

/-- The marks of a run as it begins (R178). -/
def startMarks (p : Plan) : Bank 24 (Option Mark) :=
  Bank.build 24 fun i => if (p.step i).present then some .pending else none

/-- CLOSING BEGIN (R178). -/
def closingBegin (n : Nat) (s : Live) : Handled :=
  let marks := startMarks s.plan
  if !within 60 7200 n then answer s .badValue
  else if !(List.range 24).any (fun i => (s.plan.step i).present) then answer s .noSuch
  else if s.closing.state ≠ .idle then busyFree s .state
  else match s.lowestAlarm with
    | some z => answer s (.busy .zone z)
    | none =>
      let close := s.seconds + n
      let c : Closing := ⟨.running, some close, none, marks⟩
      let s := (s.withClosing { c with pointer := c.nextPending }).postProgramme .begin
      answerWith (s.takeDue true stepFuel) .done (.closeInstant close)

def execClosingBegin (p : Port) (body : Body Nat) (s : State) : Out :=
  onLive s (breakingRequest p .closingBegin body closingBegin)

/-- The lowest NIGHT-CLOSE step of this run that is EXECUTED (R180). -/
def Live.nightClosed (s : Live) : Option Nat :=
  (List.range 24).find? fun i => s.closing.mark i == some .executed && (s.plan.step i).kind == .nightClose

/-- CLOSING POSTPONE (R180). -/
def closingPostpone (n : Nat) (s : Live) : Handled :=
  if !within 60 3600 n then answer s .badValue
  else match s.closing.state, s.closing.closeInstant with
    | .running, some close =>
      match s.nightClosed with
      | some i => answer s (.busy .nightClose i)
      | none =>
        let s := (s.withClosing { s.closing with closeInstant := some (close + n) }).postProgramme .postpone
        answerWith s .done (.closeInstant (close + n))
    | _, _ => busyFree s .state

def execClosingPostpone (p : Port) (body : Body Nat) (s : State) : Out :=
  onLive s (breakingRequest p .closingPostpone body closingPostpone)

/-- CLOSING ABORT (R181). -/
def closingAbort (s : Live) : Handled :=
  match s.closing.state with
  | .idle => busyFree s .state
  | .running | .suspended =>
    let s := s.withClosing { s.closing with state := .idle, closeInstant := none, pointer := none }
    answer (s.withdrawCalls.withdrawSpeech.clearSweep.postProgramme .abort) .done

def execClosingAbort (p : Port) (body : Body Unit) (s : State) : Out :=
  onLive s (breakingRequest p .closingAbort body fun _ => closingAbort)

/-- CLOSING RESUME (R183). -/
def closingResume (s : Live) : Handled :=
  match s.closing.state with
  | .suspended =>
    match s.lowestAlarm with
    | some z => answer s (.busy .zone z)
    | none =>
      let s := (s.withClosing { s.closing with state := .running }).postProgramme .resume
      answer (s.takeDue true stepFuel) .done
  | .idle | .running => busyFree s .state

def execClosingResume (p : Port) (body : Body Unit) (s : State) : Out :=
  onLive s (breakingRequest p .closingResume body fun _ => closingResume)

/-- A suspend request of the Zone Monitor (R182). DESIGN CHOICE (notes/assumptions/16.md): the withdrawals, with their
notices, come before PROGRAMME STATE. -/
def Live.suspendClosing (s : Live) : Live :=
  match s.closing.state with
  | .running =>
    ((s.withClosing { s.closing with state := .suspended }).withdrawCalls.withdrawSpeech).postProgramme .fire
  | .idle | .suspended => s

/-- CLOSING READ (R184). -/
def closingReadout (s : Live) : ClosingReadout where
  state := s.closing.state
  seconds := s.seconds
  close := s.closing.closeInstant
  left := s.closing.closeInstant.map fun c => (c : Int) - s.seconds
  pointer := s.closing.pointer
  steps := (List.range 24).map fun i => ⟨s.closing.mark i, s.closing.closeInstant.map (s.dueSecond i)⟩

def execClosingRead (p : Port) (body : Body Unit) (s : State) : Out :=
  onLive s (readRequest p .closingRead body fun _ s => (.done, .closing (closingReadout s)))

end Sys2Proof.Machine
end

