-- ==== Sys2Proof/Machine/Zones.lean ====
section
/-! DEFINITION. The Zone Monitor: latching, re-sounding and the line condition (R77 to R81), the handing of the fire
demand to the other blocks (R88 to R92), the zone requests (R82 to R86) and ZONE READ (R93). -/

namespace Sys2Proof.Machine
open Sys2Proof

def Live.withZone (s : Live) (z : Nat) (r : ZoneRecord) : Live := { s with zones := s.zones.put z r }

/-- The notice of a zone as it stands (R78). -/
def zoneNote (z : Nat) (r : ZoneRecord) : Note := .zoneState z r.state r.silenced r.firstAlarm

/-- Sets a zone's record and posts ZONE STATE (R78, R82). -/
def Live.setZone (s : Live) (z : Nat) (r : ZoneRecord) : Live := (s.withZone z r).post (zoneNote z r)

/-! ## Handing the demand (R88 to R91) -/

/-- Whether a zone calls for a fire stop: it lists a landing, or its contribution holds a shutter whose record names a
sill (R88). -/
def Plan.callsFireStop (p : Plan) (z : Nat) : Bool :=
  !(p.zone z).landings.isEmpty || (p.contribution z).any fun k => (p.sillOf k).isSome

/-- A zone's contribution issued in full: the close requests in increasing shutter number and the fire stop (R88). -/
def Live.issue (s : Live) (z : Nat) : Live :=
  let s := (s.plan.contribution z).foldl (fun s k => s.closeRequest k .fire) s
  if s.plan.callsFireStop z then s.fireStop else s

/-- The circuits that left and entered the circuit set since `before` (R90, R131). DESIGN CHOICE
(notes/assumptions/16.md): R90 orders the circuits entering; those leaving are taken before them, in increasing number, and
their CALL REMOVED notices come in that order. -/
def Live.handCircuits (s : Live) (before : List Nat) : Live :=
  let now := s.demand.circuits
  let s := (before.filter fun c => !now.contains c).foldl Live.fireCallLeave s
  (now.filter fun c => !before.contains c).foldl Live.fireCallEnter s

/-- The channel set and context zone, where either changed since `before` (R91). -/
def Live.handSpeech (s : Live) (before : Demand) : Live :=
  let now := s.demand
  if now.channels = before.channels ∧ now.context = before.context then s
  else s.evacDemand now.channels now.context

/-- The demand recomputed and handed on after a change that issues nothing (R88, R89). DESIGN CHOICE
(notes/assumptions/16.md): the shutter set, the circuits, then the channel set. -/
def Live.handDemand (s : Live) (before : Demand) : Live :=
  let s := { s with gear := { s.gear with fireSet := s.demand.shutters } }
  (s.handCircuits before.circuits).handSpeech before

/-- The demand handed on after zone `z` enters ALARM or re-sounds: the contribution is issued, and an entry into ALARM
suspends the closing programme (R88, R92). DESIGN CHOICE (notes/assumptions/16.md): the shutter set, the close requests, the
fire stop, the suspend request, the circuits, then the channel set. -/
def Live.handAlarm (s : Live) (before : Demand) (z : Nat) (entered : Bool) : Live :=
  let s := { s with gear := { s.gear with fireSet := s.demand.shutters } }
  let s := s.issue z
  let s := if entered then s.suspendClosing else s
  (s.handCircuits before.circuits).handSpeech before

/-! ## Changes of a detector (R77 to R81) -/

/-- A zone latches (R79). -/
def Live.latch (s : Live) (z d : Nat) : Live :=
  let before := s.demand
  let r : ZoneRecord := { s.zone z with state := .alarm, silenced := false, firstAlarm := some d, alarmSecond := some s.seconds }
  (((s.withZone z r).post (.zoneAlarm z d)).post (zoneNote z r)).handAlarm before z true

/-- A fresh alarm in a zone in ALARM (R80). -/
def Live.resound (s : Live) (z d : Nat) : Live :=
  let s := s.post (.zoneAlarm z d)
  if (s.zone z).silenced then
    let before := s.demand
    (s.setZone z { s.zone z with silenced := false }).handAlarm before z false
  else s

/-- A zone in NORMAL or FAULT takes its line condition (R78). -/
def Live.takeLine (s : Live) (z : Nat) : Live :=
  let st := s.lineCondition z
  if (s.zone z).state = st then s else s.setZone z { s.zone z with state := st }

/-- A change of a detector's debounced state, which stands in the field loop already (R77). -/
def Live.detectorChange (s : Live) (d : Nat) : Live :=
  match s.plan.zoneOf d with
  | none => s
  | some z =>
    match (s.zone z).state with
    | .normal | .fault => if s.detector d = .alarm then s.latch z d else s.takeLine z
    | .alarm => if s.detector d = .alarm then s.resound z d else s
    | .isolated => s

/-! ## The zone requests (R82 to R86) -/

/-- A zone request that names a present zone (R82). -/
def onZone (z : Nat) (h : Live → Handled) (s : Live) : Handled :=
  if 16 ≤ z then answer s .badValue
  else if (s.plan.zone z).present then h s
  else answer s .noSuch

/-- ZONE ISOLATE (R83). -/
def zoneIsolate (z : Nat) (s : Live) : Handled :=
  match (s.zone z).state with
  | .normal | .fault => answer (s.setZone z { s.zone z with state := .isolated }) .done
  | .isolated => answer s .done
  | .alarm => answer s (.busy .state z)

def execZoneIsolate (p : Port) (body : Body Nat) (s : State) : Out :=
  onLive s (breakingRequest p .zoneIsolate body fun z => onZone z (zoneIsolate z))

/-- A zone returns to service (R84). -/
def Live.restoreZone (s : Live) (z : Nat) : Live :=
  match s.alarmedDetector z with
  | some d => s.latch z d
  | none => s.setZone z { s.zone z with state := s.lineCondition z }

/-- ZONE RESTORE (R84). -/
def zoneRestore (z : Nat) (s : Live) : Handled :=
  match (s.zone z).state with
  | .isolated => answer (s.restoreZone z) .done
  | .normal | .fault | .alarm => answer s (.busy .state z)

def execZoneRestore (p : Port) (body : Body Nat) (s : State) : Out :=
  onLive s (breakingRequest p .zoneRestore body fun z => onZone z (zoneRestore z))

/-- A zone is silenced (R85). -/
def Live.silenceZone (s : Live) (z : Nat) : Live :=
  if (s.zone z).silenced then s
  else
    let before := s.demand
    (s.setZone z { s.zone z with silenced := true }).handDemand before

/-- ZONE SILENCE (R85). -/
def zoneSilence (z : Nat) (s : Live) : Handled :=
  match (s.zone z).state with
  | .alarm => answer (s.silenceZone z) .done
  | .normal | .fault | .isolated => answer s (.busy .state z)

def execZoneSilence (p : Port) (body : Body Nat) (s : State) : Out :=
  onLive s (breakingRequest p .zoneSilence body fun z => onZone z (zoneSilence z))

/-- A zone leaves ALARM (R86). -/
def Live.resetZone (s : Live) (z : Nat) : Live :=
  let before := s.demand
  (s.setZone z ⟨(s.zone z).present, s.lineCondition z, false, none, none⟩).handDemand before

/-- ZONE RESET (R86). -/
def zoneReset (z : Nat) (s : Live) : Handled :=
  match (s.zone z).state with
  | .alarm =>
    match s.alarmedDetector z with
    | some d => answer s (.busy .detector d)
    | none => answer (s.resetZone z) .done
  | .normal | .fault | .isolated => answer s (.busy .state z)

def execZoneReset (p : Port) (body : Body Nat) (s : State) : Out :=
  onLive s (breakingRequest p .zoneReset body fun z => onZone z (zoneReset z))

/-! ## ZONE READ (R93) -/

def zoneReadout (s : Live) (z : Nat) : ZoneReadout :=
  ⟨s.zone z, (s.plan.detectorsOf z).map fun d => (d, s.detector d)⟩

def detectorReadout (s : Live) (d : Nat) : DetectorReadout :=
  ⟨if s.loop.numbered .detector d then some (s.detector d) else none, s.plan.zoneOf d⟩

def zoneRead (sel : ZoneSelector) (s : Live) : Result × Fields :=
  match sel with
  | .zone z => if z < 16 then (.done, .zone (zoneReadout s z)) else (.noSuch, .none)
  | .detectors => (.done, .detectors ((List.range 48).map (detectorReadout s)))
  | .demand => (.done, .demand s.demand)
  | .unnamed => (.noSuch, .none)

def execZoneRead (p : Port) (body : Body ZoneSelector) (s : State) : Out :=
  onLive s (readRequest p .zoneRead body zoneRead)

/-! ## Deriving the zones from a plan (R29, R94, R95) -/

/-- A zone's record derived from the active plan: an ISOLATED zone that stays present stays so where `keep` holds
(R29, R94). -/
def Live.derivedZone (s : Live) (keep : Bool) (z : Nat) : ZoneRecord :=
  let present := (s.plan.zone z).present
  if keep && present && (s.zone z).state == .isolated then ⟨present, .isolated, false, none, none⟩
  else ⟨present, s.lineCondition z, false, none, none⟩

/-- Every zone is derived afresh (R29, R94, R95). DESIGN CHOICE (notes/assumptions/17.md): a zone whose state this changes,
at an adoption as at a start, posts no ZONE STATE; the rules name the notices of latching alone. -/
def Live.deriveZones (s : Live) (keep : Bool) : Live := { s with zones := Bank.build 16 (s.derivedZone keep) }

/-- Each present zone that is not isolated and has a listed detector in ALARM latches, with the lowest as its
first-alarm detector (R94, R95). DESIGN CHOICE (notes/assumptions/16.md): where several latch at one start or adoption the
lowest-numbered zone latches first, with its notices and its fire calls. -/
def Live.latchAlarmed (s : Live) : Live :=
  (List.range 16).foldl (fun s z =>
    match s.alarmedDetector z with
    | some d => if (s.zone z).state = .isolated then s else s.latch z d
    | none => s) s

/-- After a warm restart the circuit set and the channel set are handed again (R95). -/
def Live.rehand (s : Live) : Live :=
  let d := s.demand
  (d.circuits.foldl Live.fireCallEnter s).evacDemand d.channels d.context

end Sys2Proof.Machine
end

