-- ==== Sys2Proof/Machine/Scan.lean ====
section
/-! DEFINITION. The Field Scanner's scan: the passing of 10 ms at every timer, the exchange with each module in loop
order with its debouncing, blanking, loss and finding, and the chain pins (R3 to R13). -/

namespace Sys2Proof.Machine
open Sys2Proof

/-! ## Time (00_scope.md, Time; notes/assumptions/1.md) -/

/-- A timer that stands once it has reached `limit`. -/
def runTo (limit t : Nat) : Nat := max t (min limit (t + Config.scanMs))

def runOpt (limit : Nat) (t : Option Nat) : Option Nat := t.map (runTo limit)

/-- One shutter's timers over a scan period (section 6.1): the travel timer runs in DESCENDING and RAISING, the phase
timer in LIFTING and PAUSED, and the travel timer may pass its limit by one period. -/
def Live.advanceShutter (s : Live) (k : Nat) : ShutterRecord :=
  let r := s.shutter k
  let e := s.plan.shutter k
  let r := { r with
    warnTimer := runOpt (s.warnLimit k) r.warnTimer
    holdTimer := runOpt s.holdLimit r.holdTimer }
  match r.state with
  | .descending => { r with travelTimer := runOpt (1000 * e.descentLimit + Config.scanMs) r.travelTimer }
  | .raising => { r with travelTimer := runOpt (2000 * e.descentLimit + Config.scanMs) r.travelTimer }
  | .lifting => { r with phaseTimer := runOpt e.retract r.phaseTimer }
  | .paused => { r with phaseTimer := runOpt (1000 * e.pause) r.phaseTimer }
  | _ => r

def CircuitRecord.advance (c : CircuitRecord) : CircuitRecord :=
  { c with ring := c.ring.map fun r => { r with timer := runTo (phaseLength r.pattern r.phase) r.timer } }

def Channel.advance (c : Channel) : Channel :=
  { c with waitTimer := runOpt Config.ampWaitMs c.waitTimer, holdTimer := runOpt Config.ampHoldMs c.holdTimer }

/-- A player over a scan period: its item timer runs, and the samples of a phrase are read and put out (R152, R155). -/
def PlayerContext.advance (m : List Host.Cell) (c : PlayerContext) : PlayerContext :=
  { c with itemTimer := runOpt 5000 c.itemTimer, sound := [], spare := Config.samplesPerScan }.putOut m

def Speech.advance (p : Plan) (m : List Host.Cell) (sp : Speech) : Speech :=
  { sp with
    playerA := sp.playerA.advance m
    playerB := sp.playerB.advance m
    evac := { sp.evac with restTimer := runOpt (1000 * p.geometry.evacRepeat) sp.evac.restTimer }
    channels := sp.channels.map Channel.advance }

def ChainDrive.advance (p : Plan) (c : ChainDrive) : ChainDrive :=
  { c with
    warnTimer := runOpt (1000 * p.geometry.startWarning) c.warnTimer
    stallTimer := runOpt p.geometry.stallTime c.stallTimer
    gongTimer := runOpt Config.sweepGongMs c.gongTimer }

def ChainMonitor.advance (m : ChainMonitor) : ChainMonitor :=
  { m with
    settleTimer := runOpt Config.settleMs m.settleTimer
    intervalTimer := m.intervalTimer.map fun (t : Int) => max t (min (Config.intervalTop : Int) (t + Config.ticksPerScan)) }

def PortRecord.advance (r : PortRecord) : PortRecord := { r with gap := runTo (Config.frameGapMs + Config.scanMs) r.gap }

/-- 10 ms pass. -/
def Live.advance (s : Live) (m : List Host.Cell) : Live :=
  { s with
    gear := { s.gear with records := Bank.build 32 s.advanceShutter }
    circuits := s.circuits.map CircuitRecord.advance
    speech := s.speech.advance s.plan m
    chain := s.chain.advance s.plan
    monitor := s.monitor.advance
    portC := s.portC.advance
    portF := s.portF.advance }

/-! ## Debouncing (R4) -/

/-- One sample of an input whose figure is `n`; a change shows as a new value. -/
def Debounced.sample [DecidableEq α] (n : Nat) (d : Debounced α) (x : α) : Debounced α :=
  if x = d.value then { d with run := 0 }
  else
    let run := if x = d.candidate then d.run + 1 else 1
    if n ≤ run then ⟨x, x, 0⟩ else ⟨d.value, x, run⟩

/-- A lost module's input: its value stands and nothing is counted toward another (R10). -/
def Debounced.lost (d : Debounced α) : Debounced α := .still d.value

/-! ## Points of one reply -/

def Live.putDetector (s : Live) (d : Nat) (i : Debounced LineState) : Live :=
  { s with loop := { s.loop with detectors := s.loop.detectors.put d i } }

def Live.putPush (s : Live) (p : Nat) (i : PushInput) : Live :=
  { s with loop := { s.loop with pushes := s.loop.pushes.put p i } }

def Live.putGear (s : Live) (k : Nat) (i : GearInput) : Live :=
  { s with loop := { s.loop with gear := s.loop.gear.put k i } }

def Live.putReady (s : Live) (ch : Nat) (i : Debounced Bool) : Live :=
  { s with loop := { s.loop with ready := s.loop.ready.put ch i } }

/-- Takes `f i x` for each sample x with its index i, in order. -/
def eachPoint (f : Nat → α → Live → Live) : Nat → List α → Live → Live
  | _, [], s => s
  | i, x :: rest, s => eachPoint f (i + 1) rest (f i x s)

/-- One sample of a detector line (R4, R6). -/
def sampleDetector (d : Nat) (x : LineState) (s : Live) : Live :=
  let old := s.loop.detectors.read d (.still .broken)
  let new := old.sample Config.debounceDetector x
  let s := s.putDetector d new
  if new.value = old.value then s else s.detectorChange d

/-- The debounced sample of a push line (R4, R7). -/
def debouncePush (p : Nat) (x : PushState) (s : Live) : Live :=
  let i := s.pushInput p
  let new := i.line.sample Config.debouncePush x
  let s := s.putPush p { i with line := new }
  if new.value = i.line.value then s else s.pushChange p i.line.value new.value

/-- The first valid sample after blanking (R8): a PRESS is handed at once, even from the state PRESS. -/
def firstAfterBlanking (p : Nat) (x : PushState) (s : Live) : Live :=
  if x = .press then
    let i := s.pushInput p
    (s.putPush p { i with line := .still .press }).pushChange p i.line.value .press
  else debouncePush p x s

/-- One sample of a push line under the blanking that stood when the module's message went out (R8). -/
def samplePush (p : Nat) (blank : Option Nat) (x : PushState) (s : Live) : Live :=
  match blank with
  | none => debouncePush p x s
  | some 0 => firstAfterBlanking p x s
  | some (_ + 1) => s

/-- The blanking of a line after a message: one scan of it has passed; a valid reply takes up its end (R8). -/
def passScan (valid : Bool) : Option Nat → Option Nat
  | none => none
  | some 0 => if valid then none else some 0
  | some (n + 1) => some n

/-- The run count of a blanked input is held at 0 (R8, R9). -/
def Debounced.heldAt (d : Debounced α) (blank : Option Nat) : Debounced α :=
  match blank with
  | none => d
  | some _ => { d with run := 0 }

/-- A scan passes at a push line (R8). -/
def PushInput.pass (valid : Bool) (i : PushInput) : PushInput := ⟨i.line.heldAt i.blank, passScan valid i.blank⟩

/-- A scan passes at a shutter's EDGE (R9). -/
def GearInput.pass (valid : Bool) (i : GearInput) : GearInput :=
  { i with edge := i.edge.heldAt i.blank, blank := passScan valid i.blank }

/-- One sample of a shutter's UP limit (R9). -/
def sampleUp (k : Nat) (x : Bool) (s : Live) : Live :=
  let i := s.input k
  let new := i.up.sample Config.debounceContact x
  let s := s.putGear k { i with up := new }
  if new.value = i.up.value then s else s.limitChange k .up

def sampleDown (k : Nat) (x : Bool) (s : Live) : Live :=
  let i := s.input k
  let new := i.down.sample Config.debounceContact x
  let s := s.putGear k { i with down := new }
  if new.value = i.down.value then s else s.limitChange k .down

/-- One unblanked sample of a shutter's EDGE (R9). -/
def sampleEdge (k : Nat) (x : Bool) (s : Live) : Live :=
  let i := s.input k
  let new := i.edge.sample Config.debounceContact x
  let s := s.putGear k { i with edge := new }
  if new.value && !i.edge.value then s.edgeAsserted k else s

/-- One sample of a shutter's inputs; `blanked` is the EDGE's blanking as the message went out (R9). -/
def sampleGear (k : Nat) (blanked : Bool) (x : ShutterSample) (s : Live) : Live :=
  let s := sampleDown k x.down (sampleUp k x.up s)
  if blanked then s else sampleEdge k x.edge s

/-- One sample of a channel's READY (R4). -/
def sampleReady (ch : Nat) (x : Bool) (s : Live) : Live :=
  let old := s.loop.ready.read ch (.still false)
  let new := old.sample Config.debounceContact x
  let s := s.putReady ch new
  if new.value = old.value then s else s.readyChange ch new.value

/-! ## One module (R3, R10, R11) -/

/-- The samples of a valid reply, with the blanking as the message carried it. -/
def Live.takeReply (s : Live) (first : Nat) : ModuleReply → Live
  | .detector xs => eachPoint (fun i x => sampleDetector (first + i) x) 0 xs s
  | .call xs =>
    let blanks := (List.range xs.length).map fun i => (s.pushInput (first + i)).blank
    let s := eachPoint (fun i _ s => s.putPush (first + i) ((s.pushInput (first + i)).pass true)) 0 xs s
    eachPoint (fun i x => samplePush (first + i) x.1 x.2) 0 (blanks.zip xs) s
  | .shutter xs =>
    let blanks := (List.range xs.length).map fun i => (s.input (first + i)).edgeBlanked
    let s := eachPoint (fun i _ s => s.putGear (first + i) ((s.input (first + i)).pass true)) 0 xs s
    eachPoint (fun i x => sampleGear (first + i) x.1 x.2) 0 (blanks.zip xs) s
  | .audio xs => eachPoint (fun i x => sampleReady (first + i) x) 0 xs s
  | .bell => s
  | .other _ => s

/-- The kind a reply reports (R3). -/
def replyKind : ModuleReply → ModuleKind
  | .detector _ => .detector
  | .call _ => .call
  | .shutter _ => .shutter
  | .bell => .bell
  | .audio _ => .audio
  | .other code => .other code

/-- A reply is valid when it reports the kind recorded for its position (R3). -/
def ModuleRecord.valid (m : ModuleRecord) : Option ModuleReply → Option ModuleReply
  | none => none
  | some r => if replyKind r = m.kind then some r else none

def Live.withModule (s : Live) (pos : Nat) (m : ModuleRecord) : Live :=
  { s with loop := { s.loop with modules := s.loop.modules.set pos m } }

/-- A scan passes at the blanked points of a module that gave no valid reply (R8, R9). -/
def Live.passBlanking (s : Live) (m : ModuleRecord) : Live :=
  match m.kind with
  | .call => m.points.foldl (fun s p => s.putPush p ((s.pushInput p).pass false)) s
  | .shutter => m.points.foldl (fun s k => s.putGear k ((s.input k).pass false)) s
  | _ => s

/-- The lost value of one point, handed as if debounced (R10, R117, R127). -/
def Live.losePoint (s : Live) (kind : ModuleKind) (i : Nat) : Live :=
  match kind with
  | .detector =>
    let old := s.detector i
    let s := s.putDetector i (.still .broken)
    if old = .broken then s else s.detectorChange i
  | .call => s.putPush i ⟨.still .idle, none⟩
  | .shutter =>
    let n := s.input i
    (s.putGear i ⟨n.up.lost, n.down.lost, n.edge.lost, none⟩).shutterModuleLost i
  | .audio => s.putReady i (s.loop.ready.read i (.still false)).lost
  | .bell => s
  | .other _ => s

/-- A module is marked lost (R10). DESIGN CHOICE (notes/assumptions/16.md): MODULE LOST is posted before the lost values are
taken, and the points take them, each handing its change, in rising number; R10 orders neither. -/
def Live.loseModule (s : Live) (pos : Nat) (m : ModuleRecord) : Live :=
  let s := (s.withModule pos { m with present := false, missed := Config.missedLimit }).post (.moduleLost pos m.kind)
  m.points.foldl (fun s i => s.losePoint m.kind i) s

/-- A scan in which a module gave no valid reply (R3, R10). -/
def Live.missReply (s : Live) (pos : Nat) (m : ModuleRecord) : Live :=
  let s := s.passBlanking m
  if m.present then
    if Config.missedLimit ≤ m.missed + 1 then s.loseModule pos m
    else s.withModule pos { m with missed := m.missed + 1 }
  else s

/-- A valid reply: a lost module is found, and its samples are taken (R3, R11). DESIGN CHOICE (notes/assumptions/16.md):
MODULE FOUND is posted before what the samples of the reply bring about. -/
def Live.heedReply (s : Live) (pos : Nat) (m : ModuleRecord) (r : ModuleReply) : Live :=
  let s := (s.withModule pos { m with present := true, missed := 0 }).postIf (!m.present) (.moduleFound pos m.kind)
  match m.first with
  | some f => s.takeReply f r
  | none => s

/-- The exchange with one module: the message goes out, to a lost module too, and the reply is taken (R3, R10). -/
def Live.scanModule (s : Live) (pos : Nat) (reply : Option ModuleReply) : Live :=
  match s.loop.modules[pos]? with
  | none => s
  | some m =>
    let s := s.sendMessage pos m
    match m.valid reply with
    | none => s.missReply pos m
    | some r => s.heedReply pos m r

/-- The exchanges of one scan in loop order; a module whose reply the input does not name gave none. -/
def Live.scanModules (s : Live) (replies : List (Option ModuleReply)) : Live :=
  (List.range s.loop.modules.length).foldl (fun s pos => s.scanModule pos (replies.getD pos none)) s

/-! ## The chain pins (R13) -/

def sampleFlap (bottom : Bool) (x : Bool) (s : Live) : Live :=
  let old := if bottom then s.loop.flapBottom else s.loop.flapTop
  let new := old.sample Config.debounceContact x
  let s := { s with loop := if bottom then { s.loop with flapBottom := new } else { s.loop with flapTop := new } }
  if new.value = old.value then s else s.flapChange bottom new.value

def sampleSlow (x : Bool) (s : Live) : Live :=
  let old := s.loop.slow
  let new := old.sample Config.debounceContact x
  let s := { s with loop := { s.loop with slow := new } }
  if new.value = old.value then s else s.slowChange new.value

def Live.scanPins (s : Live) (p : PinSample) : Live := sampleSlow p.slow (sampleFlap true p.flapBottom (sampleFlap false p.flapTop s))

/-! ## SCAN -/

/-- One scan, with the samples of sound read from `m`. -/
def scanStep (m : List Host.Cell) (i : ScanInput) (s : Live) : Live := ((s.advance m).scanModules i.replies).scanPins i.pins

/-- Whether the scan's reads of sound and its sample write keep within sample memory; adoption sees to it (R26). -/
def Live.scanInMemory (s : Live) : Bool :=
  s.speech.playerA.inMemory Config.samplesPerScan && s.speech.playerB.inMemory Config.samplesPerScan && (s.store.sampleWrite.isNone || s.writeInMemory)

/-- SCAN (R3): the bytes of a sample write that have reached the memory since the last scan stand in it first. -/
def execScan (i : ScanInput) (s : State) : Out :=
  whenOn s <|
    if s.live.scanInMemory then
      let s := s.writeSamples i.bytesWritten
      .next { s with live := scanStep s.samples i s.live }
    else .fault .sampleAddress

/-! ## The end of blanking as a command of its own (R8, R9) -/

/-- PUSH_BLANKING_END (R8): the first valid sample after the fifth scan of blanking. -/
def pushBlankingEndStep (p : Nat) (x : PushState) (s : Live) : Live :=
  let i := s.pushInput p
  if i.blank = some 0 then firstAfterBlanking p x (s.putPush p { i with blank := none }) else s

def execPushBlankingEnd (p : Nat) (x : PushState) (s : State) : Out := onLive s (pushBlankingEndStep p x)

/-- EDGE_BLANKING_END (R9): the first sample after the third scan of blanking, debounced from the held state. -/
def edgeBlankingEndStep (k : Nat) (x : Bool) (s : Live) : Live :=
  let i := s.input k
  if i.blank = some 0 then sampleEdge k x (s.putGear k { i with blank := none }) else s

def execEdgeBlankingEnd (k : Nat) (x : Bool) (s : State) : Out := onLive s (edgeBlankingEndStep k x)

end Sys2Proof.Machine
end

