-- ==== Sys2Proof/Machine/Reset.lean ====
section
/-! DEFINITION. The RESET pin and the supply (R14, R31), the cold start (R1, R2, R5, R32, R94, R97, R193), the warm
restart (R193 and each block's own rule) and the adoption of a plan (R25 to R30, R50). -/

namespace Sys2Proof.Machine
open Sys2Proof

/-! ## RESET low and the loss of supply -/

/-- The drive at BRAKE, and no stall timer at BRAKE, everything else as it stood (R14, R65, notes/assumptions/29.md). -/
def Live.drop (s : Live) : Live := { s with chain := { s.chain with drive := .brake, stallTimer := none } }

/-- A write of the wear record cut short: the place it was being written to holds no valid record (R47). A write in
flight with the store's is the last one made; any other is to the place not written last. -/
def tearWear (n : NonVolatile) (inStoreWrite torn : Bool) : NonVolatile :=
  if torn then
    if n.lastIsB == inStoreWrite then { n with wearB := none } else { n with wearA := none }
  else n

/-- The part stops: what a write in flight leaves behind (R31, R47). -/
def cut (s : State) (p : Power) (torn : Bool) : State :=
  { s with power := p, nv := tearWear s.nv s.live.store.storeWriting torn, live := s.live.drop }

/-- RESET_LOW (R14). -/
def execResetLow (torn : Bool) (s : State) : Out := whenOn s (.next (cut s .resetLow torn))

/-- POWER_LOSS (R31). -/
def execPowerLoss (torn : Bool) (s : State) : Out := if s.power = .off then .next s else .next (cut s .off torn)

/-! ## The walk (R1, R2) -/

/-- The kind a position reports in answer to at most three enquiries (R1). -/
def enquire (answers : List (Option ModuleKind)) : Option ModuleKind := (answers.take Config.enquiries).findSome? id

/-- The kinds of the modules the walk enters: it ends at the first position that fails (R1). -/
def walkKinds : List (List (Option ModuleKind)) → List ModuleKind
  | [] => []
  | a :: rest =>
    match enquire a with
    | some k => k :: walkKinds rest
    | none => []

/-- The number of the first point of a module before which `before` of its kind stand (R2). -/
def firstPoint (k : ModuleKind) (before : Nat) : Option Nat :=
  if pointsPer k * before < capacity k then some (pointsPer k * before) else none

/-- The module list, its points numbered in loop order (R2). -/
def numberModules : List ModuleKind → List ModuleKind → List ModuleRecord
  | _, [] => []
  | before, k :: rest =>
    ⟨k, true, 0, firstPoint k (before.filter fun x => decide (x = k)).length⟩ :: numberModules (before ++ [k]) rest

def walk (answers : List (List (Option ModuleKind))) : List ModuleRecord :=
  numberModules [] ((walkKinds answers).take Config.modulesMax)

/-! ## The first scan (R5) -/

/-- The starting state of each input of a valid reply. -/
def FieldLoop.startReply (l : FieldLoop) (first : Nat) : ModuleReply → FieldLoop
  | .detector xs =>
    { l with detectors := ((List.range xs.length).zip xs).foldl (fun b x => b.put (first + x.1) (.still x.2)) l.detectors }
  | .call xs =>
    { l with pushes := ((List.range xs.length).zip xs).foldl (fun b x => b.put (first + x.1) ⟨.still x.2, none⟩) l.pushes }
  | .shutter xs =>
    { l with gear := ((List.range xs.length).zip xs).foldl (fun b x =>
        b.put (first + x.1) ⟨.still x.2.up, .still x.2.down, .still x.2.edge, none⟩) l.gear }
  | .audio xs =>
    { l with ready := ((List.range xs.length).zip xs).foldl (fun b x => b.put (first + x.1) (.still x.2)) l.ready }
  | .bell => l
  | .other _ => l

/-- One module in the first scan: its message carries every output de-asserted (R12), and without a valid reply its
inputs stay as a lost module's and one reply is missed. DESIGN CHOICE (notes/assumptions/18.md): R5 does not say whether a
starting state is handed at its module's own reply or after the scan; the model hands all of them after the whole first scan
(coldStartLive), so no message of that scan shows an output that an owner writes on taking one. -/
def FieldLoop.startModule (l : FieldLoop) (replies : List (Option ModuleReply)) (pos : Nat) : FieldLoop :=
  match l.modules[pos]? with
  | none => l
  | some m =>
    let l := { l with sent := l.sent.put pos (some (Image.blank.messageTo m)) }
    match m.valid (replies.getD pos none) with
    | none => { l with modules := l.modules.set pos { m with missed := 1 } }
    | some r =>
      match m.first with
      | some f => l.startReply f r
      | none => l

/-- The field loop after the walk and the first scan. -/
def startLoop (i : ColdStart) : FieldLoop :=
  let l := { FieldLoop.blank with modules := walk i.walk }
  let l := (List.range l.modules.length).foldl (fun l pos => l.startModule i.first.replies pos) l
  { l with
    flapTop := .still i.first.pins.flapTop
    flapBottom := .still i.first.pins.flapBottom
    slow := .still i.first.pins.slow }

/-! ## The blocks at a cold start -/

/-- The store as it is read: the stored plan with its set A, or the empty plan (R32). -/
def startStore (n : NonVolatile) : PlanStore :=
  if n.valid then ⟨n.plan, n.fullClear, n.plan, .closed, false, none, true⟩
  else ⟨emptyPlan, emptyFullClear, emptyPlan, .closed, false, none, false⟩

/-- Every block in its cold-start state, with no notice posted. `free` is the model's own count. -/
def startLive (n : NonVolatile) (i : ColdStart) (free : Nat) : Live :=
  let st := startStore n
  { resetLive with
    rateIsHigh := i.strapHigh
    free := free
    loop := startLoop i
    store := st
    monitor := .start st.active (n.readWear.getD .zero)
    chain := { ChainDrive.start with
      flapTop := i.first.pins.flapTop, flapBottom := i.first.pins.flapBottom, slow := i.first.pins.slow }
    circuits := startCircuits st.active
    portC := .start
    portF := .start }

/-- A shutter's state from its starting limits (R97). -/
def derivedShutter (i : GearInput) : ShutterRecord :=
  match i.up.value, i.down.value with
  | true, false => .start .opened none
  | false, true => .start .closed none
  | false, false => .start .unplaced none
  | true, true => .start .jammed (some .limits)

/-- Derives each shutter, writes its outputs and posts SHUTTER STATE (R97). -/
def Live.deriveShutters (s : Live) : Live :=
  (List.range 32).foldl (fun s k =>
    let r := derivedShutter (s.input k)
    ((s.withShutter k r).writeGear k r.state).post (shutterNote k r)) s

/-- The starting state of each push line, handed as a change from IDLE (notes/assumptions/18.md). -/
def Live.handPushes (s : Live) : Live :=
  (List.range 64).foldl (fun s p =>
    let x := (s.pushInput p).line.value
    if x = .idle then s else s.pushChange p .idle x) s

/-- The cold start of every block, in the order its notices are posted (notes/assumptions/17.md). -/
def coldStartLive (n : NonVolatile) (i : ColdStart) (free : Nat) : Live :=
  let s := ((startLive n i free).post (.started .cold n.valid)).postIf n.readWear.isNone .wearLost
  (s.deriveShutters.deriveZones false).latchAlarmed.handPushes

/-- Whether place B holds the record a cold start takes: it is then the place written last (R47). -/
def NonVolatile.takenIsB (n : NonVolatile) : Bool :=
  match n.wearA, n.wearB with
  | some a, some b => !decide (b.sequence < a.sequence)
  | none, some _ => true
  | _, none => false

/-- COLD_START (R1). -/
def execColdStart (i : ColdStart) (s : State) : Out :=
  .next { s with
    power := .on, nv := { s.nv with lastIsB := s.nv.takenIsB }, live := coldStartLive s.nv i s.live.free }

/-! ## The warm restart (R193) -/

/-- The chain states a warm restart takes to HELD(RESTART) (R76). -/
def ChainState.restarts : ChainState → Bool
  | .running | .warning | .stopping _ _ | .inspection .creeping | .inspection .braked => true
  | _ => false

/-- The Chain Drive Controller at a warm restart (R76). DESIGN CHOICE (notes/assumptions/17.md): the wear count is raised,
which may post WEAR SATURATED, before CHAIN STATE of HELD(RESTART) is posted and handed on. -/
def Live.restartChain (s : Live) : Live :=
  let moving := s.chain.drive != .brake
  let holds := s.chain.state.restarts
  let s := ({ s with chain := { s.chain with
    stop := none, deferred := none, sweep := none, carriedLoops := none, step := none, warnTimer := none,
    gongTimer := none } }).writeGongs false
  let s := if moving then (s.driveTo .brake).raiseWear .emergency else s
  if holds then s.enterChain (.held .restart) else s

/-- The restart of every block, after STARTED (R33, R76, R138, R151, R170, R185, R95). DESIGN CHOICE
(notes/assumptions/17.md): the chain's notices come before those of the fire calls and of the evacuation entry. -/
def Live.warmRestart (s : Live) : Live :=
  let s := { s with portC := .start, portF := .start, restart := false, startCause := .warm }
  let s := s.post (.started .warm s.store.storeGood)
  let s := { s with store := { s.store with pending := s.store.active, cursor := .closed } }
  let s := s.restartChain.emptyCalls.resetCircuits.restartSpeech
  (s.withClosing .start).rehand

/-- WARM_RESTART (R193): begins when the reply to UNIT RESTART has been sent and port F has none pending. -/
def execWarmRestart (s : State) : Out :=
  onLive s fun s => if s.restart && !s.portC.replyPending && !s.portF.replyPending then s.warmRestart else s

/-! ## Adoption (R25 to R30) -/

/-- What R50 does to the position where L, N or H changes. -/
def Live.adoptPosition (s : Live) (old : Plan) : Live :=
  let g := s.plan.geometry
  if g.loopLength = old.geometry.loopLength ∧ g.cars = old.geometry.cars ∧ g.upRun = old.geometry.upRun then s
  else
    let known := s.monitor.position != Position.unknown
    ({ s with monitor := { s.monitor with
      count := 0, position := .unknown, watchArmed := false, lastError := none } }).postIf known (.positionLost 0)

/-- The adoption itself (R29), with the store write begun (R30) and the zones that latch at it (R95). DESIGN CHOICE
(notes/assumptions/17.md): POSITION LOST, then what changed answers bring about at the shutters, then the latching zones. -/
def Live.adopt (s : Live) (residues : List Nat) : Live :=
  let old := s.plan
  let s := { s with store := { s.store with
    active := s.store.pending, fullClear := residues, storeWriting := true } }
  let s := s.emptyCalls.resetCircuits
  let s := (s.adoptPosition old).rejudge
  ((s.withClosing { s.closing with marks := Bank.replicate 24 none }).deriveZones true).latchAlarmed

/-- PLAN ADOPT (R25 to R29): the reply of an accepted adoption comes at the end of the store write (R30). -/
def planAdopt (s : Live) : Handled :=
  match s.store.pending.firstFailure s.loop with
  | some f => answer s (.planCheck f.1 f.2)
  | none =>
    let a := s.store.pending.residues
    if a.isEmpty then answer s .noParkResidue
    else match s.disquiet with
      | some q => answer s (.notQuiescent q.1 q.2)
      | none => (s.adopt a, none)

/-- The non-volatile memories once an adoption has begun its store write: the contents are being written and the
checksum does not match until the write is done; the wear record is written with it (R30, R31, R47). -/
def NonVolatile.beginWrite (n : NonVolatile) (s : Live) : NonVolatile :=
  ({ n with plan := s.store.active, fullClear := s.store.fullClear, valid := false }).writeWear s.monitor.wear

def execPlanAdopt (p : Port) (body : Body Unit) (s : State) : Out :=
  whenOn s <|
    let l := breakingRequest p .planAdopt body (fun _ => planAdopt) s.live
    let began := l.store.storeWriting && !s.live.store.storeWriting
    .next { s with live := l, nv := if began then s.nv.beginWrite l else s.nv }

end Sys2Proof.Machine
end

