-- ==== Sys2Proof/Machine/Dispatch.lean ====
section
/-! DEFINITION. The one table from commands to their meanings. -/

namespace Sys2Proof.Machine
open Sys2Proof

def exec (i : Instr) (s : State) : Host.Outcome State Fault Refusal :=
  match i with
  | .resetLow wearTorn => Sys2Proof.Machine.execResetLow wearTorn s
  | .coldStart input => Sys2Proof.Machine.execColdStart input s
  | .scan input => Sys2Proof.Machine.execScan input s
  | .pushBlankingEnd p sample => Sys2Proof.Machine.execPushBlankingEnd p sample s
  | .edgeBlankingEnd k sample => Sys2Proof.Machine.execEdgeBlankingEnd k sample s
  | .linkPulse phase => Sys2Proof.Machine.execLinkPulse phase s
  | .decelPoint phase => Sys2Proof.Machine.execDecelPoint phase s
  | .stopTargetReached phase => Sys2Proof.Machine.execStopTargetReached phase s
  | .sweepEnd phase => Sys2Proof.Machine.execSweepEnd phase s
  | .stepRemainderEnd phase => Sys2Proof.Machine.execStepRemainderEnd phase s
  | .missedIndex phase => Sys2Proof.Machine.execMissedIndex phase s
  | .indexPulse => Sys2Proof.Machine.execIndexPulse s
  | .chainSettled => Sys2Proof.Machine.execChainSettled s
  | .stall => Sys2Proof.Machine.execStall s
  | .startWarningEnd => Sys2Proof.Machine.execStartWarningEnd s
  | .warningGongToggle => Sys2Proof.Machine.execWarningGongToggle s
  | .sweepGongTimer => Sys2Proof.Machine.execSweepGongTimer s
  | .secondsTick => Sys2Proof.Machine.execSecondsTick s
  | .wearWrite => Sys2Proof.Machine.execWearWrite s
  | .reRing key => Sys2Proof.Machine.execReRing key s
  | .closingStepDue => Sys2Proof.Machine.execClosingStepDue s
  | .shutterWarningExpiry k => Sys2Proof.Machine.execShutterWarningExpiry k s
  | .holdOffExpiry k => Sys2Proof.Machine.execHoldOffExpiry k s
  | .retractExpiry k => Sys2Proof.Machine.execRetractExpiry k s
  | .pauseExpiry k => Sys2Proof.Machine.execPauseExpiry k s
  | .descentLimitExpiry k => Sys2Proof.Machine.execDescentLimitExpiry k s
  | .raiseLimitExpiry k => Sys2Proof.Machine.execRaiseLimitExpiry k s
  | .phaseEnd c => Sys2Proof.Machine.execPhaseEnd c s
  | .itemTimerExpiry pl => Sys2Proof.Machine.execItemTimerExpiry pl s
  | .phraseEnd pl => Sys2Proof.Machine.execPhraseEnd pl s
  | .ampWaitExpiry ch => Sys2Proof.Machine.execAmpWaitExpiry ch s
  | .ampHoldExpiry ch => Sys2Proof.Machine.execAmpHoldExpiry ch s
  | .evacuationRestExpiry => Sys2Proof.Machine.execEvacuationRestExpiry s
  | .frameGapTimeout p => Sys2Proof.Machine.execFrameGapTimeout p s
  | .frameDiscard p => Sys2Proof.Machine.execFrameDiscard p s
  | .replySent p => Sys2Proof.Machine.execReplySent p s
  | .unknownKind p code => Sys2Proof.Machine.execUnknownKind p code s
  | .unitRead p body => Sys2Proof.Machine.execUnitRead p body s
  | .zoneRead p body => Sys2Proof.Machine.execZoneRead p body s
  | .shutterRead p body => Sys2Proof.Machine.execShutterRead p body s
  | .chainRead p body => Sys2Proof.Machine.execChainRead p body s
  | .callList p body => Sys2Proof.Machine.execCallList p body s
  | .speakList p body => Sys2Proof.Machine.execSpeakList p body s
  | .closingRead p body => Sys2Proof.Machine.execClosingRead p body s
  | .wearRead p body => Sys2Proof.Machine.execWearRead p body s
  | .wearReadClear p body => Sys2Proof.Machine.execWearReadClear p body s
  | .planRead p body => Sys2Proof.Machine.execPlanRead p body s
  | .noticeFetch p body => Sys2Proof.Machine.execNoticeFetch p body s
  | .planOpen p body => Sys2Proof.Machine.execPlanOpen p body s
  | .planEntry p body => Sys2Proof.Machine.execPlanEntry p body s
  | .planClose p body => Sys2Proof.Machine.execPlanClose p body s
  | .planAdopt p body => Sys2Proof.Machine.execPlanAdopt p body s
  | .storeWriteDone matched => Sys2Proof.Machine.execStoreWriteDone matched s
  | .planDiscard p body => Sys2Proof.Machine.execPlanDiscard p body s
  | .sampleOpen p body => Sys2Proof.Machine.execSampleOpen p body s
  | .sampleData p body => Sys2Proof.Machine.execSampleData p body s
  | .sampleWriteDone => Sys2Proof.Machine.execSampleWriteDone s
  | .zoneIsolate p body => Sys2Proof.Machine.execZoneIsolate p body s
  | .zoneRestore p body => Sys2Proof.Machine.execZoneRestore p body s
  | .zoneSilence p body => Sys2Proof.Machine.execZoneSilence p body s
  | .zoneReset p body => Sys2Proof.Machine.execZoneReset p body s
  | .shutterLower p body => Sys2Proof.Machine.execShutterLower p body s
  | .shutterRaise p body => Sys2Proof.Machine.execShutterRaise p body s
  | .shutterHalt p body => Sys2Proof.Machine.execShutterHalt p body s
  | .chainStart p body => Sys2Proof.Machine.execChainStart p body s
  | .chainStop p body => Sys2Proof.Machine.execChainStop p body s
  | .chainInspectOn p body => Sys2Proof.Machine.execChainInspectOn p body s
  | .chainInspectOff p body => Sys2Proof.Machine.execChainInspectOff p body s
  | .chainStep p body => Sys2Proof.Machine.execChainStep p body s
  | .callPlace p body => Sys2Proof.Machine.execCallPlace p body s
  | .callClear p body => Sys2Proof.Machine.execCallClear p body s
  | .callMask p body => Sys2Proof.Machine.execCallMask p body s
  | .circuitRead p body => Sys2Proof.Machine.execCircuitRead p body s
  | .speak p body => Sys2Proof.Machine.execSpeak p body s
  | .speakCancel p body => Sys2Proof.Machine.execSpeakCancel p body s
  | .closingBegin p body => Sys2Proof.Machine.execClosingBegin p body s
  | .closingPostpone p body => Sys2Proof.Machine.execClosingPostpone p body s
  | .closingAbort p body => Sys2Proof.Machine.execClosingAbort p body s
  | .closingResume p body => Sys2Proof.Machine.execClosingResume p body s
  | .unitRestart p body => Sys2Proof.Machine.execUnitRestart p body s
  | .warmRestart => Sys2Proof.Machine.execWarmRestart s
  | .frameByte p byte => Sys2Proof.Machine.execFrameByte p byte s
  | .powerLoss wearTorn => Sys2Proof.Machine.execPowerLoss wearTorn s

end Sys2Proof.Machine
end

