-- ==== Sys2Proof/Machine/Layout.lean ====
section
/-! DEFINITION. The bytes of what the manual lays out: the frame, the notice record and the call-list entry
(section 11.6, R187 to R189). -/

namespace Sys2Proof.Machine
open Sys2Proof

/-- A number in `k` bytes, most significant byte first (R189). -/
def bigEndian : Nat → Nat → List Byte
  | 0, _ => []
  | k + 1, n => bigEndian k (n / 256) ++ [BitVec.ofNat 8 n]

/-- A field of `k` bytes; an absent value has every bit set (R189). -/
def optField (k : Nat) : Option Nat → List Byte
  | none => List.replicate k 0xFF
  | some n => bigEndian k n

/-- A signed field of `k` bytes in two's complement (R189). -/
def signedField (k : Nat) : Option Int → List Byte
  | none => List.replicate k 0xFF
  | some x => bigEndian k (x % (256 ^ k : Nat)).toNat

/-- A list: a count byte followed by its elements (R189). -/
def listField (element : α → List Byte) (l : List α) : List Byte := bigEndian 1 l.length ++ l.flatMap element

/-- A list of numbers of one byte each. -/
def byteList (l : List Nat) : List Byte := listField (bigEndian 1) l

/-- A list that may be absent: its count byte is sent with every bit set (R189, notes/assumptions/11.md). -/
def optList (element : α → List Byte) : Option (List α) → List Byte
  | none => [0xFF]
  | some l => listField element l

/-! ## Names: the manual gives no codes for them, so each is a free value (notes/assumptions/11.md) -/

/-- The code of the n-th name of a list. -/
def name (f : Config.NameFamily) (n : Nat) : Byte := Config.nameCode f n

/-- A name that may be absent: absent has every bit set (R189). -/
def optName (f : Config.NameFamily) : Option Nat → Byte
  | none => 0xFF
  | some n => name f n

def flag (b : Bool) : Byte := name .flag b.toNat

/-- The kind of a module: OTHER is one name, whatever code the module reports. -/
def kindName (k : ModuleKind) : Byte := name .moduleKind k.ctorIdx

def ChainState.name (st : ChainState) : Byte := Machine.name .chainState st.ctorIdx

/-- The cause or sub-state of a chain state (R74). -/
def ChainState.subName : ChainState → Byte
  | .parked | .warning | .running | .fault => 0xFF
  | .stopping cause _ => Machine.name .chainSub cause.ctorIdx
  | .held cause => Machine.name .chainSub (3 + cause.ctorIdx)
  | .inspection .idle => Machine.name .chainSub 7
  | .inspection .creeping | .inspection .braked => Machine.name .chainSub 8

/-- The phase of a chain state (R74). -/
def ChainState.phaseName : ChainState → Byte
  | .stopping _ phase => Machine.name .stopPhase phase.ctorIdx
  | .inspection .creeping => Machine.name .stopPhase 1
  | .inspection .braked => Machine.name .stopPhase 2
  | _ => 0xFF

/-- An origin: the two ports, the closing programme with its step, and the fire demand. -/
def Origin.name : Origin → Byte
  | .portC => Machine.name .origin 0
  | .portF => Machine.name .origin 1
  | .fireDemand => Machine.name .origin 2
  | .programme step => Machine.name .origin (3 + step)

/-- The source codes of the call-list entry (section 11.6), which a notice's detail is taken to share. -/
def callSource : CallKey → Nat
  | .push _ => 0
  | .fire _ => 1
  | .programme _ _ => 2
  | .host _ _ => 3

/-- The state codes of the call-list entry (section 11.6), which a notice's detail is taken to share. -/
def CallState.code : CallState → Nat
  | .waiting => 0
  | .ringing => 1
  | .resting => 2

/-! ## The frame (R187) -/

/-- The length byte of a body. -/
def lengthByte (body : List Byte) : Byte := BitVec.ofNat 8 body.length

/-- The two bytes of the check, the more significant first. -/
def crcBytes (r : Word16) : List Byte := [(r >>> 8).setWidth 8, r.setWidth 8]

/-- The bytes of a frame after its lead byte. -/
def frameTail (body : List Byte) : List Byte :=
  lengthByte body :: body ++ crcBytes (crc (lengthByte body :: body))

/-- The bytes of a frame that carries a body. -/
def frameBytes (body : List Byte) : List Byte := leadByte :: frameTail body

/-! ## The notice record -/

/-- Two small parts that share one byte, the first in the upper four bits (section 11.6). -/
def sharedByte (first second : Byte) : Byte := ((first &&& 0x0F#8) <<< 4) ||| (second &&& 0x0F#8)

/-- The byte of SHUTTER STATE that holds the uncleared and forced flags above the obstruction count (section 11.6). -/
def obstructionByte (uncleared forced : Bool) (obstructions : Nat) : Byte :=
  BitVec.ofNat 8 ((if uncleared then 128 else 0) + (if forced then 64 else 0) + obstructions % 64)

/-- The close instant of PROGRAMME STATE: signed seconds from the stamp in three bytes (section 11.6). -/
def closeField (close : Option Nat) (stamp : Nat) : List Byte := signedField 3 (close.map fun c => (c : Int) - stamp)

/-- The part of a call's detail that CALL ENTERED, CALL DROPPED and CALL REMOVED share: the source with the part that
shares its byte, the code or step, the level and the place (R122, section 11.6). -/
def callDetail (key : CallKey) (other : Byte) (number : Option Nat) (level : Nat) (place : Option Nat) : List Byte :=
  sharedByte (BitVec.ofNat 8 (callSource key)) other :: optField 1 number ++ bigEndian 1 level ++ optField 1 place

/-- The result of a step in PROGRAMME STEP (R173 to R177). -/
def StepResult.bytes : StepResult → List Byte
  | .tag t => bigEndian 2 t
  | .calls n => bigEndian 1 n
  | .chain st => [st.name]
  | .requests n => bigEndian 1 n
  | .level n => bigEndian 1 n

/-- The detail of a notice posted at `stamp`, as the rule that posts it lists its parts (notes/assumptions/11.md). -/
def Note.detail (stamp : Nat) : Note → List Byte
  | .started cause loaded => [name .startCause cause.ctorIdx, name .planState loaded.toNat]
  | .moduleLost _ kind => [kindName kind]
  | .moduleFound _ kind => [kindName kind]
  | .planAdopted stored => [flag stored]
  | .positionValid e => signedField 2 (some e)
  | .resync e => signedField 2 (some e)
  | .positionSuspect e => signedField 2 (some e)
  | .positionLost n => bigEndian 1 n
  | .chainDrift count => bigEndian 2 count
  | .wearSaturated _ => []
  | .wearLost => []
  | .chainState st => [st.name, st.subName, st.phaseName]
  | .chainOverrun overrun notClear => bigEndian 2 overrun ++ bigEndian 1 notClear
  | .stopDeferred cause => [name .chainSub cause.ctorIdx]
  | .chainEmergency reason index left =>
    name .emergencyReason reason.ctorIdx :: bigEndian 1 index ++ [name .driveOutput left.ctorIdx]
  | .flapChange _ tripped => [flag tripped]
  | .stepDone count position => bigEndian 2 count ++ [name .position position.ctorIdx]
  | .zoneState _ st silenced firstAlarm =>
    name .zoneState st.ctorIdx :: flag silenced :: optField 1 firstAlarm
  | .zoneAlarm _ detector => bigEndian 1 detector
  | .shutterState _ st cause uncleared forced obstructions =>
    [sharedByte (name .shutterState st.ctorIdx) (name .closeCause cause.ctorIdx),
      obstructionByte uncleared forced obstructions]
  | .shutterWaiting _ answer chain => [name .sillAnswer answer.ctorIdx, chain.name]
  | .shutterUncleared _ answer chain => [name .sillAnswer answer.ctorIdx, chain.name]
  | .shutterObstructed _ count cause => bigEndian 1 count ++ [name .closeCause cause.ctorIdx]
  | .shutterForced _ => []
  | .shutterHalted _ reason => [name .haltReason reason.ctorIdx]
  | .callEntered key number _ level place replaced => callDetail key (flag replaced) number level (some place)
  | .callDropped key number _ level place reason =>
    callDetail key (name .dropReason reason.ctorIdx) number level place
  | .callPressed _ presses level st => bigEndian 1 presses ++ bigEndian 1 level ++ bigEndian 1 st.code
  | .callRemoved key number _ level place reason =>
    callDetail key (name .removeReason reason.ctorIdx) number level (some place)
  | .callRung _ _ rings level st =>
    bigEndian 1 rings ++ bigEndian 1 level ++ optField 1 (st.map CallState.code)
  | .callEscalated _ level newCircuit oldCircuit =>
    bigEndian 1 level ++ bigEndian 1 newCircuit ++ bigEndian 1 oldCircuit
  | .pushLine _ broken => [name .pushLine broken.toNat]
  | .circuitMask _ new old => bigEndian 1 new ++ bigEndian 1 old
  | .phraseMissing _ phrase item => bigEndian 1 phrase ++ bigEndian 1 item
  | .speakDropped _ cls origin reason =>
    [name .speakClass cls.ctorIdx, origin.name, name .dropReason reason.ctorIdx]
  | .speakAbandoned _ cls origin reason item =>
    [name .speakClass cls.ctorIdx, origin.name, name .abandonReason reason.ctorIdx] ++ optField 1 item
  | .speakDone _ cls origin => [name .speakClass cls.ctorIdx, origin.name]
  | .ampNotReady _ tag reason => bigEndian 2 tag ++ [name .ampReason reason.ctorIdx]
  | .programmeState st close reason =>
    sharedByte (name .programmeState st.ctorIdx) (name .programmeReason reason.ctorIdx) :: closeField close stamp
  | .programmeStep _ kind result => name .stepKind kind.ctorIdx :: result.bytes
  | .stepSkipped _ kind reason =>
    match reason with
    | .late => [name .stepKind kind.ctorIdx, name .skipReason 0]
    | .chain st => [name .stepKind kind.ctorIdx, name .skipReason 1, st.name]
  | .programmeDone executed skipped => bigEndian 1 executed ++ bigEndian 1 skipped

/-- The twelve bytes of a notice record (section 11.6). -/
def noticeBytes (n : Notice) : List Byte :=
  let detail := n.note.detail n.stamp
  let lost : Nat := if n.lost then 128 else 0
  bigEndian 1 n.note.code ++ bigEndian 2 n.note.subject ++ bigEndian 1 (lost + detail.length) ++ detail ++
    List.replicate (4 - detail.length) 0 ++ bigEndian 4 n.stamp

/-! ## The call-list entry -/

/-- Bytes 2 and 3: the source and its number. -/
def keyBytes (k : CallKey) : List Byte :=
  bigEndian 1 (callSource k) ++ match k with
    | .push p => bigEndian 1 p
    | .fire _ => [0xFF]
    | .programme step _ => bigEndian 1 step
    | .host code _ => bigEndian 1 code

/-- Bytes 6 and 7: the pattern and its code. -/
def patternBytes : Pattern → List Byte
  | .coded code => [0, BitVec.ofNat 8 code]
  | .fire => [1, 0xFF]
  | .closing => [2, 0xFF]

/-- The twenty bytes of a call-list entry (section 11.6). -/
def callEntryBytes (place : Nat) (r : CallRecord) : List Byte :=
  [BitVec.ofNat 8 place] ++ keyBytes r.key ++ [BitVec.ofNat 8 r.circuit, BitVec.ofNat 8 r.level] ++
    patternBytes r.pattern ++
    [BitVec.ofNat 8 ((if r.needsAck then 128 else 0) + r.state.code), BitVec.ofNat 8 r.rings,
      BitVec.ofNat 8 r.presses] ++
    optField 2 r.reRing ++ optField 4 r.nextRing ++ bigEndian 4 r.arrival

end Sys2Proof.Machine
end

