-- ==== Sys2Proof/Machine/Bodies.lean ====
section
/-! DEFINITION. The bytes of the bodies of requests and replies: the fields in the order their rules name them, each
number in the fewest whole bytes that hold its range, and one more where the field may be absent and its range would
reach all bits set (R188, R189, notes/assumptions/11.md). -/

namespace Sys2Proof.Machine
open Sys2Proof

/-! ## Plan entries (section 2.2) -/

def geometryBytes (g : Geometry) : List Byte :=
  bigEndian 2 g.loopLength ++ bigEndian 1 g.cars ++ bigEndian 2 g.upRun ++ listField (bigEndian 2) g.landings ++
    bigEndian 2 g.carHeight ++ bigEndian 1 g.keepClear ++ bigEndian 2 g.decelTime ++ bigEndian 2 g.stallTime ++
    bigEndian 1 g.indexTolerance ++ bigEndian 1 g.startWarning ++ bigEndian 1 g.sweepLoops ++ bigEndian 2 g.holdOff ++
    bigEndian 1 g.fireWarning ++ bigEndian 1 g.nightWarning ++ bigEndian 2 g.reRing ++ bigEndian 1 g.escalationRings ++
    bigEndian 1 g.evacRepeat ++ optField 1 g.evacScript

def sillBytes (e : SillEntry) : List Byte := flag e.present :: bigEndian 1 e.landing ++ [name .run e.run.ctorIdx]

def zoneBytes (e : ZoneEntry) : List Byte :=
  flag e.present :: byteList e.detectors ++ byteList e.neighbours ++ byteList e.circuits ++ byteList e.channels ++
    byteList e.landings ++ optField 1 e.namePhrase

def shutterBytes (e : ShutterEntry) : List Byte :=
  flag e.present :: bigEndian 1 e.home ++ optField 1 e.sill ++ bigEndian 1 e.descentLimit ++ bigEndian 2 e.retract ++
    bigEndian 1 e.pause

def pushBytes (e : PushEntry) : List Byte :=
  flag e.present :: bigEndian 1 e.code ++ bigEndian 1 e.level ++ bigEndian 1 e.circuit ++ optField 1 e.escalation

def circuitBytes (e : CircuitEntry) : List Byte := flag e.present :: bigEndian 1 e.resetMask

def phraseBytes (e : PhraseEntry) : List Byte := bigEndian 3 e.start ++ bigEndian 2 e.length

def itemBytes (i : Item) : List Byte :=
  name .itemKind i.ctorIdx :: match i with
    | .phrase p => bigEndian 1 p
    | .number base => bigEndian 1 base
    | .silence ms => bigEndian 2 ms
    | .again target => bigEndian 1 target
    | .zoneName | .chime => []

def scriptBytes (e : ScriptEntry) : List Byte := flag e.present :: listField itemBytes e.items

def stepBytes (e : StepEntry) : List Byte :=
  flag e.present :: signedField 2 (some e.offset) ++ [name .stepKind e.kind.ctorIdx] ++ optField 1 e.script ++
    optList (bigEndian 1) e.channels ++ optList (bigEndian 1) e.circuits ++ optList (bigEndian 1) e.zones ++
    optField 1 e.level

def entryBytes : PlanEntry → List Byte
  | .geometry e => geometryBytes e
  | .sill e => sillBytes e
  | .zone e => zoneBytes e
  | .shutter e => shutterBytes e
  | .push e => pushBytes e
  | .circuit e => circuitBytes e
  | .phrase e => phraseBytes e
  | .script e => scriptBytes e
  | .step e => stepBytes e

/-- An entry as a frame carries it: its form, then every field of a full entry (R16). An entry with a bad code is not
known by its fields. -/
def planItemBytes : PlanItem → Option (List Byte)
  | .empty => some [name .entryForm 0]
  | .full e => some (name .entryForm 1 :: entryBytes e)
  | .badCode => none

/-! ## Replies -/

/-- What follows a result code in a refusal (R188). -/
def Result.extra : Result → List Byte
  | .busy reason subject => bigEndian 1 reason.code ++ bigEndian 1 subject
  | .notQuiescent condition index => name .condition condition.ctorIdx :: bigEndian 1 index
  | .planCheck table index => name .planTable table.ctorIdx :: bigEndian 1 index
  | _ => []

/-- A call's key: its source and number, and its circuit, absent for a PUSH call (section 7.1). -/
def callKeyBytes (k : CallKey) : List Byte :=
  keyBytes k ++ match k with
    | .push _ => [0xFF]
    | .fire c | .programme _ c | .host _ c => bigEndian 1 c

def portReadoutBytes (r : PortReadout) : List Byte := bigEndian 1 r.queued ++ [flag r.lost]

def moduleBytes (x : Nat × ModuleRecord) : List Byte :=
  bigEndian 1 x.1 ++ [kindName x.2.kind, flag x.2.present] ++ bigEndian 1 x.2.missed ++ optField 1 x.2.first

def unitBytes (r : UnitReadout) : List Byte :=
  bigEndian 4 r.seconds ++ [name .startCause r.cause.ctorIdx, name .planState r.loaded.toNat] ++ bigEndian 2 r.bitRate ++
    portReadoutBytes r.portC ++ portReadoutBytes r.portF ++ listField moduleBytes r.modules

def zoneReadoutBytes (r : ZoneReadout) : List Byte :=
  [flag r.record.present, name .zoneState r.record.state.ctorIdx, flag r.record.silenced] ++
    optField 1 r.record.firstAlarm ++ optField 4 r.record.alarmSecond ++
    listField (fun x => bigEndian 1 x.1 ++ [name .lineState x.2.ctorIdx]) r.detectors

/-- The states of the 48 detectors, UNNUMBERED after the four line states, then their zones (R93). -/
def detectorsBytes (r : List DetectorReadout) : List Byte :=
  r.map (fun d => name .lineState ((d.line.map LineState.ctorIdx).getD 4)) ++ r.flatMap fun d => optField 1 d.zone

def demandBytes (d : Demand) : List Byte :=
  byteList d.shutters ++ byteList d.landings ++ byteList d.circuits ++ byteList d.channels ++ optField 1 d.context ++
    optField 1 d.lowestAlarm

def shutterReadoutBytes (r : ShutterReadout) : List Byte :=
  flag r.present :: bigEndian 1 r.home ++ optField 1 r.sill ++
    [name .shutterState r.record.state.ctorIdx, name .closeCause r.record.cause.ctorIdx, flag r.record.uncleared,
      flag r.record.forced] ++ bigEndian 1 r.record.obstructions ++
    [flag r.record.waitingPosted, optName .jamReason (r.record.jam.map JamReason.ctorIdx)] ++
    optField 3 r.record.warnTimer ++ optField 3 r.record.holdTimer ++ optField 3 r.record.travelTimer ++
    optField 2 r.record.phaseTimer ++
    [flag r.up, flag r.down, flag r.edge, flag r.edgeBlanked, flag r.release, flag r.brake, flag r.wind, flag r.warn,
      flag r.inFireSet, optName .sillAnswer (r.answer.map SillAnswer.ctorIdx)]

def shutterSummaryBytes (r : ShutterSummary) : List Byte :=
  [flag r.present, name .shutterState r.state.ctorIdx, name .closeCause r.cause.ctorIdx]

/-- The stop record, or absent (R74). -/
def stopBytes : Option StopRecord → List Byte
  | none => List.replicate 8 0xFF
  | some r => bigEndian 2 r.linksToGo ++ bigEndian 2 r.decel ++ bigEndian 2 r.target ++ bigEndian 2 r.overrun

/-- The sweep remainder, or in WARNING the carried loops (R74). -/
def ChainReadout.sweepShown (r : ChainReadout) : Option Nat := if r.state = .warning then r.carriedLoops else r.sweep

def carBytes (c : CarReadout) : List Byte := bigEndian 2 c.floor ++ [name .carRun c.run.ctorIdx]

/-- CHAIN READ: the Chain Drive Controller's part (R74), then the Chain Monitor's (R45). -/
def chainReadoutBytes (r : ChainReadout) : List Byte :=
  [r.state.name, r.state.subName, r.state.phaseName, name .driveOutput r.drive.ctorIdx] ++ stopBytes r.stop ++
    [optName .chainSub (r.deferred.map StopCause.ctorIdx)] ++ optField 2 r.sweepShown ++ optField 2 r.step ++
    optField 2 r.warningLeft ++ [flag r.flapTop, flag r.flapBottom, flag r.slow] ++
    bigEndian 2 r.count ++ [name .position r.position.ctorIdx] ++ bigEndian 2 r.speed ++ bigEndian 1 r.ringEntries ++
    [flag r.settled] ++ signedField 2 r.lastError ++
    (r.answers.rows.map fun a => name .sillAnswer a.ctorIdx) ++ optList carBytes r.cars

/-- A speak request with every field (section 9.3). -/
def requestBytes (r : SpeakRequest) : List Byte :=
  bigEndian 2 r.tag ++ bigEndian 1 r.script ++ byteList r.channels ++ [name .speakClass r.cls.ctorIdx] ++
    optField 1 r.context ++ optField 1 r.number ++ [r.origin.name] ++ bigEndian 4 r.arrival

/-- The request a player holds, each field absent where it holds none (R169). -/
def heldBytes : Option HeldRequest → List Byte
  | none => List.replicate 8 0xFF
  | some r =>
    bigEndian 2 r.tag ++ [name .speakClass r.cls.ctorIdx, r.origin.name] ++ bigEndian 1 r.script ++ byteList r.channels ++
      optField 1 r.context ++ optField 1 r.number

def playerBytes (r : PlayerReadout) : List Byte :=
  name .playerPhase r.phase.ctorIdx :: heldBytes r.request ++ optField 1 r.item ++ optField 3 r.remaining ++
    optField 2 r.itemTimer ++
    listField (fun x => bigEndian 1 x.1 ++ [optName .readiness (x.2.map Readiness.ctorIdx)]) r.held

def channelBytes (r : ChannelReadout) : List Byte :=
  [flag r.on, flag r.ready, optName .player (r.holder.map Player.ctorIdx),
    optName .player (r.routing.map Player.ctorIdx)] ++ optField 2 r.waitTimer ++ optField 2 r.holdTimer

def speakBytes (r : SpeakReadout) : List Byte :=
  playerBytes r.playerA ++ playerBytes r.playerB ++ [name .evacState r.evac.state.ctorIdx] ++ byteList r.evac.channels ++
    optField 1 r.evac.context ++ optField 1 r.evac.script ++ optField 3 r.evac.restLeft ++
    listField requestBytes r.queue ++ r.channels.flatMap channelBytes

def closingBytes (r : ClosingReadout) : List Byte :=
  name .programmeState r.state.ctorIdx :: bigEndian 4 r.seconds ++ optField 4 r.close ++ signedField 4 r.left ++
    optField 1 r.pointer ++
    r.steps.flatMap fun x => optName .mark (x.mark.map Mark.ctorIdx) :: signedField 4 x.due

def wearBytes (w : WearCounts) : List Byte :=
  bigEndian 4 w.links ++ bigEndian 4 w.index ++ bigEndian 2 w.emergencyStops ++
    w.closures.rows.flatMap (bigEndian 2) ++ w.obstructions.rows.flatMap (bigEndian 2)

/-- The pattern position of a ring: digit or group, and stroke; absent for FIRE (section 8.1). -/
def ringPlaceBytes : RingPlace → List Byte
  | .digit tens stroke => name .ringDigit tens.toNat :: bigEndian 1 stroke
  | .group group stroke => bigEndian 1 group ++ bigEndian 1 stroke
  | .fire => [0xFF, 0xFF]

/-- A circuit's record (R150): what it rings is absent in IDLE. -/
def circuitReadoutBytes (r : CircuitRecord) : List Byte :=
  name .circuitState r.ring.isSome.toNat ::
    (match r.ring with
      | none => List.replicate 10 0xFF
      | some g => callKeyBytes g.key ++ patternBytes g.pattern ++ ringPlaceBytes g.place ++
          [name .ringPhase g.phase.ctorIdx] ++ bigEndian 2 g.timer) ++
    bigEndian 1 r.mask ++ optField 1 r.pendingMask

/-- PLAN READ's fields; the geometry entry is followed by the residue count (R23). -/
def planReadBytes (entry : PlanItem) (residues : Option Nat) : List Byte :=
  (planItemBytes entry).getD [] ++ match entry with
    | .full (.geometry _) => optField 2 residues
    | _ => []

/-- The fields of a reply after its result. -/
def Fields.bytes : Fields → List Byte
  | .none => []
  | .unit r => unitBytes r
  | .zone r => zoneReadoutBytes r
  | .detectors r => detectorsBytes r
  | .demand r => demandBytes r
  | .shutter r => shutterReadoutBytes r
  | .shutters r => r.flatMap shutterSummaryBytes
  | .chain r => chainReadoutBytes r
  | .calls total entries => bigEndian 1 total ++ listField (fun x => callEntryBytes x.1 x.2) entries
  | .speak r => speakBytes r
  | .closing r => closingBytes r
  | .wear r => wearBytes r
  | .plan entry residues => planReadBytes entry residues
  | .notice n => noticeBytes n
  | .index i => bigEndian 1 i
  | .stored b => [flag b]
  | .pointer offset => bigEndian 2 offset
  | .shutterState st => [name .shutterState st.ctorIdx]
  | .place replaced p => name .entered replaced.toNat :: bigEndian 1 p
  | .tag t n => bigEndian 2 t ++ optField 1 n
  | .masks mask pendingMask => bigEndian 1 mask ++ optField 1 pendingMask
  | .circuit r => circuitReadoutBytes r
  | .closeInstant t => bigEndian 4 t

/-- The body of a reply: its kind, the result, what a refusal carries and the fields (R188). -/
def replyBody (r : Reply) : List Byte :=
  bigEndian 1 r.kind ++ bigEndian 1 r.result.code ++ r.result.extra ++ r.fields.bytes

/-! ## Requests -/

/-- The fields of a request whose body fits; none where an operand stands for a code that is not told. -/
def fieldsOf (body : Body α) (fields : α → Option (List Byte)) : Option (List Byte) :=
  match body with
  | .fits a => fields a
  | .misfit => none

/-- A request that carries one number of `k` bytes. -/
def oneNumber (k : Nat) (body : Body Nat) : Option (List Byte) := fieldsOf body fun n => some (bigEndian k n)

/-- A request that carries nothing. -/
def noField (body : Body Unit) : Option (List Byte) := fieldsOf body fun _ => some []

def zoneSelectorBytes : ZoneSelector → Option (List Byte)
  | .zone z => some (bigEndian 1 z)
  | .detectors => some [name .selector 0]
  | .demand => some [name .selector 1]
  | .unnamed => none

def shutterSelectorBytes : ShutterSelector → List Byte
  | .one k => bigEndian 1 k
  | .all => [name .selector 2]

def planReadRequest (f : PlanReadFields) : Option (List Byte) := do
  let copy ← f.copy
  let table ← f.table
  pure (name .planCopy copy.ctorIdx :: name .planTable table.ctorIdx :: bigEndian 1 f.index)

def planOpenRequest (f : PlanOpenFields) : Option (List Byte) := do
  let table ← f.table
  pure (name .planTable table.ctorIdx :: bigEndian 1 f.first)

def planEntryRequest : EntryFrame → Option (List Byte)
  | .entries items => (items.mapM planItemBytes).map List.flatten
  | .indivisible => none

def inspectRequest (on : Bool) : RowCode → Option (List Byte)
  | .named => some [name .rowCode on.toNat]
  | .unnamed => none

def callPlaceRequest (f : CallPlaceFields) : Option (List Byte) := do
  let mode ← f.mode
  pure (bigEndian 1 f.circuit ++ bigEndian 1 f.level ++ bigEndian 1 f.code ++ [name .callMode mode.ctorIdx] ++
    optField 2 f.reRing)

/-- The number's range 0 to 255 with absent takes two bytes (R156). -/
def speakRequest (f : SpeakFields) : Option (List Byte) := do
  let cls ← f.cls
  pure (bigEndian 1 f.script ++ byteList f.channels ++ [name .speakClass cls.ctorIdx] ++ optField 1 f.context ++
    optField 2 f.number)

end Sys2Proof.Machine

namespace Sys2Proof
open Sys2Proof.Machine

/-- The request a command stands for: its port, kind, and the bytes of its fields where the command tells them. DESIGN CHOICE
(notes/assumptions/56.md): WEAR_READ, whose frame is given with the clear option clear, also stands for one whose option
holds neither set nor clear. -/
def Instr.request : Instr → Option (Port × Kind × Option (List Byte))
  | .unitRead p body => some (p, .unitRead, noField body)
  | .zoneRead p body => some (p, .zoneRead, fieldsOf body zoneSelectorBytes)
  | .shutterRead p body => some (p, .shutterRead, fieldsOf body fun x => some (shutterSelectorBytes x))
  | .chainRead p body => some (p, .chainRead, noField body)
  | .callList p body => some (p, .callList, oneNumber 1 body)
  | .speakList p body => some (p, .speakList, noField body)
  | .closingRead p body => some (p, .closingRead, noField body)
  | .wearRead p body => some (p, .wearRead, fieldsOf body fun _ => some [flag false])
  | .wearReadClear p body => some (p, .wearRead, fieldsOf body fun _ => some [flag true])
  | .planRead p body => some (p, .planRead, fieldsOf body planReadRequest)
  | .noticeFetch p body => some (p, .noticeFetch, noField body)
  | .planOpen p body => some (p, .planOpen, fieldsOf body planOpenRequest)
  | .planEntry p body => some (p, .planEntry, fieldsOf body planEntryRequest)
  | .planClose p body => some (p, .planClose, noField body)
  | .planAdopt p body => some (p, .planAdopt, noField body)
  | .planDiscard p body => some (p, .planDiscard, noField body)
  | .sampleOpen p body => some (p, .sampleOpen, oneNumber 1 body)
  | .sampleData p body => some (p, .sampleData, fieldsOf body some)
  | .zoneIsolate p body => some (p, .zoneIsolate, oneNumber 1 body)
  | .zoneRestore p body => some (p, .zoneRestore, oneNumber 1 body)
  | .zoneSilence p body => some (p, .zoneSilence, oneNumber 1 body)
  | .zoneReset p body => some (p, .zoneReset, oneNumber 1 body)
  | .shutterLower p body => some (p, .shutterLower, oneNumber 1 body)
  | .shutterRaise p body => some (p, .shutterRaise, oneNumber 1 body)
  | .shutterHalt p body => some (p, .shutterHalt, oneNumber 1 body)
  | .chainStart p body => some (p, .chainStart, noField body)
  | .chainStop p body => some (p, .chainStop, noField body)
  | .chainInspectOn p body => some (p, .chainInspect, fieldsOf body (inspectRequest true))
  | .chainInspectOff p body => some (p, .chainInspect, fieldsOf body (inspectRequest false))
  | .chainStep p body => some (p, .chainStep, oneNumber 2 body)
  | .callPlace p body => some (p, .callPlace, fieldsOf body callPlaceRequest)
  | .callClear p body => some (p, .callClear, fieldsOf body (Option.map callKeyBytes))
  | .callMask p body => some (p, .callMask, fieldsOf body fun f => some (bigEndian 1 f.circuit ++ bigEndian 1 f.level))
  | .circuitRead p body => some (p, .callMask, fieldsOf body fun c => some (bigEndian 1 c ++ optField 1 none))
  | .speak p body => some (p, .speak, fieldsOf body speakRequest)
  | .speakCancel p body => some (p, .speakCancel, oneNumber 2 body)
  | .closingBegin p body => some (p, .closingBegin, oneNumber 2 body)
  | .closingPostpone p body => some (p, .closingPostpone, oneNumber 2 body)
  | .closingAbort p body => some (p, .closingAbort, noField body)
  | .closingResume p body => some (p, .closingResume, noField body)
  | .unitRestart p body => some (p, .unitRestart, noField body)
  | .unknownKind _ _ => none
  | .resetLow _ => none
  | .coldStart _ => none
  | .scan _ => none
  | .pushBlankingEnd _ _ => none
  | .edgeBlankingEnd _ _ => none
  | .linkPulse _ => none
  | .decelPoint _ => none
  | .stopTargetReached _ => none
  | .sweepEnd _ => none
  | .stepRemainderEnd _ => none
  | .missedIndex _ => none
  | .indexPulse => none
  | .chainSettled => none
  | .stall => none
  | .startWarningEnd => none
  | .warningGongToggle => none
  | .sweepGongTimer => none
  | .secondsTick => none
  | .wearWrite => none
  | .reRing _ => none
  | .closingStepDue => none
  | .shutterWarningExpiry _ => none
  | .holdOffExpiry _ => none
  | .retractExpiry _ => none
  | .pauseExpiry _ => none
  | .descentLimitExpiry _ => none
  | .raiseLimitExpiry _ => none
  | .phaseEnd _ => none
  | .itemTimerExpiry _ => none
  | .phraseEnd _ => none
  | .ampWaitExpiry _ => none
  | .ampHoldExpiry _ => none
  | .evacuationRestExpiry => none
  | .frameGapTimeout _ => none
  | .frameDiscard _ => none
  | .replySent _ => none
  | .storeWriteDone _ => none
  | .sampleWriteDone => none
  | .warmRestart => none
  | .frameByte _ _ => none
  | .powerLoss _ => none

/-- The body of the frame a request command stands for: its kind and its fields (R187, R189). -/
def Instr.requestBody (i : Instr) : Option (List Byte) := do
  let r ← i.request
  let fields ← r.2.2
  pure (bigEndian 1 r.2.1.code ++ fields)

end Sys2Proof
end

