-- ==== Sys2Proof/Safety.lean ====
section
/-! DEFINITION. The properties the manual promises of every reachable state, and the words claims use for what a command
leaves alone. -/

namespace Sys2Proof.Machine
open Sys2Proof

/-! ## The interlock of chain and sill shutters (R51) -/

/-- Every sill shutter of the active plan stands in OPEN. -/
def Live.sillsOpen (s : Live) : Prop := ∀ k, s.isSill k = true → (s.shutter k).state = .opened

/-- The states whose drive output is off BRAKE (section 4.1). -/
def ChainState.driven : ChainState → Bool
  | .running | .stopping _ .approach | .stopping _ .creeping | .inspection .creeping => true
  | _ => false

/-- The states a sill shutter leaving OPEN ends: those off BRAKE, and the start warning. -/
def ChainState.engaged (st : ChainState) : Bool := st.driven || st == .warning

/-- The interlock: a chain that moves, or sounds its start warning, has every sill shutter in OPEN, and the drive is
off BRAKE in the driven states alone. -/
structure Interlock (s : Live) : Prop where
  guarded : s.chain.state.engaged = true → s.sillsOpen
  driven : s.chain.drive ≠ .brake → s.chain.state.driven = true

/-! ## The items the chain keeps (section 4.1, R51) -/

/-- Each item of the Chain Drive Controller is absent where the item table does not give it. -/
structure ChainItems (s : Live) : Prop where
  stop : ∀ r, s.chain.stop = some r → ∃ c p, s.chain.state = .stopping c p
  deferred : ∀ c, s.chain.deferred = some c → s.chain.state = .running
  sweep : ∀ n, s.chain.sweep = some n → s.chain.state = .running
  carried : ∀ n, s.chain.carriedLoops = some n → s.chain.state = .warning
  step : ∀ n, s.chain.step = some n → s.chain.state = .inspection .creeping ∨ s.chain.state = .inspection .braked
  warnTimer : ∀ t, s.chain.warnTimer = some t → s.chain.state = .warning
  gongTimer : ∀ t, s.chain.gongTimer = some t → s.chain.sweep.isSome = true
  stallTimer : ∀ t, s.chain.stallTimer = some t → s.chain.drive ≠ .brake ∧ s.chain.state.driven = true

/-! ## The programme and the fire (R79, R171) -/

/-- While any zone is in ALARM the Closing Sequencer is not RUNNING. -/
def AlarmStopsProgramme (s : Live) : Prop := ∀ z, s.inAlarm z = true → s.closing.state ≠ .running

/-! ## Queues and lists (R121, R157, R190) -/

/-- A port's queue holds at most 32 notices and its attention line shows whether it holds any (R190). -/
structure PortQueue (r : PortRecord) : Prop where
  room : r.notices.length ≤ Config.noticeQueueSize
  attention : r.attention = !r.notices.isEmpty

/-- The call list holds at most 32 records, highest level first, no two with one key; a fire call stands on the circuit of
its key, one of the 16, at level 7, and no other call is of level 7 (R121, R131). -/
structure CallOrder (l : List CallRecord) : Prop where
  room : l.length ≤ Config.callListSize
  sorted : l.Pairwise fun a b => b.level ≤ a.level
  distinct : (l.map CallRecord.key).Nodup
  fire : ∀ r ∈ l, ∀ c, r.key = .fire c → c < 16 ∧ r.circuit = c ∧ r.level = Config.fireLevel ∧ r.pattern = .fire
  top : ∀ r ∈ l, Config.fireLevel ≤ r.level → ∃ c, r.key = .fire c

/-- No push of a plan has a level above 6 (section 2.2). -/
def Plan.pushLevels (p : Plan) : Prop := ∀ k, (p.push k).level ≤ Config.levelTop

/-- No plan the part holds has a push above level 6: each entry of a plan has passed its ranges (R16). -/
structure PushLevels (s : State) : Prop where
  active : s.live.store.active.pushLevels
  pending : s.live.store.pending.pushLevels
  stored : s.nv.plan.pushLevels

/-- At most 8 requests wait to speak, CLOSING before GENERAL and none of EVACUATE; their tags run from 1 to 65,535, no two
alike and none that a player's request holds (R156, R157, R161). -/
structure SpeakQueue (s : Live) : Prop where
  room : s.speech.queue.length ≤ Config.speakQueueSize
  queued : ∀ r ∈ s.speech.queue, r.cls ≠ .evacuate
  order : s.speech.queue.Pairwise fun a b => a.cls = .general → b.cls = .general
  distinct : (s.speech.queue.map SpeakRequest.tag).Nodup
  apart : ∀ pl r, (s.player pl).request = some r → ∀ x ∈ s.speech.queue, x.tag ≠ r.tag
  range : ∀ r ∈ s.speech.queue, 1 ≤ r.tag ∧ r.tag ≤ 65535
  next : 1 ≤ s.speech.nextTag ∧ s.speech.nextTag ≤ 65535

/-! ## The outputs (R96, R128, R139, R165) -/

/-- Each numbered shutter's four outputs are those its state gives (R96). -/
def GearDriven (s : Live) : Prop :=
  ∀ k, s.loop.numbered .shutter k = true →
    (s.image.release.read k false, s.image.brake.read k false, s.image.wind.read k false, s.image.warn.read k false) =
      gearOutputs (s.shutter k).state

/-- Each numbered circuit's sounder is asserted exactly while its phase is ON (R139). -/
def SoundersFollow (s : Live) : Prop :=
  ∀ c, s.loop.numbered .bell c = true →
    s.image.sounders.read c false = ((s.circuit c).ring.map fun r => r.phase == .on).getD false

/-- Each numbered push's indicator is on exactly while a call of that push stands in the list (R128). -/
def IndicatorsFollow (s : Live) : Prop :=
  ∀ p, s.loop.numbered .call p = true → s.image.indicators.read p false = (s.call (.push p)).isSome

/-- What the players hold and route (R161, R165): an IDLE player holds no request and every other holds one, a channel held
is in its holder's request, and a channel routed is held by the player it is routed to and that player is PLAYING. -/
structure Channels (s : Live) : Prop where
  request : ∀ pl, (s.player pl).phase = .idle ↔ (s.player pl).request = none
  holder : ∀ ch pl, (s.channel ch).holder = some pl → ∃ r, (s.player pl).request = some r ∧ ch ∈ r.channels
  routed : ∀ ch pl, (s.channel ch).routing = some pl →
    (s.channel ch).holder = some pl ∧ (s.player pl).phase = .playing
  selects : ∀ ch, s.loop.numbered .audio ch = true →
    s.image.selA.read ch false = Machine.selects (s.channel ch).routing .a ∧
      s.image.selB.read ch false = Machine.selects (s.channel ch).routing .b

/-! ## The course of a ring (R142, R143) -/

/-- The first `n` phases a ring passes from where it stands when nothing takes its circuit, up to the one that completes it:
each with its place in the pattern and its length in ms. -/
def Ring.course : Nat → Ring → List (RingPhase × RingPlace × Nat)
  | 0, _ => []
  | n + 1, r =>
    (r.phase, r.place, phaseLength r.pattern r.phase) ::
      match r.phase with
      | .on => Ring.course n { r with phase := .off }
      | .off =>
        if r.lastStroke then [] else Ring.course n { r with phase := r.following.1, place := r.following.2 }
      | .gap => Ring.course n { r with phase := r.following.1, place := r.following.2 }

/-! ## The count (R34) -/

/-- The chain count lies in 0 to L − 1, and no plan the part can come to hold has a loop of no links. -/
structure CountInLoop (s : State) : Prop where
  count : s.live.monitor.count < s.live.plan.geometry.loopLength
  stored : 0 < s.nv.plan.geometry.loopLength

/-! ## What a command leaves alone -/

/-- The parts of the running unit, for statements of what a command leaves as it was. -/
inductive Part
  | clock | loop | image | store | monitor | chain | zones | gear | calls | circuits | speech | closing | portC | portF
  | free
deriving DecidableEq, Repr

/-- A part is the same before and after. `clock` is everything that belongs to no block: the seconds counter, the start
cause, the bit rate and the two markers. -/
def samePart (s t : Live) : Part → Prop
  | .clock => t.seconds = s.seconds ∧ t.startCause = s.startCause ∧ t.rateIsHigh = s.rateIsHigh ∧
      t.restart = s.restart ∧ t.wearDue = s.wearDue
  | .loop => t.loop = s.loop
  | .image => t.image = s.image
  | .store => t.store = s.store
  | .monitor => t.monitor = s.monitor
  | .chain => t.chain = s.chain
  | .zones => t.zones = s.zones
  | .gear => t.gear = s.gear
  | .calls => t.calls = s.calls
  | .circuits => t.circuits = s.circuits
  | .speech => t.speech = s.speech
  | .closing => t.closing = s.closing
  | .portC => t.portC = s.portC
  | .portF => t.portF = s.portF
  | .free => t.free = s.free

/-- Only the listed parts may differ. -/
def onlyParts (ps : List Part) (s t : Live) : Prop := ∀ p, p ∉ ps → samePart s t p

/-- Everything outside the running unit stays: the waiting commands, the supply, sample memory and the non-volatile
store. -/
def sameOutside (s t : State) : Prop :=
  t.pending = s.pending ∧ t.power = s.power ∧ t.samples = s.samples ∧ t.nv = s.nv

/-- A command leaves everything as it was but the listed parts. -/
def changesOnly (ps : List Part) (s t : State) : Prop := sameOutside s t ∧ onlyParts ps s.live t.live

/-- The load cursor is closed where port C's request breaks a load (R17); port F's break none. -/
def State.loadClosed (s : State) (p : Port) : State :=
  match p with
  | .c => { s with live := s.live.closeCursor }
  | .f => s

/-- The state in which a request of kind `k` has been taken on port `p`, its reply with result `r` and fields `f` waits
to be sent, and nothing else has changed. -/
def State.served (s : State) (p : Port) (k : Kind) (r : Result) (f : Fields) : State :=
  { s with live := s.live.withPort p { s.live.port p with
      receiver := .hunting, gap := 0, replyPending := true, reply := some ⟨k.replyCode, r, f⟩ } }

/-- The state with another plan store record. -/
def State.withStore (s : State) (x : PlanStore) : State := { s with live := { s.live with store := x } }

/-- The state with another record of a port. -/
def State.withPortRecord (s : State) (p : Port) (r : PortRecord) : State := { s with live := s.live.withPort p r }

/-- A notice has been offered to both ports: each port's queue holds it, stamped with the second, or its lost flag is
set (R190). -/
def Live.offered (t : Live) (n : Note) : Prop :=
  ∀ p, ⟨n, t.seconds, false⟩ ∈ (t.port p).notices ∨ (t.port p).lost = true

/-- What a port holds of the exchange of frames. -/
def PortRecord.wire (r : PortRecord) : Receiver × Nat × Bool × Option Reply :=
  (r.receiver, r.gap, r.replyPending, r.reply)

/-- The rolling speed follows the ring (R40, R41). -/
structure SpeedFollowsRing (m : ChainMonitor) : Prop where
  size : m.ring.length ≤ Config.ringSize
  interval : ∀ x ∈ m.ring, 1 ≤ x ∧ x ≤ Config.intervalTop
  speed : m.speed = if m.ring = [] then 0 else 10000 * m.ring.length / m.ring.sum
  atMost : m.speed ≤ 10000

/-- The port's own part. -/
def portPart : Port → Part
  | .c => .portC
  | .f => .portF

/-- The part is supplied and out of reset. -/
abbrev State.running (s : State) : Prop := s.power = .on

/-- A request of this kind can be taken on this port (R187, R188). -/
abbrev State.canTake (s : State) (p : Port) (k : Kind) : Prop := s.power = .on ∧ s.live.takes p k.code = true

/-- The reply that waits on a port. -/
abbrev State.replyOn (s : State) (p : Port) : Option Reply := (s.live.port p).reply

/-- A request was taken on a port and the reply with this result and these fields waits to be sent. -/
abbrev State.replied (t : State) (p : Port) (k : Kind) (r : Result) (f : Fields) : Prop :=
  (t.live.port p).replyPending = true ∧ t.replyOn p = some ⟨k.replyCode, r, f⟩

/-- The request a command is: the port its frame came on and its kind; none for a command that is no request of the
request kind table. -/
def requestOf : Instr → Option (Port × Kind)
  | .unitRead p _ => some (p, .unitRead)
  | .zoneRead p _ => some (p, .zoneRead)
  | .shutterRead p _ => some (p, .shutterRead)
  | .chainRead p _ => some (p, .chainRead)
  | .callList p _ => some (p, .callList)
  | .speakList p _ => some (p, .speakList)
  | .closingRead p _ => some (p, .closingRead)
  | .wearRead p _ => some (p, .wearRead)
  | .wearReadClear p _ => some (p, .wearRead)
  | .planRead p _ => some (p, .planRead)
  | .noticeFetch p _ => some (p, .noticeFetch)
  | .planOpen p _ => some (p, .planOpen)
  | .planEntry p _ => some (p, .planEntry)
  | .planClose p _ => some (p, .planClose)
  | .planAdopt p _ => some (p, .planAdopt)
  | .planDiscard p _ => some (p, .planDiscard)
  | .sampleOpen p _ => some (p, .sampleOpen)
  | .sampleData p _ => some (p, .sampleData)
  | .zoneIsolate p _ => some (p, .zoneIsolate)
  | .zoneRestore p _ => some (p, .zoneRestore)
  | .zoneSilence p _ => some (p, .zoneSilence)
  | .zoneReset p _ => some (p, .zoneReset)
  | .shutterLower p _ => some (p, .shutterLower)
  | .shutterRaise p _ => some (p, .shutterRaise)
  | .shutterHalt p _ => some (p, .shutterHalt)
  | .chainStart p _ => some (p, .chainStart)
  | .chainStop p _ => some (p, .chainStop)
  | .chainInspectOn p _ => some (p, .chainInspect)
  | .chainInspectOff p _ => some (p, .chainInspect)
  | .chainStep p _ => some (p, .chainStep)
  | .callPlace p _ => some (p, .callPlace)
  | .callClear p _ => some (p, .callClear)
  | .callMask p _ => some (p, .callMask)
  | .circuitRead p _ => some (p, .callMask)
  | .speak p _ => some (p, .speak)
  | .speakCancel p _ => some (p, .speakCancel)
  | .closingBegin p _ => some (p, .closingBegin)
  | .closingPostpone p _ => some (p, .closingPostpone)
  | .closingAbort p _ => some (p, .closingAbort)
  | .closingResume p _ => some (p, .closingResume)
  | .unitRestart p _ => some (p, .unitRestart)
  | _ => none

/-- The port whose frame exchange a command is about: a request's, or that of a command of the byte stream. -/
def portOf : Instr → Option Port
  | .frameGapTimeout p => some p
  | .frameDiscard p => some p
  | .replySent p => some p
  | .unknownKind p _ => some p
  | .frameByte p _ => some p
  | i => (requestOf i).map Prod.fst

end Sys2Proof.Machine
end

