-- ==== Sys2Proof/Certificates/Slice0/Obligations.lean ====
section
/-! DEFINITION. The statements for the provers, in four groups: the queue of commands and the ports; the invariants every
step keeps and the whole-machine rules; the laws of the data; and for every command the state it gives. What a scan hands on
is stated of the operation it applies, and the scan itself as their sequence. -/

open Sys2Proof Sys2Proof.Machine

/-! ## The queue of commands and the ports -/

/-- The command at the front of the queue is taken and executed with the queue's rest. -/
def Obligations.StepRunsFront : Prop :=
  ∀ (c : Instr) (rest : List Instr) (s : State),
    step { s with pending := c :: rest } = exec c { s with pending := rest }

/-- With no command waiting the block idles, and outside supply and RESET nothing but COLD_START, and the loss of supply
itself, changes anything: the MODEL's choices, notes/assumptions/41.md and notes/assumptions/29.md. -/
def Obligations.IdleAndUnpowered : Prop :=
  (∀ s : State, s.pending = [] → step s = .next s) ∧
  ∀ (i : Instr) (s : State), s.power ≠ .on → (∀ x, i ≠ .coldStart x) → (∀ b, i ≠ .powerLoss b) → exec i s = .next s

/-- R187, R193: while the port's reply is pending, or a warm restart waits, a request is not taken and changes nothing. That
a whole frame of another kind can stand in the receiver, and that a request is then not taken, and that a request of port F
whose frame had begun when UNIT RESTART was taken is among those not taken, are the MODEL's choices, notes/assumptions/9.md
and 54.md. -/
def Obligations.RequestNotTakenChangesNothing : Prop :=
  ∀ (i : Instr) (s : State) (p : Port) (k : Kind), requestOf i = some (p, k) → s.power = .on →
    s.live.takes p k.code = false → exec i s = .next s

/-- R188, steps 1 and 2: a kind the request kind table does not permit on port F is answered NOT PERMITTED there, whatever
its body, and nothing else changes; a kind code that names no request is answered UNKNOWN KIND, with reply kind FFh, and on
port C it breaks a load (R17). -/
def Obligations.PrivilegedAndUnknownKinds : Prop :=
  (∀ (i : Instr) (s : State) (k : Kind), requestOf i = some (.f, k) → k.onPortF = false → s.canTake .f k →
     exec i s = .next (s.served .f k .notPermitted .none)) ∧
  (∀ (p : Port) (code : Byte) (s : State), s.power = .on → s.live.takes p code.toNat = true →
     knownKind code.toNat = false → ∃ t, exec (.unknownKind p code) s = .next t ∧
       (t.live.port p).wire = (.hunting, 0, true, some ⟨0xFF, .unknownKind, .none⟩) ∧
       t.live.store = (s.loadClosed p).live.store ∧ changesOnly [.store, portPart p] s t)

/-- R188, step 3, and R17: a body that does not fit is answered BAD LENGTH; nothing else changes but the load a breaking
request of port C closes. That a CALL MASK that does not fit breaks a load under its own row and none under CIRCUIT_READ is
the MODEL's choice, notes/assumptions/8.md. -/
def Obligations.MisfitsAnsweredBadLength : Prop :=
  (∀ (p : Port) (s : State),
    (s.canTake p .unitRead → exec (.unitRead p .misfit) s = .next (s.served p .unitRead .badLength .none)) ∧
    (s.canTake p .zoneRead → exec (.zoneRead p .misfit) s = .next (s.served p .zoneRead .badLength .none)) ∧
    (s.canTake p .shutterRead → exec (.shutterRead p .misfit) s = .next (s.served p .shutterRead .badLength .none)) ∧
    (s.canTake p .chainRead → exec (.chainRead p .misfit) s = .next (s.served p .chainRead .badLength .none)) ∧
    (s.canTake p .callList → exec (.callList p .misfit) s = .next (s.served p .callList .badLength .none)) ∧
    (s.canTake p .speakList → exec (.speakList p .misfit) s = .next (s.served p .speakList .badLength .none)) ∧
    (s.canTake p .closingRead → exec (.closingRead p .misfit) s = .next (s.served p .closingRead .badLength .none)) ∧
    (s.canTake p .wearRead → exec (.wearRead p .misfit) s = .next (s.served p .wearRead .badLength .none) ∧
      exec (.wearReadClear p .misfit) s = .next (s.served p .wearRead .badLength .none)) ∧
    (s.canTake p .planRead → exec (.planRead p .misfit) s = .next (s.served p .planRead .badLength .none)) ∧
    (s.canTake p .noticeFetch → exec (.noticeFetch p .misfit) s = .next (s.served p .noticeFetch .badLength .none)) ∧
    (s.canTake p .chainStop →
      exec (.chainStop p .misfit) s = .next ((s.loadClosed p).served p .chainStop .badLength .none)) ∧
    (s.canTake p .callPlace →
      exec (.callPlace p .misfit) s = .next ((s.loadClosed p).served p .callPlace .badLength .none)) ∧
    (s.canTake p .callClear →
      exec (.callClear p .misfit) s = .next ((s.loadClosed p).served p .callClear .badLength .none)) ∧
    (s.canTake p .speak → exec (.speak p .misfit) s = .next ((s.loadClosed p).served p .speak .badLength .none)) ∧
    (s.canTake p .speakCancel →
      exec (.speakCancel p .misfit) s = .next ((s.loadClosed p).served p .speakCancel .badLength .none))) ∧
  (∀ s : State,
    let bad := fun k : Kind => Host.Outcome.next (φ := Machine.Fault) (ρ := Machine.Refusal)
      ((s.loadClosed .c).served .c k .badLength .none)
    (s.canTake .c .planOpen → exec (.planOpen .c .misfit) s = bad .planOpen) ∧
    (s.canTake .c .planClose → exec (.planClose .c .misfit) s = bad .planClose) ∧
    (s.canTake .c .planAdopt → exec (.planAdopt .c .misfit) s = bad .planAdopt) ∧
    (s.canTake .c .planDiscard → exec (.planDiscard .c .misfit) s = bad .planDiscard) ∧
    (s.canTake .c .sampleOpen → exec (.sampleOpen .c .misfit) s = bad .sampleOpen) ∧
    (s.canTake .c .zoneIsolate → exec (.zoneIsolate .c .misfit) s = bad .zoneIsolate) ∧
    (s.canTake .c .zoneRestore → exec (.zoneRestore .c .misfit) s = bad .zoneRestore) ∧
    (s.canTake .c .zoneSilence → exec (.zoneSilence .c .misfit) s = bad .zoneSilence) ∧
    (s.canTake .c .zoneReset → exec (.zoneReset .c .misfit) s = bad .zoneReset) ∧
    (s.canTake .c .shutterLower → exec (.shutterLower .c .misfit) s = bad .shutterLower) ∧
    (s.canTake .c .shutterRaise → exec (.shutterRaise .c .misfit) s = bad .shutterRaise) ∧
    (s.canTake .c .shutterHalt → exec (.shutterHalt .c .misfit) s = bad .shutterHalt) ∧
    (s.canTake .c .chainStart → exec (.chainStart .c .misfit) s = bad .chainStart) ∧
    (s.canTake .c .chainInspect → exec (.chainInspectOn .c .misfit) s = bad .chainInspect ∧
      exec (.chainInspectOff .c .misfit) s = bad .chainInspect) ∧
    (s.canTake .c .chainStep → exec (.chainStep .c .misfit) s = bad .chainStep) ∧
    (s.canTake .c .callMask → exec (.callMask .c .misfit) s = bad .callMask ∧
      exec (.circuitRead .c .misfit) s = .next (s.served .c .callMask .badLength .none)) ∧
    (s.canTake .c .closingBegin → exec (.closingBegin .c .misfit) s = bad .closingBegin) ∧
    (s.canTake .c .closingPostpone → exec (.closingPostpone .c .misfit) s = bad .closingPostpone) ∧
    (s.canTake .c .closingAbort → exec (.closingAbort .c .misfit) s = bad .closingAbort) ∧
    (s.canTake .c .closingResume → exec (.closingResume .c .misfit) s = bad .closingResume) ∧
    (s.canTake .c .unitRestart → exec (.unitRestart .c .misfit) s = bad .unitRestart) ∧
    (s.canTake .c .planEntry → exec (.planEntry .c .misfit) s =
      match s.live.store.cursor with
      | .table _ _ => .next (s.served .c .planEntry .badLength .none)
      | _ => bad .planEntry) ∧
    (s.canTake .c .sampleData → exec (.sampleData .c .misfit) s =
      match s.live.store.cursor with
      | .sample _ _ _ _ => .next (s.served .c .sampleData .badLength .none)
      | _ => bad .sampleData))

/-- R186: a frame on one port does not change the receiver, the reply pending or the reply of the other; the commands of
the byte stream leave the other port wholly as it was. -/
def Obligations.PortsAreIndependent : Prop :=
  ∀ (i : Instr) (s t : State) (p q : Port), portOf i = some p → q ≠ p → exec i s = .next t →
    (t.live.port q).wire = (s.live.port q).wire ∧
      (requestOf i = none → t.live.port q = s.live.port q)

/-! ## Right after reset -/

/-- What State.reset holds, and that every invariant below holds there; that the cold start met an empty loop and no valid
non-volatile memory is the MODEL's choice, notes/assumptions/6.md. -/
def Obligations.ResetStateMeetsInvariants : Prop :=
  (State.reset.pending = [] ∧ State.reset.power = .on ∧ State.reset.samples = [] ∧
   State.reset.live.seconds = 0 ∧ State.reset.live.startCause = .cold ∧
   State.reset.live.chain.state = .parked ∧ State.reset.live.chain.drive = .brake ∧
   State.reset.live.monitor.count = 0 ∧ State.reset.live.monitor.position = .unknown ∧
   State.reset.live.monitor.speed = 0 ∧ State.reset.live.monitor.settleTimer = some 0 ∧
   State.reset.live.store.active = emptyPlan ∧ State.reset.live.store.pending = emptyPlan ∧
   State.reset.live.store.fullClear = List.range 16 ∧ State.reset.live.store.cursor = .closed ∧
   State.reset.live.calls = [] ∧ State.reset.live.speech.queue = [] ∧ State.reset.live.speech.nextTag = 1 ∧
   State.reset.live.speech.evac.state = .inactive ∧ State.reset.live.closing.state = .idle ∧
   (∀ p, (State.reset.live.port p).receiver = .hunting ∧ (State.reset.live.port p).replyPending = false ∧
     (State.reset.live.port p).notices.head? = some ⟨.started .cold false, 0, false⟩)) ∧
  (Interlock State.reset.live ∧ ChainItems State.reset.live ∧ AlarmStopsProgramme State.reset.live ∧
   PortQueue State.reset.live.portC ∧ PortQueue State.reset.live.portF ∧ CallOrder State.reset.live.calls ∧
   PushLevels State.reset ∧ SpeakQueue State.reset.live ∧
   GearDriven State.reset.live ∧ SoundersFollow State.reset.live ∧ IndicatorsFollow State.reset.live ∧
   Channels State.reset.live ∧ CountInLoop State.reset ∧ SpeedFollowsRing State.reset.live.monitor ∧
   Memory.wf State.reset.samples = true)

/-! ## Invariants that every step keeps -/

/-- R51: a chain that moves, or sounds its start warning, has every sill shutter in OPEN. -/
def Obligations.InterlockKept : Prop :=
  ∀ s t : State, Interlock s.live → step s = .next t → Interlock t.live

/-- R51, R65: an item the item table of section 4.1 does not give as present in a chain state is absent in it, the stall
timer among them. -/
def Obligations.ChainItemsKept : Prop :=
  ∀ s t : State, Interlock s.live → ChainItems s.live → step s = .next t → ChainItems t.live

/-- R79, R171: while any zone is in ALARM the Closing Sequencer is not RUNNING. -/
def Obligations.AlarmStopsProgrammeKept : Prop :=
  ∀ s t : State, AlarmStopsProgramme s.live → step s = .next t → AlarmStopsProgramme t.live

/-- R190: at most 32 notices are queued, and the attention line shows whether any is. -/
def Obligations.PortQueueKept : Prop :=
  ∀ s t : State, PortQueue s.live.portC → PortQueue s.live.portF → step s = .next t →
    PortQueue t.live.portC ∧ PortQueue t.live.portF

/-- R121, R131: at most 32 calls, highest level first, no two with one key; a fire call is of level 7 on its key's circuit,
so there is one at most for each circuit; and, with every push of the plans at level 6 or below, a call of level 7 is a fire
call. -/
def Obligations.CallOrderKept : Prop :=
  ∀ s t : State, CallOrder s.live.calls → PushLevels s → step s = .next t → CallOrder t.live.calls ∧ PushLevels t

/-- R156, R157, R161: at most 8 requests wait to speak, CLOSING before GENERAL, none of EVACUATE, each with a tag of its own
that no player's request holds. -/
def Obligations.SpeakQueueKept : Prop :=
  ∀ s t : State, SpeakQueue s.live → step s = .next t → SpeakQueue t.live

/-- R96: a numbered shutter's RELEASE, BRAKE, WIND and WARN are what its state gives. -/
def Obligations.GearOutputsFollowState : Prop :=
  ∀ s t : State, GearDriven s.live → step s = .next t → GearDriven t.live

/-- R139: a numbered circuit's sounder is asserted exactly in ON; R128: a numbered push's indicator is on exactly while
its call stands in the list. -/
def Obligations.SoundersAndIndicatorsFollow : Prop :=
  (∀ s t : State, SoundersFollow s.live → step s = .next t → SoundersFollow t.live) ∧
  (∀ s t : State, IndicatorsFollow s.live → step s = .next t → IndicatorsFollow t.live)

/-- R161, R165: a player holds a channel only of its own request; a channel is routed only to a player that holds it and
plays; its selects show its routing. -/
def Obligations.ChannelsKept : Prop :=
  ∀ s t : State, Channels s.live → step s = .next t → Channels t.live

/-- R34: the chain count lies in 0 to L − 1. -/
def Obligations.CountStaysInLoop : Prop :=
  ∀ s t : State, CountInLoop s → step s = .next t → CountInLoop t

/-- R41: the rolling speed is floor(10,000·n/Σ) of the ring at every moment. -/
def Obligations.RollingSpeedFollowsRing : Prop :=
  ∀ s t : State, SpeedFollowsRing s.live.monitor → step s = .next t → SpeedFollowsRing t.live.monitor

/-- Sample memory keeps its one canonical form at every step; and (section 9.1) a byte of it that is written is the byte
then read, every other byte standing. -/
def Obligations.SampleMemoryKeepsForm : Prop :=
  (∀ s t : State, Memory.wf s.samples = true → step s = .next t → Memory.wf t.samples = true) ∧
  ∀ (m : List Host.Cell) (a b : Nat) (x : Byte), Memory.wf m = true →
    readSample (writeSample m a x) b = if b = a then x else readSample m b

/-! ## Whole-machine rules -/

/-- R15, R31: only PLAN_ADOPT and COLD_START change the active plan and its set A; only PLAN_ADOPT writes the
non-volatile copy, and only it and STORE_WRITE_DONE its validity. -/
def Obligations.PlanChangesOnlyByAdoption : Prop :=
  ∀ (i : Instr) (s t : State), exec i s = .next t → (∀ p b, i ≠ .planAdopt p b) →
    ((∀ x, i ≠ .coldStart x) →
      t.live.store.active = s.live.store.active ∧ t.live.store.fullClear = s.live.store.fullClear) ∧
    t.nv.plan = s.nv.plan ∧ t.nv.fullClear = s.nv.fullClear ∧
    ((∀ m, i ≠ .storeWriteDone m) → t.nv.valid = s.nv.valid)

/-- R2, R22, R192: the seconds counter moves only at SECONDS_TICK and COLD_START, sample memory only at SCAN and
SAMPLE_WRITE_DONE, and the kinds and numbering of the module list only at COLD_START. That SCAN writes the bytes of a write
in flight is the MODEL's choice, notes/assumptions/14.md. -/
def Obligations.WhatOnlyItsOwnCommandChanges : Prop :=
  ∀ (i : Instr) (s t : State), exec i s = .next t →
    (i ≠ .secondsTick → (∀ x, i ≠ .coldStart x) → t.live.seconds = s.live.seconds) ∧
    ((∀ x, i ≠ .scan x) → i ≠ .sampleWriteDone → t.samples = s.samples) ∧
    ((∀ x, i ≠ .coldStart x) →
      t.live.loop.modules.map (fun m => (m.kind, m.first)) = s.live.loop.modules.map fun m => (m.kind, m.first))

/-- R79: a zone leaves ALARM only by ZONE RESET or by a cold start; R14, R51: a drive at BRAKE in a state that calls for
BRAKE leaves it only at the end of a start warning or on a CHAIN STEP. -/
def Obligations.AlarmAndBrakeHold : Prop :=
  (∀ (i : Instr) (s t : State) (z : Nat), exec i s = .next t → s.live.inAlarm z = true →
    (∀ p b, i ≠ .zoneReset p b) → (∀ x, i ≠ .coldStart x) → t.live.inAlarm z = true) ∧
  (∀ (i : Instr) (s t : State), exec i s = .next t → s.live.chain.drive = .brake → s.live.chain.state.driven = false →
    t.live.chain.drive ≠ .brake → i = .startWarningEnd ∨ ∃ p b, i = .chainStep p b)

/-! ## The laws of the data -/

/-- R4, R13: the debounced state of an input of any kind (a detector or push line, a limit, an edge, READY, a chain pin)
changes exactly when its figure of consecutive samples have agreed on another state; one sample of the state it holds
starts the count again. -/
def Obligations.DebounceRule : Prop :=
  ∀ (α : Type) [DecidableEq α] (n k : Nat) (d : Debounced α) (x : α), 1 ≤ n → x ≠ d.value → (d.run = 0 ∨ d.candidate ≠ x) →
    ((List.replicate k x).foldl (Debounced.sample n) d).value = (if k < n then d.value else x) ∧
    (d.sample n d.value).value = d.value ∧ (d.sample n d.value).run = 0

/-- R187: a frame of 1 to 200 body bytes, sent byte by byte to a hunting receiver, stands there whole (that it stands
until its request's row is taken is the MODEL's choice, notes/assumptions/9.md); section 11.6: a notice's detail is of
at most four bytes and its record of twelve; R37, R189: an index error is sent as a signed number of two bytes, and a
list as a count byte and its elements. The widths are those of notes/assumptions/11.md. -/
def Obligations.FramesAndNoticesLaidOut : Prop :=
  (∀ body : List Byte, 1 ≤ body.length → body.length ≤ 200 →
    (frameBytes body).foldl receiveByte .hunting = .receiving (frameTail body) ∧ frameStatus (frameTail body) = .whole) ∧
  (∀ n : Notice, (n.note.detail n.stamp).length ≤ 4 ∧ (noticeBytes n).length = 12) ∧
  (∀ (e : Int) (stamp : Nat), -32768 ≤ e → e < 32768 → ∃ a b : Byte, (Note.positionValid e).detail stamp = [a, b] ∧
    (Note.resync e).detail stamp = [a, b] ∧ (Note.positionSuspect e).detail stamp = [a, b] ∧ (a ++ b : BitVec 16).toInt = e) ∧
  (∀ l : List Nat, l.length ≤ 255 → (∀ x ∈ l, x ≤ 255) → (byteList l).map BitVec.toNat = l.length :: l)

/-- R190: a notice is stamped with the seconds counter and offered to both queues; one of fewer than 32 takes it last,
one of 32 drops it and sets the port's lost flag; the attention line goes on showing whether the queue holds any; nothing
else changes. -/
def Obligations.PostOffersToBothQueues : Prop :=
  ∀ (s : Live) (n : Note),
    (∀ p, (s.post n).port p =
      if (s.port p).notices.length < 32 then
        { s.port p with notices := (s.port p).notices ++ [⟨n, s.seconds, false⟩], attention := true }
      else { s.port p with lost := true }) ∧
    (∀ p, PortQueue (s.port p) → PortQueue ((s.post n).port p)) ∧
    onlyParts [.portC, .portF] s (s.post n)

/-- R27, R43: a chain count has its residue in the full-clear set exactly when every present sill is clear, so that every
sill is clear at the stop target of R57; R57: the stop target lies the least Δ ≥ D ahead whose residue is in A,
D = max(1, ceil(v·t_dec/2000)), and fewer than D + P links ahead. -/
def Obligations.FullClearSetAndStopTarget : Prop :=
  ((∀ (p : Plan) (c : Nat), p.geometryOk = true →
     (c % p.pitch ∈ p.residues ↔ ∀ i, (p.sill i).present = true → p.sillClear (p.sill i) c = true)) ∧
   (∀ (p : Plan) (c v : Nat), p.geometryOk = true → p.residues ≠ [] →
     ∀ i, (p.sill i).present = true → p.sillClear (p.sill i) (Machine.placeStop p p.residues c v).target = true)) ∧
  (∀ (p : Plan) (a : List Nat) (c v : Nat), (∃ r ∈ a, r < p.pitch) →
     let r := Machine.placeStop p a c v
     r.decel = max 1 ((v * p.geometry.decelTime + 1999) / 2000) ∧ r.decel ≤ r.linksToGo ∧
     r.linksToGo < r.decel + p.pitch ∧ (c + r.linksToGo) % p.pitch ∈ a ∧
     (∀ d, r.decel ≤ d → d < r.linksToGo → (c + d) % p.pitch ∉ a) ∧
     r.target = (c + r.linksToGo) % p.geometry.loopLength ∧ r.overrun = 0)

/-- R87: the fire demand is the union over the zones in ALARM of their shutters and landings, and over those not silenced
of their circuits and channels. -/
def Obligations.DemandIsUnionOverZones : Prop :=
  ∀ (s : Live),
    (∀ k, k ∈ s.demand.shutters ↔ k < 32 ∧ (s.plan.shutter k).present = true ∧ ∃ z, s.inAlarm z = true ∧
      ((s.plan.shutter k).home = z ∨ (s.plan.shutter k).home ∈ (s.plan.zone z).neighbours)) ∧
    (∀ l, l ∈ s.demand.landings ↔ l < 8 ∧ ∃ z, s.inAlarm z = true ∧ l ∈ (s.plan.zone z).landings) ∧
    (∀ c, c ∈ s.demand.circuits ↔
      c < 16 ∧ ∃ z, s.inAlarm z = true ∧ (s.zone z).silenced = false ∧ c ∈ (s.plan.zone z).circuits) ∧
    (∀ c, c ∈ s.demand.channels ↔
      c < 8 ∧ ∃ z, s.inAlarm z = true ∧ (s.zone z).silenced = false ∧ c ∈ (s.plan.zone z).channels)

/-! ## What each command does: the unit, the ports and the plan store -/

/-- Every status read is answered from the state as it stands and changes nothing but its port's exchange. -/
def Obligations.StatusReadsAnswer : Prop :=
  ∀ (p : Port) (s : State),
    (s.canTake p .unitRead →
      exec (.unitRead p (.fits ())) s = .next (s.served p .unitRead .done (.unit (unitReadout s.live)))) ∧
    (s.canTake p .zoneRead →
      (∀ z, z < 16 →
        exec (.zoneRead p (.fits (.zone z))) s = .next (s.served p .zoneRead .done (.zone (zoneReadout s.live z)))) ∧
      (∀ z, 16 ≤ z → exec (.zoneRead p (.fits (.zone z))) s = .next (s.served p .zoneRead .noSuch .none)) ∧
      exec (.zoneRead p (.fits .detectors)) s =
        .next (s.served p .zoneRead .done (.detectors ((List.range 48).map (detectorReadout s.live)))) ∧
      exec (.zoneRead p (.fits .demand)) s = .next (s.served p .zoneRead .done (.demand s.live.demand)) ∧
      exec (.zoneRead p (.fits .unnamed)) s = .next (s.served p .zoneRead .noSuch .none)) ∧
    (s.canTake p .shutterRead →
      (∀ k, k < 32 → exec (.shutterRead p (.fits (.one k))) s =
        .next (s.served p .shutterRead .done (.shutter (shutterReadout s.live k)))) ∧
      (∀ k, 32 ≤ k → exec (.shutterRead p (.fits (.one k))) s = .next (s.served p .shutterRead .noSuch .none)) ∧
      exec (.shutterRead p (.fits .all)) s =
        .next (s.served p .shutterRead .done (.shutters ((List.range 32).map (shutterSummary s.live))))) ∧
    (s.canTake p .chainRead →
      exec (.chainRead p (.fits ())) s = .next (s.served p .chainRead .done (.chain (chainReadout s.live)))) ∧
    (s.canTake p .callList →
      (∀ n, n < 32 → exec (.callList p (.fits n)) s = .next (s.served p .callList .done
        (.calls s.live.calls.length ((((List.range s.live.calls.length).zip s.live.calls).drop n).take 8)))) ∧
      (∀ n, 32 ≤ n → exec (.callList p (.fits n)) s = .next (s.served p .callList .noSuch .none))) ∧
    (s.canTake p .speakList →
      exec (.speakList p (.fits ())) s = .next (s.served p .speakList .done (.speak (speakReadout s.live)))) ∧
    (s.canTake p .closingRead →
      exec (.closingRead p (.fits ())) s = .next (s.served p .closingRead .done (.closing (closingReadout s.live)))) ∧
    (s.canTake p .wearRead →
      exec (.wearRead p (.fits ())) s = .next (s.served p .wearRead .done (.wear s.live.monitor.wear))) ∧
    (s.canTake p .planRead →
      (∀ t i, i < tableSize t → exec (.planRead p (.fits ⟨some .active, some t, i⟩)) s =
        .next (s.served p .planRead .done (.plan (s.live.store.active.readEntry t i)
          (if t = .geometry then some s.live.store.fullClear.length else none)))) ∧
      (∀ t i, i < tableSize t → exec (.planRead p (.fits ⟨some .pending, some t, i⟩)) s =
        .next (s.served p .planRead .done (.plan (s.live.store.pending.readEntry t i) none))) ∧
      (∀ c t i, tableSize t ≤ i →
        exec (.planRead p (.fits ⟨c, some t, i⟩)) s = .next (s.served p .planRead .noSuch .none)) ∧
      (∀ t i, exec (.planRead p (.fits ⟨none, t, i⟩)) s = .next (s.served p .planRead .noSuch .none)) ∧
      (∀ c i, exec (.planRead p (.fits ⟨c, none, i⟩)) s = .next (s.served p .planRead .noSuch .none))) ∧
    (s.canTake .c .callMask → ∀ c,
      (c < 16 → (s.live.plan.circuit c).present = true →
        exec (.circuitRead .c (.fits c)) s = .next (s.served .c .callMask .done (.circuit (s.live.circuit c)))) ∧
      (16 ≤ c ∨ (s.live.plan.circuit c).present = false →
        exec (.circuitRead .c (.fits c)) s = .next (s.served .c .callMask .noSuch .none)))

/-- R48: WEAR READ with the clear option returns every count and sets it to 0; port F is refused with the counts untouched;
no load is broken. R192, R47: the seconds counter rises by one until FFFFFFFEh, a whole multiple of 60 calls for a write of
the wear record, and the write goes to the place not written last. That sequence numbers never wrap and that place B is the
first written, and the marker that a write is due, are the MODEL's choices, notes/assumptions/13.md and 34.md. -/
def Obligations.WearReadAndRecord : Prop :=
  (∀ s : State,
     (s.canTake .c .wearRead → ∃ t, exec (.wearReadClear .c (.fits ())) s = .next t ∧
       t.replied .c .wearRead .done (.wear s.live.monitor.wear) ∧
       t.live.monitor = { s.live.monitor with wear := .zero } ∧ changesOnly [.monitor, .portC] s t) ∧
     (s.canTake .f .wearRead →
       exec (.wearReadClear .f (.fits ())) s = .next (s.served .f .wearRead .notPermitted .none))) ∧
  (∀ s : State, s.power = .on →
     (s.live.seconds < 4294967294 → exec .secondsTick s = .next { s with live := { s.live with
       seconds := s.live.seconds + 1
       wearDue := s.live.wearDue || (s.live.seconds + 1) % 60 == 0 } }) ∧
     (4294967294 ≤ s.live.seconds → exec .secondsTick s = .next s) ∧
     (s.live.wearDue = true → ∃ t r, exec .wearWrite s = .next t ∧ t.live = { s.live with wearDue := false } ∧
       r.counts = s.live.monitor.wear ∧
       (∀ o, s.nv.wearA = some o ∨ s.nv.wearB = some o → o.sequence < r.sequence) ∧
       t.nv = (if s.nv.lastIsB then { s.nv with wearA := some r, lastIsB := false }
         else { s.nv with wearB := some r, lastIsB := true }) ∧
       t.samples = s.samples ∧ t.pending = s.pending))

/-- R191: NOTICE FETCH returns and removes the oldest notice of its port's queue, with the port's lost flag, which is
cleared; an empty queue is answered EMPTY. -/
def Obligations.NoticeFetchTakesOldest : Prop :=
  ∀ (p : Port) (s : State), s.canTake p .noticeFetch →
    ((s.live.port p).notices = [] →
      exec (.noticeFetch p (.fits ())) s = .next (s.served p .noticeFetch .empty .none)) ∧
    (∀ n rest, (s.live.port p).notices = n :: rest →
      exec (.noticeFetch p (.fits ())) s = .next (s.withPortRecord p
        { receiver := .hunting, gap := 0, replyPending := true,
          reply := some ⟨0x8A, .done, .notice { n with lost := (s.live.port p).lost }⟩,
          notices := rest, lost := false, attention := !rest.isEmpty }))

/-- R187: what a byte, the gap, a discard and the end of a reply do to a port. That a discard and a gap are commands of
their own is the MODEL's choice, notes/assumptions/9.md. -/
def Obligations.ByteStreamMovesReceiver : Prop :=
  ∀ (p : Port) (s : State), s.power = .on →
    (∀ b, s.live.listens p = true →
      ((s.live.port p).receiver = .hunting → exec (.frameByte p b) s = .next (s.withPortRecord p
        { s.live.port p with receiver := if b = 0xA5 then .receiving [] else .hunting, gap := 0 })) ∧
      (∀ bytes, (s.live.port p).receiver = .receiving bytes → frameStatus bytes = .unfinished →
        exec (.frameByte p b) s = .next (s.withPortRecord p { s.live.port p with
          receiver :=
            if (s.live.port p).gap ≤ 30 then .receiving (bytes ++ [b])
            else if b = 0xA5 then .receiving [] else .hunting
          gap := 0 }))) ∧
    (∀ b, (s.live.port p).replyPending = true → exec (.frameByte p b) s = .next s) ∧
    (∀ bytes, (s.live.port p).receiver = .receiving bytes → frameStatus bytes = .unfinished →
      30 < (s.live.port p).gap → exec (.frameGapTimeout p) s = .next (s.withPortRecord p
        { s.live.port p with receiver := .hunting, gap := 0 })) ∧
    (∀ bytes, (s.live.port p).receiver = .receiving bytes → frameStatus bytes = .badLength ∨ frameStatus bytes = .badCrc →
      exec (.frameDiscard p) s = .next (s.withPortRecord p
        { s.live.port p with receiver := .hunting, gap := 0 })) ∧
    ((s.live.port p).replyPending = true → (s.live.port p).reply.isSome = true →
      exec (.replySent p) s = .next (s.withPortRecord p
        { s.live.port p with replyPending := false, reply := none }))

/-- R193: UNIT RESTART is answered DONE, and the warm restart waits for the reply. R33, R76, R95, R138, R151, R170: what the
warm restart makes of the chain, the store, the programme, the indicators, the masks, the fire calls and the evacuation entry
of the standing demand, which is called for anew, and the channels the players held. The arrival second of the entry's request
is the MODEL's choice, notes/assumptions/55.md, and that it begins its first item in the same step DEDUCED from R164. -/
def Obligations.UnitRestartThenWarmRestart : Prop :=
  ∀ s : State,
    (s.canTake .c .unitRestart → exec (.unitRestart .c (.fits ())) s =
      .next (({ s with live := { s.live.closeCursor with restart := true } } : State).served
        .c .unitRestart .done .none)) ∧
    (s.power = .on → s.live.restart = true → s.live.portC.replyPending = false → s.live.portF.replyPending = false →
      ∃ t, exec .warmRestart s = .next t ∧ sameOutside s t ∧
        t.live.restart = false ∧ t.live.startCause = .warm ∧ t.live.seconds = s.live.seconds ∧
        t.live.chain.drive = .brake ∧
        t.live.chain.state = (if s.live.chain.state.restarts then .held .restart else s.live.chain.state) ∧
        t.live.chain.stop = none ∧ t.live.chain.deferred = none ∧ t.live.chain.sweep = none ∧
        t.live.chain.carriedLoops = none ∧ t.live.chain.step = none ∧ t.live.zones = s.live.zones ∧
        t.live.closing.state = .idle ∧ t.live.closing.closeInstant = none ∧
        t.live.store = { s.live.store with pending := s.live.store.active, cursor := .closed } ∧
        (∀ r ∈ t.live.calls, ∃ c ∈ s.live.demand.circuits, r.key = .fire c) ∧ t.live.speech.queue = [] ∧
        (∀ p, p < 64 → s.live.loop.numbered .call p = true → t.live.image.indicators.read p false = false) ∧
        (∀ c, c < 16 → let called := s.live.demand.circuits.contains c
          t.live.circuit c = ⟨if called then some ⟨.fire c, .fire, .fire, .on, 0⟩ else none,
            if (s.live.plan.circuit c).present then (s.live.plan.circuit c).resetMask else 0, none⟩ ∧
          t.live.call (.fire c) = if called then
            some ⟨.fire c, c, 7, .fire, false, .ringing, 0, 0, none, none, s.live.seconds⟩ else none) ∧
        (let d := s.live.demand
         let freed := fun ch => if (s.live.channel ch).holder = none then s.live.channel ch
           else Channel.mk (s.live.channel ch).on none none none none (some 0)
         let entry := fun k => SpeakRequest.mk 0 k d.channels .evacuate d.context none .fireDemand s.live.seconds
         t.live.demand = d ∧ t.live.speech.evac.channels = d.channels ∧ t.live.speech.evac.context = d.context ∧
         t.live.speech.nextTag = s.live.speech.nextTag ∧
         (∀ ch, ch ∉ d.channels ∨ s.live.plan.geometry.evacScript = none → t.live.channel ch = freed ch) ∧
         (d.channels = [] ∨ s.live.plan.geometry.evacScript = none →
           t.live.speech.evac = ⟨if d.channels = [] then .inactive else .unscripted, d.channels, d.context, none⟩ ∧
           ∀ pl, (t.live.player pl).phase = .idle ∧ (t.live.player pl).request = none) ∧
         (∀ k, d.channels ≠ [] → s.live.plan.geometry.evacScript = some k →
           ((∃ ch ∈ d.channels, s.live.readyInput ch = false) →
             t.live.speech.evac = ⟨.playing, d.channels, d.context, none⟩ ∧ (t.live.player .a).phase = .warming ∧
             (t.live.player .a).request = some (entry k) ∧ (t.live.player .b).phase = .idle ∧
             ∀ ch ∈ d.channels, t.live.channel ch = if s.live.readyInput ch then ⟨true, some .a, some .ready, none, none, none⟩
               else ⟨true, some .a, some .awaiting, some 0, none, none⟩) ∧
           (∀ it, (∀ ch ∈ d.channels, s.live.readyInput ch = true) → (s.live.plan.script k).items[0]? = some it →
             it.timed.isSome = true →
             t.live.speech.evac = ⟨.playing, d.channels, d.context, none⟩ ∧ (t.live.player .a).phase = .playing ∧
             (t.live.player .a).request = some (entry k) ∧ (t.live.player .a).item = some 0 ∧
             (t.live.player .a).itemTimer = some 0 ∧ (t.live.player .b).phase = .idle ∧
             ∀ ch ∈ d.channels, t.live.channel ch = ⟨true, some .a, some .ready, none, some .a, none⟩))) ∧
        (∀ p, (t.live.port p).wire = (.hunting, 0, false, none) ∧
          (t.live.port p).notices.head? = some ⟨.started .warm s.live.store.storeGood, s.live.seconds, false⟩))

/-- R18, R19, R20, R24: the table loads; a frame of several entries is taken in order up to the first refused. That an entry
of another table's form makes the frame indivisible is the MODEL's choice, notes/assumptions/27.md. -/
def Obligations.TableLoads : Prop :=
  ∀ s : State,
    let cursor := fun (c : Cursor) => s.withStore { s.live.store with cursor := c }
    (s.canTake .c .planOpen →
      (∀ t i, i < tableSize t → exec (.planOpen .c (.fits ⟨some t, i⟩)) s =
        .next ((cursor (.table t i)).served .c .planOpen .done .none)) ∧
      (∀ t i, tableSize t ≤ i → exec (.planOpen .c (.fits ⟨some t, i⟩)) s =
        .next ((s.loadClosed .c).served .c .planOpen .badValue .none)) ∧
      (∀ i, exec (.planOpen .c (.fits ⟨none, i⟩)) s =
        .next ((s.loadClosed .c).served .c .planOpen .badValue .none))) ∧
    (s.canTake .c .planClose →
      exec (.planClose .c (.fits ())) s = .next ((s.loadClosed .c).served .c .planClose .done .none)) ∧
    (s.canTake .c .planDiscard →
      exec (.planDiscard .c (.fits ())) s =
        .next ((s.withStore { s.live.store with cursor := .closed, pending := s.live.store.active }).served
          .c .planDiscard .done .none)) ∧
    (s.canTake .c .planEntry →
      (∀ t i, s.live.store.cursor = .table t i →
        let sent := fun (items : List PlanItem) (es : List PlanEntry) (r : Result) =>
          exec (.planEntry .c (.fits (.entries items))) s = .next ((s.withStore { s.live.store with
            pending := ((List.range es.length).zip es).foldl (fun p x => p.setEntry (i + x.1) x.2) s.live.store.pending
            cursor := .table t (i + es.length) }).served .c .planEntry r (.index (i + es.length)))
        exec (.planEntry .c (.fits .indivisible)) s = .next (s.served .c .planEntry .badLength .none) ∧
        (∀ items, items ≠ [] → ofTable t items = false →
          exec (.planEntry .c (.fits (.entries items))) s = .next (s.served .c .planEntry .badLength .none)) ∧
        (∀ items es, items ≠ [] → ofTable t items = true → items.map (itemEntry t) = es.map some →
          i + es.length ≤ tableSize t → sent items es .done) ∧
        (∀ taken es x rest, ofTable t (taken ++ x :: rest) = true → taken.map (itemEntry t) = es.map some →
          (es = [] ∨ i + es.length ≤ tableSize t) →
          (i + es.length < tableSize t → itemEntry t x = none → sent (taken ++ x :: rest) es .badValue) ∧
          (tableSize t ≤ i + es.length → sent (taken ++ x :: rest) es .full))) ∧
      (∀ f, (∀ t i, s.live.store.cursor ≠ .table t i) → f ≠ .entries [] →
        exec (.planEntry .c (.fits f)) s =
          .next ((s.loadClosed .c).served .c .planEntry .noSuch .none)))

/-- R25 to R30: PLAN ADOPT's refusals change nothing but the load cursor; an accepted adoption makes the pending copy
active with its set A and begins the store write, empties the call list, takes the reset masks and derives each zone afresh;
the end of the write is answered with the stored flag. -/
def Obligations.AdoptionAndStoreWrite : Prop :=
  ∀ s : State,
    let a := s.live.store.pending.residues
    let refused := fun r => Host.Outcome.next (φ := Machine.Fault) (ρ := Machine.Refusal)
      ((s.loadClosed .c).served .c .planAdopt r .none)
    (s.canTake .c .planAdopt →
      (∀ f, s.live.store.pending.firstFailure s.live.loop = some f →
        exec (.planAdopt .c (.fits ())) s = refused (.planCheck f.1 f.2)) ∧
      (s.live.store.pending.firstFailure s.live.loop = none → a = [] →
        exec (.planAdopt .c (.fits ())) s = refused .noParkResidue) ∧
      (∀ q, s.live.store.pending.firstFailure s.live.loop = none → a ≠ [] → s.live.disquiet = some q →
        exec (.planAdopt .c (.fits ())) s = refused (.notQuiescent q.1 q.2)) ∧
      (s.live.store.pending.firstFailure s.live.loop = none → a ≠ [] → s.live.disquiet = none →
        s.live.store.storeWriting = false →
        ∃ t, exec (.planAdopt .c (.fits ())) s = .next t ∧
          t.live.store =
            { s.live.store with active := s.live.store.pending, fullClear := a, cursor := .closed, storeWriting := true } ∧
          t.nv.plan = s.live.store.pending ∧ t.nv.fullClear = a ∧ t.nv.valid = false ∧
          (t.live.port .c).wire = (.hunting, 0, true, none) ∧
          (∀ i, t.live.closing.mark i = none) ∧
          (∀ r ∈ t.live.calls, ∃ c, r.key = .fire c) ∧ ((∀ z, t.live.inAlarm z = false) → t.live.calls = []) ∧
          (∀ p, s.live.loop.numbered .call p = true → t.live.image.indicators.read p false = false) ∧
          (∀ c, c < 16 → (t.live.circuit c).pendingMask = none ∧ (t.live.circuit c).mask =
            (if (s.live.store.pending.circuit c).present then (s.live.store.pending.circuit c).resetMask else 0) ∧
            ((∀ z, t.live.inAlarm z = false) → (t.live.circuit c).ring = none)) ∧
          (∀ z, z < 16 →
            let lists := fun x : LineState =>
              (s.live.store.pending.detectorsOf z).any fun d => s.live.detector d == x
            (s.live.zone z).state ≠ .isolated ∨ (s.live.store.pending.zone z).present = false →
            lists .alarm = false → t.live.zone z = ⟨(s.live.store.pending.zone z).present,
              if lists .broken || lists .short then .fault else .normal, false, none, none⟩) ∧
          (∀ z, (s.live.zone z).state = .isolated → (s.live.store.pending.zone z).present = true →
            (t.live.zone z).state = .isolated) ∧
          (let g := s.live.store.active.geometry
           let h := s.live.store.pending.geometry
           if h.loopLength = g.loopLength ∧ h.cars = g.cars ∧ h.upRun = g.upRun then
             t.live.monitor.count = s.live.monitor.count ∧ t.live.monitor.position = s.live.monitor.position
           else t.live.monitor.count = 0 ∧ t.live.monitor.position = .unknown))) ∧
    (∀ m, s.power = .on → s.live.store.storeWriting = true →
      ∃ t, exec (.storeWriteDone m) s = .next t ∧ t.nv = { s.nv with valid := m } ∧
        t.live.store = { s.live.store with storeWriting := false, storeGood := m } ∧
        t.replyOn .c = some ⟨0x93, .done, .stored m⟩ ∧ t.live.offered (.planAdopted m) ∧
        onlyParts [.store, .portC, .portF] s.live t.live ∧ t.samples = s.samples)

/-- R21, R22: the sample loads; at the end of a sample write byte j of the frame stands at the write pointer advanced by
j within the phrase's region, every other byte of sample memory stands, and the reply gives the pointer after the last
byte. The frame is no longer than the region; a longer one overwrites its own earlier bytes. A player whose phrase has no
sample left plays from no region (R152). The reason and subject of BUSY are free values, notes/assumptions/12.md, and the
pointer within a scan period is the MODEL's choice, notes/assumptions/36.md. -/
def Obligations.SampleLoadsAndWrites : Prop :=
  (∀ s : State,
     let cursor := fun (c : Cursor) => s.withStore { s.live.store with cursor := c }
     (s.canTake .c .sampleOpen →
       (∀ ph, ph < 128 → (s.live.plan.phrase ph).length ≠ 0 →
         let e := s.live.plan.phrase ph
         exec (.sampleOpen .c (.fits ph)) s =
           .next ((cursor (.sample ph e.start e.length e.start)).served .c .sampleOpen .done .none)) ∧
       (∀ ph, ph < 128 → (s.live.plan.phrase ph).length = 0 →
         exec (.sampleOpen .c (.fits ph)) s = .next ((s.loadClosed .c).served .c .sampleOpen .noSuch .none)) ∧
       (∀ ph, 128 ≤ ph →
         exec (.sampleOpen .c (.fits ph)) s = .next ((s.loadClosed .c).served .c .sampleOpen .badValue .none))) ∧
     (s.canTake .c .sampleData → ∀ bytes, 1 ≤ bytes.length → bytes.length ≤ 192 →
       (∀ ph start len ptr, s.live.store.cursor = .sample ph start len ptr →
         let playing := ∃ pl a, (s.live.player pl).pointer = some a ∧ (s.live.player pl).remaining ≠ some 0 ∧
           start ≤ a ∧ a < start + len
         (¬playing → ∃ t, exec (.sampleData .c (.fits bytes)) s = .next t ∧
           t.live.store = { s.live.store with sampleWrite := some bytes } ∧
           (t.live.port .c).wire = (.hunting, 0, true, none) ∧ changesOnly [.store, .portC] s t) ∧
         (playing → ∃ t r n, exec (.sampleData .c (.fits bytes)) s = .next t ∧
           t.replied .c .sampleData (.busy r n) .none ∧ t.live.store = s.live.store ∧
           changesOnly [.free, .portC] s t)) ∧
       ((∀ ph start len ptr, s.live.store.cursor ≠ .sample ph start len ptr) →
         exec (.sampleData .c (.fits bytes)) s = .next ((s.loadClosed .c).served .c .sampleData .noSuch .none)))) ∧
  (∀ (s : State) (bytes : List Byte) (ph start len ptr : Nat), s.power = .on → Memory.wf s.samples = true →
     s.live.store.sampleWrite = some bytes → s.live.store.cursor = .sample ph start len ptr →
     start ≤ ptr → ptr < start + len → start + len ≤ 1048576 → bytes.length ≤ len →
     ∃ t, exec .sampleWriteDone s = .next t ∧
       (∀ j, j < bytes.length → readSample t.samples (start + (ptr - start + j) % len) = bytes.getD j 0) ∧
       (∀ x, (∀ j, j < bytes.length → x ≠ start + (ptr - start + j) % len) →
         readSample t.samples x = readSample s.samples x) ∧
       t.replyOn .c = some ⟨0x96, .done, .pointer ((ptr - start + bytes.length) % len)⟩ ∧
       t.live.store.sampleWrite = none ∧ onlyParts [.store, .portC] s.live t.live ∧ t.nv = s.nv)

/-! ## What each command does: zones and shutters -/

/-- R82 to R86: ZONE ISOLATE, ZONE RESTORE, ZONE SILENCE and ZONE RESET, each with its refusals. A silence or a reset moves
no shutter and leaves the chain as it stands; what leaves the demand is withdrawn (R88 to R91, R131, R147): a circuit's fire
call is removed and its ring stopped, and the evacuation entry is handed the new set and releases the channels that leave. -/
def Obligations.ZoneRequestsEffect : Prop :=
  (∀ (s : State) (z : Nat), s.canTake .c .zoneIsolate →
     (z < 16 → (s.live.plan.zone z).present = true →
       ((s.live.zone z).state = .normal ∨ (s.live.zone z).state = .fault →
         ∃ t, exec (.zoneIsolate .c (.fits z)) s = .next t ∧ t.replied .c .zoneIsolate .done .none ∧
           t.live.zone z = { s.live.zone z with state := .isolated } ∧
           (∀ y, y ≠ z → t.live.zone y = s.live.zone y) ∧ t.live.offered (zoneNote z (t.live.zone z)) ∧
           t.live.store = s.live.closeCursor.store ∧ changesOnly [.zones, .store, .portC, .portF] s t) ∧
       ((s.live.zone z).state = .isolated →
         exec (.zoneIsolate .c (.fits z)) s = .next ((s.loadClosed .c).served .c .zoneIsolate .done .none)) ∧
       ((s.live.zone z).state = .alarm →
         exec (.zoneIsolate .c (.fits z)) s =
           .next ((s.loadClosed .c).served .c .zoneIsolate (.busy .state z) .none))) ∧
     (z < 16 → (s.live.plan.zone z).present = false →
       exec (.zoneIsolate .c (.fits z)) s = .next ((s.loadClosed .c).served .c .zoneIsolate .noSuch .none)) ∧
     (16 ≤ z → exec (.zoneIsolate .c (.fits z)) s =
       .next ((s.loadClosed .c).served .c .zoneIsolate .badValue .none))) ∧
  (∀ (s : State) (z : Nat),
     let refused := fun (i : Instr) (k : Kind) (r : Result) => exec i s = .next ((s.loadClosed .c).served .c k r .none)
     let withdrawn := fun t : State =>
       let was := s.live.demand
       let now := t.live.demand
       t.live.gear.fireSet = now.shutters ∧
       (∀ key, (∀ c, key = .fire c → c ∉ was.circuits ∨ c ∈ now.circuits) →
         (t.live.call key).isSome = (s.live.call key).isSome) ∧
       (∀ c ∈ was.circuits, c ∉ now.circuits → t.live.call (.fire c) = none ∧
         (CallOrder s.live.calls → (s.live.call (.fire c)).isSome = true →
           (∀ g, (t.live.circuit c).ring = some g → g.key ≠ .fire c) ∧
           ∃ place, t.live.offered (.callRemoved (.fire c) none c 7 place .fireDemand))) ∧
       (now.channels = was.channels → now.context = was.context → t.live.speech = s.live.speech) ∧
       (now.channels ≠ was.channels ∨ now.context ≠ was.context →
         t.live.speech.evac.channels = now.channels ∧ t.live.speech.evac.context = now.context ∧
         (∃ u, onlyParts [.zones, .gear, .calls, .circuits, .image, .loop, .store, .portC, .portF] s.live u ∧
           u.plan = s.live.plan ∧ u.loop.ready = s.live.loop.ready ∧
           t.live.speech = (u.evacDemand now.channels now.context).speech) ∧
         (s.live.speech.queue = [] →
           (now.channels = [] → s.live.speech.evac.state ≠ .playing →
             t.live.speech.evac = ⟨.inactive, [], now.context, none⟩) ∧
           (∀ pl r, s.live.speech.evac.state = .playing → s.live.evacPlayer = some pl →
             (s.live.player pl).request = some r →
             let released := fun ch : Nat => (s.live.channel ch).holder = some pl → ch ∉ now.channels →
               t.live.channel ch = ⟨(s.live.channel ch).on, none, none, none, none, some 0⟩
             (now.channels = [] → t.live.speech.evac.state = .inactive ∧ (t.live.player pl).phase = .idle ∧
               t.live.offered (.speakAbandoned r.tag r.cls r.origin .demand (s.live.player pl).item) ∧
               ∀ ch, released ch) ∧
             ((s.live.player pl).phase = .playing → (∃ ch ∈ now.channels, (s.live.channel ch).holder = some pl) →
               t.live.speech.evac.state = .playing ∧ (t.live.player pl).phase = .playing ∧ ∀ ch, released ch))))
     (16 ≤ z →
       (s.canTake .c .zoneRestore → refused (.zoneRestore .c (.fits z)) .zoneRestore .badValue) ∧
       (s.canTake .c .zoneSilence → refused (.zoneSilence .c (.fits z)) .zoneSilence .badValue) ∧
       (s.canTake .c .zoneReset → refused (.zoneReset .c (.fits z)) .zoneReset .badValue)) ∧
     (z < 16 → (s.live.plan.zone z).present = false →
       (s.canTake .c .zoneRestore → refused (.zoneRestore .c (.fits z)) .zoneRestore .noSuch) ∧
       (s.canTake .c .zoneSilence → refused (.zoneSilence .c (.fits z)) .zoneSilence .noSuch) ∧
       (s.canTake .c .zoneReset → refused (.zoneReset .c (.fits z)) .zoneReset .noSuch)) ∧
     (z < 16 → (s.live.plan.zone z).present = true → (s.live.zone z).state ≠ .isolated → s.canTake .c .zoneRestore →
       refused (.zoneRestore .c (.fits z)) .zoneRestore (.busy .state z)) ∧
     (z < 16 → (s.live.plan.zone z).present = true → (s.live.zone z).state ≠ .alarm →
       (s.canTake .c .zoneSilence → refused (.zoneSilence .c (.fits z)) .zoneSilence (.busy .state z)) ∧
       (s.canTake .c .zoneReset → refused (.zoneReset .c (.fits z)) .zoneReset (.busy .state z))) ∧
     (z < 16 → (s.live.plan.zone z).present = true →
     (s.canTake .c .zoneRestore → (s.live.zone z).state = .isolated →
       (s.live.alarmedDetector z = none → ∃ t, exec (.zoneRestore .c (.fits z)) s = .next t ∧
         t.replied .c .zoneRestore .done .none ∧
         t.live.zone z = { s.live.zone z with state := s.live.lineCondition z } ∧
         (∀ y, y ≠ z → t.live.zone y = s.live.zone y) ∧ t.live.offered (zoneNote z (t.live.zone z)) ∧
         changesOnly [.zones, .store, .portC, .portF] s t) ∧
       (∀ d, s.live.alarmedDetector z = some d → ∃ t, exec (.zoneRestore .c (.fits z)) s = .next t ∧
         t.replied .c .zoneRestore .done .none ∧ t.live.offered (.zoneAlarm z d) ∧
         t.live.zone z = { s.live.zone z with
           state := .alarm, silenced := false, firstAlarm := some d, alarmSecond := some s.live.seconds } ∧
         (∀ y, y ≠ z → t.live.zone y = s.live.zone y) ∧ t.live.closing.state ≠ .running)) ∧
     (s.canTake .c .zoneSilence → (s.live.zone z).state = .alarm →
       ((s.live.zone z).silenced = false → ∃ t, exec (.zoneSilence .c (.fits z)) s = .next t ∧
         t.replied .c .zoneSilence .done .none ∧ t.live.zone z = { s.live.zone z with silenced := true } ∧
         (∀ y, y ≠ z → t.live.zone y = s.live.zone y) ∧ t.live.gear.records = s.live.gear.records ∧
         t.live.demand.shutters = s.live.demand.shutters ∧ t.live.demand.landings = s.live.demand.landings ∧ withdrawn t ∧
         t.live.offered (zoneNote z (t.live.zone z)) ∧
         changesOnly [.zones, .gear, .calls, .circuits, .image, .loop, .speech, .store, .portC, .portF] s t) ∧
       ((s.live.zone z).silenced = true →
         exec (.zoneSilence .c (.fits z)) s = .next ((s.loadClosed .c).served .c .zoneSilence .done .none))) ∧
     (s.canTake .c .zoneReset → (s.live.zone z).state = .alarm →
       (s.live.alarmedDetector z = none → ∃ t, exec (.zoneReset .c (.fits z)) s = .next t ∧
         t.replied .c .zoneReset .done .none ∧
         t.live.zone z = ⟨(s.live.zone z).present, s.live.lineCondition z, false, none, none⟩ ∧
         (∀ y, y ≠ z → t.live.zone y = s.live.zone y) ∧ t.live.gear.records = s.live.gear.records ∧ withdrawn t ∧
         t.live.offered (zoneNote z (t.live.zone z)) ∧
         changesOnly [.zones, .gear, .calls, .circuits, .image, .loop, .speech, .store, .portC, .portF] s t) ∧
       (∀ d, s.live.alarmedDetector z = some d → exec (.zoneReset .c (.fits z)) s =
         .next ((s.loadClosed .c).served .c .zoneReset (.busy .detector d) .none)))))

/-- R77 to R81, R88 to R92, R123, R131: what a detector line's change does, as a scan hands it on: nothing where no zone lists the
detector or its zone is isolated; a zone in NORMAL or FAULT takes its line condition, or latches on an alarm with its
contribution issued and the demand handed on; a zone in ALARM sounds again where it was silenced. Every circuit that enters
the demand has its fire call, which against a full list displaces the last record; the place that its CALL DROPPED carries is
the MODEL's choice, notes/assumptions/25.md. -/
def Obligations.DetectorChangeActs : Prop :=
  ∀ (s : Live) (d : Nat),
    let t := s.detectorChange d
    let handed := fun z : Nat =>
      (∀ y, y ≠ z → t.zone y = s.zone y) ∧ t.gear.fireSet = t.demand.shutters ∧
      (∀ k ∈ s.plan.contribution z,
        (t.shutter k).cause = .fire ∨ (t.shutter k).state = .closed ∨ s.limitsJammed k = true) ∧
      (s.plan.callsFireStop z = true → s.chain.state = .parked → t.chain.state = .held .fire) ∧
      (CallOrder s.calls →
        (∀ c ∈ t.demand.circuits, c ∉ s.demand.circuits ∨ (s.call (.fire c)).isSome = true →
          ∃ r, t.call (.fire c) = some r ∧ r.circuit = c ∧ r.level = 7) ∧
        (∀ c last, s.calls.length = 32 → (∀ r ∈ s.calls, isProgramme r = false) → s.call (.fire c) = none →
          (t.demand.circuits.filter fun x => !s.demand.circuits.contains x) = [c] → s.calls.getLast? = some last →
          t.call last.key = none ∧
          t.offered (.callDropped last.key last.number last.circuit last.level (some 31) .displaced))) ∧
      (t.demand.channels ≠ s.demand.channels ∨ t.demand.context ≠ s.demand.context →
        t.speech.evac.channels = t.demand.channels ∧ t.speech.evac.context = t.demand.context) ∧
      onlyParts [.zones, .gear, .image, .loop, .monitor, .chain, .calls, .circuits, .speech, .closing, .portC, .portF] s t
    (s.plan.zoneOf d = none → t = s) ∧
    (∀ z, s.plan.zoneOf d = some z →
      ((s.zone z).state = .isolated → t = s) ∧
      ((s.zone z).state = .normal ∨ (s.zone z).state = .fault →
        (s.detector d ≠ .alarm →
          (s.lineCondition z = (s.zone z).state → t = s) ∧
          (s.lineCondition z ≠ (s.zone z).state → t.zone z = { s.zone z with state := s.lineCondition z } ∧
            (∀ y, y ≠ z → t.zone y = s.zone y) ∧ t.offered (zoneNote z (t.zone z)) ∧
            onlyParts [.zones, .portC, .portF] s t)) ∧
        (s.detector d = .alarm → t.offered (.zoneAlarm z d) ∧ t.offered (zoneNote z (t.zone z)) ∧
          t.zone z = { s.zone z with
            state := .alarm, silenced := false, firstAlarm := some d, alarmSecond := some s.seconds } ∧
          t.closing.state ≠ .running ∧ handed z)) ∧
      ((s.zone z).state = .alarm →
        (s.detector d ≠ .alarm → t = s) ∧
        (s.detector d = .alarm →
          ((s.zone z).silenced = false → t = s.post (.zoneAlarm z d)) ∧
          ((s.zone z).silenced = true → t.offered (.zoneAlarm z d) ∧ t.offered (zoneNote z (t.zone z)) ∧
            t.zone z = { s.zone z with silenced := false } ∧ handed z))))

/-- R99 to R101, R66: SHUTTER LOWER of a shutter in OPEN arms it for cause HOST with the night warning; where it is a
sill shutter, a chain off BRAKE is braked and becomes HELD(HOST-EMERGENCY), or HELD(FIRE) from STOPPING(FIRE), and a
start warning ends in HELD(HOST-EMERGENCY). One UNPLACED, HALTED, RAISING or JAMMED is armed again; one closing already
or CLOSED is left as it stands, and one JAMMED on both limits is refused BUSY. The subject of BUSY is a free value,
notes/assumptions/12.md. -/
def Obligations.ShutterLowerEffect : Prop :=
  ∀ (s : State) (k : Nat), s.canTake .c .shutterLower →
    (k < 32 → (s.live.plan.shutter k).present = true →
      ((s.live.shutter k).state = .opened → 0 < s.live.plan.geometry.nightWarning →
        ∃ t, exec (.shutterLower .c (.fits k)) s = .next t ∧
          t.replied .c .shutterLower .done (.shutterState .armed) ∧ t.live.shutter k = armedRecord .host ∧
          t.live.offered (shutterNote k (armedRecord .host)) ∧
          (s.live.loop.numbered .shutter k = true → t.live.image.warn.read k false = true ∧
            t.live.image.release.read k false = false ∧ t.live.image.brake.read k false = false) ∧
          ((s.live.plan.shutter k).sill.isSome = true →
            (s.live.chain.state = .running ∨ s.live.chain.state = .inspection .creeping →
              t.live.chain.drive = .brake ∧ t.live.chain.state = .held .hostEmergency) ∧
            (∀ c ph, s.live.chain.state = .stopping c ph → ph ≠ .braked →
              t.live.chain.drive = .brake ∧ t.live.chain.state = .held (if c = .fire then .fire else .hostEmergency)) ∧
            (s.live.chain.state = .warning → t.live.chain.drive = s.live.chain.drive ∧
              t.live.chain.state = .held .hostEmergency ∧ t.live.chain.warnTimer = none) ∧
            (s.live.chain.state.engaged = false → t.live.chain = s.live.chain)) ∧
          ((s.live.plan.shutter k).sill = none → t.live.chain = s.live.chain) ∧
          changesOnly [.gear, .image, .loop, .monitor, .chain, .store, .portC, .portF] s t) ∧
      ((s.live.shutter k).state = .unplaced ∨ (s.live.shutter k).state = .halted ∨ (s.live.shutter k).state = .raising ∨
          (s.live.shutter k).state = .jammed ∧ s.live.bothLimits k = false → 0 < s.live.plan.geometry.nightWarning →
        ∃ t, exec (.shutterLower .c (.fits k)) s = .next t ∧
          t.replied .c .shutterLower .done (.shutterState .armed) ∧ t.live.shutter k = armedRecord .host ∧
          t.live.offered (shutterNote k (armedRecord .host)) ∧ (∀ j, j ≠ k → t.live.shutter j = s.live.shutter j) ∧
          changesOnly [.gear, .image, .loop, .store, .portC, .portF] s t) ∧
      ((s.live.shutter k).state = .armed ∨ (s.live.shutter k).state = .descending ∨
          (s.live.shutter k).state = .lifting ∨ (s.live.shutter k).state = .paused →
        exec (.shutterLower .c (.fits k)) s =
          .next ((s.loadClosed .c).served .c .shutterLower .done (.shutterState (s.live.shutter k).state))) ∧
      ((s.live.shutter k).state = .closed → exec (.shutterLower .c (.fits k)) s =
        .next ((s.loadClosed .c).served .c .shutterLower .done (.shutterState .closed))) ∧
      (s.live.limitsJammed k = true → ∃ t n, exec (.shutterLower .c (.fits k)) s = .next t ∧
        t.replied .c .shutterLower (.busy .limits n) .none ∧ changesOnly [.free, .store, .portC] s t)) ∧
    (k < 32 → (s.live.plan.shutter k).present = false →
      exec (.shutterLower .c (.fits k)) s = .next ((s.loadClosed .c).served .c .shutterLower .noSuch .none)) ∧
    (32 ≤ k → exec (.shutterLower .c (.fits k)) s =
      .next ((s.loadClosed .c).served .c .shutterLower .badValue .none))

/-- R112: an accepted SHUTTER RAISE clears the record and takes the shutter to OPEN where UP is asserted, to RAISING
with its travel timer at 0 otherwise; R114: SHUTTER HALT takes a shutter closing for a cause other than FIRE, or
RAISING, to HALTED. The refusals are BUSY with the reason that applies first. The subjects of BUSY are free values,
notes/assumptions/12.md. -/
def Obligations.ShutterRaiseAndHaltEffect : Prop :=
  (∀ (s : State) (k : Nat),
    let refused := fun (i : Instr) (q : Kind) (r : Result) => exec i s = .next ((s.loadClosed .c).served .c q r .none)
    (32 ≤ k →
      (s.canTake .c .shutterRaise → refused (.shutterRaise .c (.fits k)) .shutterRaise .badValue) ∧
      (s.canTake .c .shutterHalt → refused (.shutterHalt .c (.fits k)) .shutterHalt .badValue)) ∧
    (k < 32 → (s.live.plan.shutter k).present = false →
      (s.canTake .c .shutterRaise → refused (.shutterRaise .c (.fits k)) .shutterRaise .noSuch) ∧
      (s.canTake .c .shutterHalt → refused (.shutterHalt .c (.fits k)) .shutterHalt .noSuch))) ∧
  ∀ (s : State) (k : Nat), k < 32 → (s.live.plan.shutter k).present = true →
    let r := s.live.shutter k
    (s.canTake .c .shutterRaise →
      (s.live.gear.fireSet.contains k = false → r.state.raisable = true → s.live.bothLimits k = false →
        ∃ t, exec (.shutterRaise .c (.fits k)) s = .next t ∧ t.replied .c .shutterRaise .done .none ∧
          (if (s.live.input k).up.value then t.live.shutter k = raiseRecord r .opened none
            else t.live.shutter k = raiseRecord r .raising (some 0)) ∧
          (∀ j, j ≠ k → t.live.shutter j = s.live.shutter j) ∧ t.live.chain = s.live.chain ∧
          changesOnly [.gear, .image, .loop, .store, .portC, .portF] s t) ∧
      (s.live.gear.fireSet.contains k = true → ∃ t n, exec (.shutterRaise .c (.fits k)) s = .next t ∧
        t.replied .c .shutterRaise (.busy .fire n) .none ∧ changesOnly [.free, .store, .portC] s t) ∧
      (s.live.gear.fireSet.contains k = false → r.state.raisable = false →
        ∃ t n, exec (.shutterRaise .c (.fits k)) s = .next t ∧
          t.replied .c .shutterRaise (.busy .state n) .none ∧ changesOnly [.free, .store, .portC] s t) ∧
      (s.live.gear.fireSet.contains k = false → r.state.raisable = true → s.live.bothLimits k = true →
        ∃ t n, exec (.shutterRaise .c (.fits k)) s = .next t ∧
          t.replied .c .shutterRaise (.busy .limits n) .none ∧ changesOnly [.free, .store, .portC] s t)) ∧
    (s.canTake .c .shutterHalt →
      (((r.state = .armed ∨ r.state = .descending ∨ r.state = .lifting ∨ r.state = .paused) ∧ r.cause ≠ .fire) ∨
          r.state = .raising →
        ∃ t, exec (.shutterHalt .c (.fits k)) s = .next t ∧ t.replied .c .shutterHalt .done .none ∧
          t.live.shutter k = { r with
            state := .halted, warnTimer := none, holdTimer := none, travelTimer := none, phaseTimer := none } ∧
          t.live.offered (.shutterHalted k .host) ∧ (∀ j, j ≠ k → t.live.shutter j = s.live.shutter j) ∧
          changesOnly [.gear, .image, .loop, .store, .portC, .portF] s t) ∧
      ((r.state = .armed ∨ r.state = .descending ∨ r.state = .lifting ∨ r.state = .paused) → r.cause = .fire →
        ∃ t n, exec (.shutterHalt .c (.fits k)) s = .next t ∧
          t.replied .c .shutterHalt (.busy .fire n) .none ∧ changesOnly [.free, .store, .portC] s t) ∧
      (r.state = .opened ∨ r.state = .closed ∨ r.state = .unplaced ∨ r.state = .jammed →
        ∃ t n, exec (.shutterHalt .c (.fits k)) s = .next t ∧
          t.replied .c .shutterHalt (.busy .state n) .none ∧ changesOnly [.free, .store, .portC] s t) ∧
      (r.state = .halted →
        exec (.shutterHalt .c (.fits k)) s = .next ((s.loadClosed .c).served .c .shutterHalt .done .none)))

/-- R103 to R108: a shutter in ARMED whose warning has expired descends at once where it is a plain shutter or its sill
is clear with the chain at rest; with its hold-off expired and the drive at BRAKE it descends uncleared; where no condition
holds it waits, SHUTTER WAITING posted once. A DOWN limit that stands asserted at the entry to DESCENDING closes it, an EDGE
that stands asserted is an obstruction. R109: a lift ends in PAUSED at the retract time, and a pause ends in DESCENDING; R111,
R113: a descent or a raise that exceeds its limit ends in JAMMED with its reason. The answer CLEAR in SHUTTER UNCLEARED and
SHUTTER WAITING, for a clear sill with the chain not at rest, and the flag that a plain shutter keeps where its hold-off has
expired too, are the MODEL's choices, notes/assumptions/47.md and 52.md. -/
def Obligations.ShutterTimersAct : Prop :=
  (∀ (s : State) (k : Nat), s.power = .on → k < 32 → (s.live.shutter k).state = .armed →
     s.live.warnExpired k = true →
     let r := s.live.shutter k
     let i := s.live.input k
     let raised := fun n : Nat => if n < 65535 then n + 1 else n
     let others := fun t : State => ∀ j, j ≠ k → t.live.shutter j = s.live.shutter j
     let descends := fun (c : Instr) (uncleared : Bool) (told : State → Prop) =>
       let falling : ShutterRecord :=
         { r with state := .descending, uncleared := uncleared, warnTimer := none, travelTimer := some 0 }
       let closed : ShutterRecord :=
         { falling with state := .closed, holdTimer := none, travelTimer := none, phaseTimer := none }
       let becomes := fun (n : ShutterRecord) (t : State) => exec c s = .next t ∧ t.live.shutter k = n ∧
         t.live.offered (shutterNote k falling) ∧ told t ∧ others t
       (i.down.value = false → i.edgeTaken = false →
         ∃ t, becomes falling t ∧ changesOnly [.gear, .image, .loop, .portC, .portF] s t) ∧
       (i.down.value = true → i.up.value = false → ∃ t, becomes closed t ∧ t.live.offered (shutterNote k closed) ∧
         t.live.monitor.wear.closures.read k 0 = raised (s.live.monitor.wear.closures.read k 0) ∧
         changesOnly [.gear, .image, .loop, .monitor, .portC, .portF] s t) ∧
       (i.down.value = false → i.edgeTaken = true → r.forced = false → r.obstructions < 2 →
         ∃ t, becomes { falling with
             state := .lifting, obstructions := r.obstructions + 1, phaseTimer := some 0 } t ∧
           t.live.offered (.shutterObstructed k (r.obstructions + 1) r.cause) ∧
           t.live.monitor.wear.obstructions.read k 0 = raised (s.live.monitor.wear.obstructions.read k 0) ∧
           changesOnly [.gear, .image, .loop, .monitor, .portC, .portF] s t)
     (s.live.answerFor k = none ∨ s.live.clearHolds k = true →
       descends (.shutterWarningExpiry k) r.uncleared fun _ => True) ∧
     (s.live.answerFor k ≠ none → s.live.clearHolds k = false →
       let answer := noticeAnswer (s.live.answerFor k)
       (r.cause = .fire → s.live.holdExpired k = true → s.live.chain.drive = .brake →
         let told := fun t : State => t.live.offered (.shutterUncleared k answer s.live.gear.chainCopy)
         descends (.holdOffExpiry k) true told ∧ descends (.shutterWarningExpiry k) true told) ∧
       (r.cause ≠ .fire ∨ s.live.holdExpired k = false ∨ s.live.chain.drive ≠ .brake →
         (r.waitingPosted = true → exec (.shutterWarningExpiry k) s = .next s) ∧
         (r.waitingPosted = false → ∃ t, exec (.shutterWarningExpiry k) s = .next t ∧
           t.live.shutter k = { r with waitingPosted := true } ∧
           t.live.offered (.shutterWaiting k answer s.live.gear.chainCopy) ∧ others t ∧
           changesOnly [.gear, .portC, .portF] s t)))) ∧
  (∀ (s : State) (k : Nat), s.power = .on → k < 32 →
     let r := s.live.shutter k
     let e := s.live.plan.shutter k
     let moves := fun (i : Instr) (n : ShutterRecord) => ∃ t, exec i s = .next t ∧ t.live.shutter k = n ∧
       t.live.offered (shutterNote k n) ∧ (∀ j, j ≠ k → t.live.shutter j = s.live.shutter j) ∧
       changesOnly [.gear, .image, .loop, .portC, .portF] s t
     (∀ n, r.state = .lifting → r.phaseTimer = some n → e.retract ≤ n →
       moves (.retractExpiry k) { r with state := .paused, phaseTimer := some 0 }) ∧
     (∀ n, r.state = .paused → r.phaseTimer = some n → 1000 * e.pause ≤ n → (s.live.input k).down.value = false →
       (s.live.input k).edge.value = false →
       moves (.pauseExpiry k) { r with state := .descending, phaseTimer := none }) ∧
     (∀ n, r.state = .descending → r.travelTimer = some n → 1000 * e.descentLimit < n →
       moves (.descentLimitExpiry k) { r with
         state := .jammed, jam := some .travel, warnTimer := none, holdTimer := none, travelTimer := none, phaseTimer := none }) ∧
     (∀ n, r.state = .raising → r.travelTimer = some n → 2000 * e.descentLimit < n →
       moves (.raiseLimitExpiry k) { r with
         state := .jammed, jam := some .raise, warnTimer := none, holdTimer := none, travelTimer := none, phaseTimer := none }))

/-- R100 to R102, R107 to R110, R113, R115 to R117: what a close request of cause FIRE, a change of a limit, an asserted
edge at the first, second and third obstruction and the loss of a module do to a shutter, as a fire demand and a scan hand them on. -/
def Obligations.ShuttersMeetTheField : Prop :=
  ∀ (s : Live) (k : Nat), k < 32 →
    let r := s.shutter k
    let i := s.input k
    let only := fun t : Live => onlyParts [.gear, .image, .loop, .monitor, .chain, .portC, .portF] s t
    let becomes := fun (t : Live) (n : ShutterRecord) => t.shutter k = n ∧ t.offered (shutterNote k n) ∧ only t
    let closing := r.state = .armed ∨ r.state = .descending ∨ r.state = .lifting ∨ r.state = .paused
    let mayArm := r.state = .opened ∨ r.state = .unplaced ∨ r.state = .halted ∨ r.state = .jammed ∨ r.state = .raising
    (let t := s.closeRequest k .fire
     (s.limitsJammed k = true ∨ r.state = .closed → t = s) ∧
     (s.limitsJammed k = false →
       (mayArm → 0 < s.plan.geometry.fireWarning → becomes t (armedRecord .fire)) ∧
       (mayArm → s.plan.geometry.fireWarning = 0 → s.plan.sillOf k = none → i.down.value = false →
         i.edgeTaken = false →
         becomes t { armedRecord .fire with state := .descending, warnTimer := none, travelTimer := some 0 }) ∧
       (closing → r.cause ≠ .fire → (∀ j, j ≠ k → t.shutter j = s.shutter j) ∧
         becomes t { r with cause := .fire, holdTimer := if r.state = .armed then some 0 else r.holdTimer }) ∧
       (closing → r.cause = .fire → t = s))) ∧
    (∀ l : Limit, let t := s.limitChange k l
      (r.state = .jammed → t = s) ∧
      (r.state ≠ .jammed → s.bothLimits k = true → becomes t { r with
        state := .jammed, jam := some .limits, warnTimer := none, holdTimer := none, travelTimer := none,
        phaseTimer := none }) ∧
      (s.bothLimits k = false →
        (r.state = .opened ∧ i.up.value = false ∨ r.state = .closed ∧ i.down.value = false →
          becomes t { r with state := .unplaced }) ∧
        (r.state = .unplaced → i.up.value = true → becomes t { r with state := .opened }) ∧
        (r.state = .descending → l = .down → i.down.value = true →
          becomes t { r with state := .closed, holdTimer := none, travelTimer := none, phaseTimer := none } ∧
          t.monitor.wear.closures.read k 0 = (if s.monitor.wear.closures.read k 0 < 65535 then
            s.monitor.wear.closures.read k 0 + 1 else s.monitor.wear.closures.read k 0)) ∧
        (r.state = .lifting → l = .up → i.up.value = true →
          becomes t { r with state := .paused, phaseTimer := some 0 }) ∧
        (r.state = .raising → l = .up → i.up.value = true →
          becomes t { r with state := .opened, travelTimer := none }) ∧
        (r.state = .opened ∧ i.up.value = true ∨ r.state = .closed ∧ i.down.value = true ∨
            r.state = .unplaced ∧ i.up.value = false ∨ r.state = .descending ∧ (l = .up ∨ i.down.value = false) ∨
            (r.state = .lifting ∨ r.state = .raising) ∧ (l = .down ∨ i.up.value = false) ∨
            r.state = .armed ∨ r.state = .paused ∨ r.state = .halted → t = s))) ∧
    (let t := s.edgeAsserted k
     (r.state ≠ .descending ∨ r.forced = true → t = s) ∧
     (r.state = .descending → r.forced = false →
       t.offered (.shutterObstructed k (r.obstructions + 1) r.cause) ∧ (∀ j, j ≠ k → t.shutter j = s.shutter j) ∧ only t ∧
       t.monitor.wear.obstructions.read k 0 = (if s.monitor.wear.obstructions.read k 0 < 65535 then
         s.monitor.wear.obstructions.read k 0 + 1 else s.monitor.wear.obstructions.read k 0) ∧
       (r.obstructions < 2 → becomes t { r with
         state := .lifting, obstructions := r.obstructions + 1, phaseTimer := some 0 }) ∧
       (2 ≤ r.obstructions → r.cause = .fire → t.offered (.shutterForced k) ∧
         t.shutter k = { r with obstructions := r.obstructions + 1, forced := true }) ∧
       (2 ≤ r.obstructions → r.cause ≠ .fire → t.offered (.shutterHalted k .obstruction) ∧
         becomes t { r with
           state := .halted, obstructions := r.obstructions + 1, holdTimer := none, travelTimer := none,
           phaseTimer := none }))) ∧
    (let t := s.shutterModuleLost k
     (r.state = .opened → becomes t { r with state := .unplaced }) ∧ (r.state ≠ .opened → t = s))

/-! ## What each command does: the chain -/

/-- R53, R54: CHAIN START. The subject 0 of BUSY FLAP where both flaps are tripped is the MODEL's choice,
notes/assumptions/23.md. -/
def Obligations.ChainStartEffect : Prop :=
  ∀ s : State, s.canTake .c .chainStart →
    let busy := fun (r : BusyReason) (n : Nat) => exec (.chainStart .c (.fits ())) s =
      .next ((s.loadClosed .c).served .c .chainStart (.busy r n) .none)
    (s.live.chain.state.startable = false → busy .state 0) ∧
    (s.live.chain.state.startable = true →
      (∀ k, s.live.sillNotOpen = some k → busy .shutter k) ∧
      (s.live.sillNotOpen = none →
        (s.live.chain.flapTop = true → busy .flap 0) ∧
        (s.live.chain.flapTop = false → s.live.chain.flapBottom = true → busy .flap 1) ∧
        (s.live.chain.flapTop = false → s.live.chain.flapBottom = false →
          (∀ z, s.live.alarmWithLanding = some z → busy .zone z) ∧
          (s.live.alarmWithLanding = none → ∃ t, exec (.chainStart .c (.fits ())) s = .next t ∧
            t.replied .c .chainStart .done .none ∧
            t.live.chain =
              { s.live.chain with state := .warning, warnTimer := some 0, carriedLoops := none, gongsOn := true } ∧
            t.live.offered (.chainState .warning) ∧
            (∀ i, i < 8 → t.live.image.gongs.read i false =
              (s.live.loop.gongNumbered i && decide (i < s.live.plan.geometry.landings.length))) ∧
            changesOnly [.chain, .monitor, .gear, .image, .loop, .store, .portC, .portF] s t))))

/-- R54, R68: the end of the start warning, and the strokes of the landing gongs. -/
def Obligations.WarningAndGongs : Prop :=
  ∀ (s : State) (n : Nat), s.power = .on →
    (s.live.chain.state = .warning → s.live.chain.warnTimer = some n →
      1000 * s.live.plan.geometry.startWarning ≤ n → s.live.chain.drive = .brake →
      ∃ t, exec .startWarningEnd s = .next t ∧ t.live.chain.state = .running ∧
        t.live.chain.drive = (if s.live.chain.slow then .reduced else .run) ∧
        t.live.chain.warnTimer = none ∧ t.live.chain.carriedLoops = none ∧ t.live.chain.stallTimer = some 0 ∧
        (∀ m, s.live.chain.carriedLoops = some m →
          t.live.chain.sweep = some (m * s.live.plan.geometry.loopLength) ∧ t.live.chain.gongsOn = true) ∧
        (s.live.chain.carriedLoops = none → t.live.chain.gongsOn = false) ∧
        t.live.monitor.settleTimer = none ∧ t.live.monitor.settled = false ∧ t.live.offered (.chainState .running) ∧
        changesOnly [.chain, .monitor, .gear, .image, .loop, .portC, .portF] s t) ∧
    (s.live.chain.state = .warning → s.live.chain.warnTimer = some n →
      ∃ t, exec .warningGongToggle s = .next t ∧
        t.live.chain = { s.live.chain with gongsOn := n / 500 % 2 == 0 } ∧ changesOnly [.chain, .image] s t) ∧
    (∀ m, s.live.chain.sweep = some m → s.live.chain.gongTimer = some n →
      (5000 ≤ n → ∃ t, exec .sweepGongTimer s = .next t ∧
        t.live.chain = { s.live.chain with gongTimer := some 0, gongsOn := true } ∧ changesOnly [.chain, .image] s t) ∧
      (500 ≤ n → n < 5000 → ∃ t, exec .sweepGongTimer s = .next t ∧
        t.live.chain = { s.live.chain with gongsOn := false } ∧ changesOnly [.chain, .image] s t))

/-- R51, R56 to R58, R60, R73: CHAIN STOP by the state it finds; the braking of a step posts nothing. -/
def Obligations.ChainStopEffect : Prop :=
  ∀ (p : Port) (s : State), s.canTake p .chainStop →
    let r := Machine.placeStop s.live.plan s.live.store.fullClear s.live.monitor.count s.live.monitor.speed
    let becomes := fun (h : Live → Prop) => ∃ t, exec (.chainStop p (.fits ())) s = .next t ∧
      t.replied p .chainStop .done .none ∧ h t.live ∧
      changesOnly [.chain, .monitor, .gear, .image, .loop, .store, .portC, .portF] s t
    (s.live.chain.state = .running → s.live.chain.deferred = none → s.live.monitor.position = .valid →
      becomes fun t => t.chain.stop = some r ∧ t.chain.sweep = none ∧
        if r.decel < r.linksToGo then
          t.chain.state = .stopping .host .approach ∧ t.chain.drive = s.live.chain.drive
        else t.chain.state = .stopping .host .creeping ∧ t.chain.drive = .creep) ∧
    (s.live.chain.state = .running → s.live.chain.deferred = none → s.live.monitor.position ≠ .valid →
      becomes fun t => t.chain.state = .running ∧ t.chain.deferred = some .host ∧ t.chain.sweep = none ∧
        t.offered (.stopDeferred .host)) ∧
    (s.live.chain.state = .warning →
      becomes fun t => t.chain.state = .parked ∧ t.chain.warnTimer = none ∧ t.chain.carriedLoops = none ∧
        t.chain.gongsOn = false ∧ t.chain.drive = s.live.chain.drive) ∧
    (s.live.chain.state = .inspection .creeping →
      becomes fun t => t.chain.state = .inspection .braked ∧ t.chain.drive = .brake ∧ t.chain.step = some 0 ∧
        t.gear = s.live.gear ∧ ∀ q, (t.port q).notices = (s.live.port q).notices) ∧
    ((s.live.chain.state = .running ∧ s.live.chain.deferred ≠ none) ∨ s.live.chain.state = .parked ∨
        (∃ c, s.live.chain.state = .held c) ∨ s.live.chain.state = .fault ∨
        (∃ c ph, s.live.chain.state = .stopping c ph) ∨ s.live.chain.state = .inspection .idle ∨
        s.live.chain.state = .inspection .braked →
      exec (.chainStop p (.fits ())) s = .next ((s.loadClosed p).served p .chainStop .done .none))

/-- R51, R71, R72: inspection and stepping; the braking of a step hands nothing to the Shutter Controller. The subject 0 of
BUSY STATE, and that of BUSY FLAP where both flaps are tripped, are the MODEL's choices, notes/assumptions/23.md; so is that
STEP_REMAINDER_END is the LINK pulse itself that lowers the remainder to 0, notes/assumptions/4.md. -/
def Obligations.InspectionAndStep : Prop :=
  ∀ s : State,
    let becomes := fun (i : Instr) (k : Kind) (h : Live → Prop) => ∃ t, exec i s = .next t ∧
      t.replied .c k .done .none ∧ h t.live ∧
      changesOnly [.chain, .monitor, .gear, .image, .loop, .store, .portC, .portF] s t
    let answers := fun (i : Instr) (k : Kind) (r : Result) =>
      exec i s = .next ((s.loadClosed .c).served .c k r .none)
    (s.canTake .c .chainInspect →
      (s.live.chain.state = .parked → s.live.sillNotOpen = none →
        becomes (.chainInspectOn .c (.fits .named)) .chainInspect fun t =>
          t.chain = { s.live.chain with state := .inspection .idle }) ∧
      (∀ k, s.live.chain.state = .parked → s.live.sillNotOpen = some k →
        answers (.chainInspectOn .c (.fits .named)) .chainInspect (.busy .shutter k)) ∧
      (s.live.chain.state ≠ .parked →
        answers (.chainInspectOn .c (.fits .named)) .chainInspect (.busy .state 0)) ∧
      (s.live.chain.state = .inspection .idle →
        becomes (.chainInspectOff .c (.fits .named)) .chainInspect fun t =>
          t.chain = { s.live.chain with state := .parked }) ∧
      (s.live.chain.state = .inspection .creeping ∨ s.live.chain.state = .inspection .braked →
        answers (.chainInspectOff .c (.fits .named)) .chainInspect (.busy .state 0)) ∧
      ((∀ x, s.live.chain.state ≠ .inspection x) →
        answers (.chainInspectOff .c (.fits .named)) .chainInspect .done) ∧
      answers (.chainInspectOn .c (.fits .unnamed)) .chainInspect .badValue ∧
      answers (.chainInspectOff .c (.fits .unnamed)) .chainInspect .badValue) ∧
    (s.canTake .c .chainStep → ∀ n,
      (n = 0 → answers (.chainStep .c (.fits n)) .chainStep .badValue) ∧
      (0 < n → s.live.chain.state ≠ .inspection .idle →
        answers (.chainStep .c (.fits n)) .chainStep (.busy .state 0)) ∧
      (∀ k, 0 < n → s.live.chain.state = .inspection .idle → s.live.sillNotOpen = some k →
        answers (.chainStep .c (.fits n)) .chainStep (.busy .shutter k)) ∧
      (0 < n → s.live.chain.state = .inspection .idle → s.live.sillNotOpen = none →
        (s.live.chain.flapTop = true → answers (.chainStep .c (.fits n)) .chainStep (.busy .flap 0)) ∧
        (s.live.chain.flapTop = false → s.live.chain.flapBottom = true →
          answers (.chainStep .c (.fits n)) .chainStep (.busy .flap 1))) ∧
      (0 < n → s.live.chain.state = .inspection .idle → s.live.sillNotOpen = none →
        s.live.chain.flapTop = false → s.live.chain.flapBottom = false →
        becomes (.chainStep .c (.fits n)) .chainStep fun t =>
          t.chain.state = .inspection .creeping ∧ t.chain.drive = .creep ∧
            t.chain.step = some (min n s.live.plan.geometry.loopLength))) ∧
    (∀ phase, s.power = .on → s.live.chain.state = .inspection .creeping → s.live.chain.step = some 1 →
      ∃ t, exec (.stepRemainderEnd phase) s = .next t ∧ t.live.chain.state = .inspection .braked ∧
        t.live.chain.drive = .brake ∧ t.live.chain.step = some 0 ∧
        t.live.gear.chainCopy = s.live.gear.chainCopy ∧
        changesOnly [.chain, .monitor, .gear, .image, .loop, .portC, .portF] s t)

/-- R34, R39, R46, R52: one LINK pulse advances the count in the loop and the links wear count, and carries the stop, the
sweep or the step forward by one; a missed index makes the position UNKNOWN. R58, R68: the LINK pulses that reach the decel
point, the stop target and the end of a sweep. That these rows are the pulse that brings them about, and that a sweep's end
meets the position as that pulse leaves it, are the MODEL's choices, notes/assumptions/4.md and 51.md. -/
def Obligations.LinkPulsesAct : Prop :=
  (∀ (s : State) (phase : Nat), s.power = .on → s.live.monitor.count < s.live.plan.geometry.loopLength →
     let frame := fun t : State => changesOnly [.chain, .monitor, .gear, .image, .loop, .portC, .portF] s t
     (∃ t, exec (.linkPulse phase) s = .next t ∧ frame t ∧
       t.live.monitor.count = (s.live.monitor.count + 1) % s.live.plan.geometry.loopLength ∧
       t.live.monitor.wear.links =
         (if s.live.monitor.wear.links < 4294967295 then s.live.monitor.wear.links + 1 else s.live.monitor.wear.links) ∧
       (∀ c r, s.live.chain.state = .stopping c .braked → s.live.chain.stop = some r →
         t.live.chain.stop = some { r with overrun := min 65535 (r.overrun + 1) } ∧
           t.live.chain.state = .stopping c .braked) ∧
       (∀ c ph r, s.live.chain.state = .stopping c ph → ph ≠ .braked → s.live.chain.stop = some r →
         1 < r.linksToGo → r.linksToGo ≠ r.decel + 1 →
         t.live.chain.stop = some { r with linksToGo := r.linksToGo - 1 } ∧ t.live.chain.state = .stopping c ph) ∧
       (∀ n, s.live.chain.state = .running → s.live.chain.sweep = some n → 1 < n →
         t.live.chain.sweep = some (n - 1) ∧ t.live.chain.state = .running) ∧
       (∀ n, s.live.chain.state = .inspection .creeping → s.live.chain.step = some n → 1 < n →
         t.live.chain.step = some (n - 1) ∧ t.live.chain.state = .inspection .creeping) ∧
       (s.live.chain.drive ≠ .brake → 1 < s.live.chain.sweep.getD 2 → s.live.chain.state = .running →
         t.live.chain.stallTimer = some 0)) ∧
     (s.live.monitor.watchArmed = true → s.live.nextCount = s.live.plan.geometry.indexTolerance + 2 →
       ∃ t, exec (.missedIndex phase) s = .next t ∧ frame t ∧ t.live.monitor.position = .unknown ∧
         t.live.monitor.watchArmed = false ∧ t.live.monitor.count = s.live.plan.geometry.indexTolerance + 2 ∧
         t.live.offered (.positionLost (s.live.plan.geometry.indexTolerance + 2)))) ∧
  (∀ (s : State) (phase : Nat), s.power = .on →
     let frame := fun t : State => changesOnly [.chain, .monitor, .gear, .image, .loop, .portC, .portF] s t
     (∀ c r, s.live.chain.state = .stopping c .approach → s.live.chain.stop = some r → 0 < r.decel →
       r.linksToGo = r.decel + 1 → ∃ t, exec (.decelPoint phase) s = .next t ∧ frame t ∧
         t.live.chain.state = .stopping c .creeping ∧ t.live.chain.drive = .creep ∧
         t.live.chain.stop = some { r with linksToGo := r.decel }) ∧
     (∀ c ph r, s.live.chain.state = .stopping c ph → ph ≠ .braked → s.live.chain.stop = some r → r.linksToGo = 1 →
       ∃ t, exec (.stopTargetReached phase) s = .next t ∧ frame t ∧
         t.live.chain.state = .stopping c .braked ∧ t.live.chain.drive = .brake ∧
         t.live.chain.stop = some { r with linksToGo := 0 }) ∧
     (s.live.chain.state = .running → s.live.chain.sweep = some 1 →
       ∃ t, exec (.sweepEnd phase) s = .next t ∧ frame t ∧ t.live.chain.sweep = none ∧
         t.live.chain.gongTimer = none ∧ t.live.chain.gongsOn = false ∧
         (t.live.monitor.position = .valid → ∃ ph, t.live.chain.state = .stopping .sweepEnd ph) ∧
         (t.live.monitor.position ≠ .valid → t.live.chain.state = .running ∧
           (s.live.chain.deferred = none → t.live.chain.deferred = some .sweepEnd))))

/-- R37, R60: an INDEX pulse. -/
def Obligations.IndexPulseJudgesPosition : Prop :=
  ∀ s : State, s.power = .on →
    let l := s.live.plan.geometry.loopLength
    let e : Int := if s.live.monitor.count ≤ l / 2 then s.live.monitor.count else (s.live.monitor.count : Int) - l
    let tol := s.live.plan.geometry.indexTolerance
    ∃ t, exec .indexPulse s = .next t ∧ t.live.monitor.count = 0 ∧ t.live.monitor.watchArmed = false ∧
      t.live.monitor.lastError = some e ∧
      t.live.monitor.wear.index =
        (if s.live.monitor.wear.index < 4294967295 then s.live.monitor.wear.index + 1 else s.live.monitor.wear.index) ∧
      (s.live.monitor.position = .unknown →
        t.live.monitor.position = .valid ∧ t.live.offered (.positionValid e)) ∧
      (s.live.monitor.position = .valid →
        (e = 0 → t.live.monitor.position = .valid) ∧
        (e ≠ 0 → e.natAbs ≤ tol → t.live.monitor.position = .valid ∧ t.live.offered (.resync e)) ∧
        (tol < e.natAbs → t.live.monitor.position = .suspect ∧ t.live.offered (.positionSuspect e))) ∧
      (s.live.monitor.position = .suspect →
        (e.natAbs ≤ tol → t.live.monitor.position = .valid ∧ t.live.offered (.positionValid e)) ∧
        (tol < e.natAbs → t.live.monitor.position = .suspect ∧ t.live.offered (.positionSuspect e))) ∧
      (∀ c, s.live.chain.state = .running → s.live.chain.deferred = some c → s.live.monitor.position ≠ .valid →
        t.live.monitor.position = .valid →
        t.live.chain.deferred = none ∧ ∃ ph, t.live.chain.state = .stopping c ph) ∧
      changesOnly [.chain, .monitor, .gear, .image, .loop, .portC, .portF] s t

/-- R42, R59, R72, R63, R65: the settled event and the stall. -/
def Obligations.SettleAndStall : Prop :=
  ∀ (s : State) (n : Nat), s.power = .on →
    let frame := fun t : State => changesOnly [.chain, .monitor, .gear, .image, .loop, .portC, .portF] s t
    (s.live.chain.drive = .brake → s.live.monitor.settled = false → s.live.monitor.settleTimer = some n → 1000 ≤ n →
      ∃ t, exec .chainSettled s = .next t ∧ frame t ∧ t.live.monitor.settled = true ∧
        t.live.monitor.count = s.live.monitor.count ∧ t.live.chain.drive = .brake ∧
        (∀ c, s.live.chain.state = .stopping c .braked →
          t.live.chain.state = (if c = .fire then .held .fire else .parked) ∧ t.live.chain.stop = none ∧
          (∀ r, s.live.chain.stop = some r → 1 ≤ r.overrun ∨ 1 ≤ t.live.sillsNotClear →
            t.live.offered (.chainOverrun r.overrun t.live.sillsNotClear))) ∧
        (s.live.chain.state = .inspection .braked →
          t.live.chain.state = .inspection .idle ∧ t.live.chain.step = none ∧
          t.live.offered (.stepDone s.live.monitor.count s.live.monitor.position)) ∧
        ((∀ c, s.live.chain.state ≠ .stopping c .braked) → s.live.chain.state ≠ .inspection .braked →
          t.live.chain = s.live.chain)) ∧
    (s.live.chain.drive ≠ .brake → s.live.chain.stallTimer = some n → s.live.plan.geometry.stallTime ≤ n →
      ∃ t, exec .stall s = .next t ∧ frame t ∧ t.live.chain.drive = .brake ∧ t.live.chain.state = .fault ∧
        t.live.chain.stop = none ∧ t.live.chain.deferred = none ∧ t.live.chain.sweep = none ∧
        t.live.chain.step = none ∧ t.live.chain.stallTimer = none ∧
        t.live.offered (.chainEmergency .stall 0 s.live.chain.drive) ∧
        t.live.monitor.wear.emergencyStops = (if s.live.monitor.wear.emergencyStops < 65535 then
          s.live.monitor.wear.emergencyStops + 1 else s.live.monitor.wear.emergencyStops))

/-- R55, R61, R64: what a fire stop, a change of a flap and a change of SLOW do by the chain's state, as a fire demand and
a scan hand them on. -/
def Obligations.ChainMeetsTheField : Prop :=
  ∀ s : Live,
    let only := fun t : Live => onlyParts [.chain, .monitor, .gear, .image, .loop, .portC, .portF] s t
    let braked := fun (t : Live) (why : EmergencyReason) (index : Nat) (h : HeldCause) =>
      t.chain.drive = .brake ∧ t.chain.state = .held h ∧ t.chain.stop = none ∧ t.chain.deferred = none ∧
      t.chain.sweep = none ∧ t.chain.step = none ∧ t.offered (.chainEmergency why index s.chain.drive) ∧
      t.monitor.wear.emergencyStops = (if s.monitor.wear.emergencyStops < 65535 then
        s.monitor.wear.emergencyStops + 1 else s.monitor.wear.emergencyStops)
    let leaves := fun (t : Live) (h : HeldCause) =>
      t.chain.drive = s.chain.drive ∧ t.chain.state = .held h ∧ t.chain.stop = none ∧ t.chain.step = none
    let warningEnds := fun (t : Live) (h : HeldCause) =>
      t.chain.drive = s.chain.drive ∧ t.chain.state = .held h ∧ t.chain.warnTimer = none ∧
      t.chain.carriedLoops = none ∧ t.chain.gongsOn = false
    (let t := s.fireStop
     let r := Machine.placeStop s.plan s.store.fullClear s.monitor.count s.monitor.speed
     only t ∧
     (s.chain.state = .running → s.monitor.position = .valid →
       t.chain.sweep = none ∧ t.chain.deferred = none ∧ t.chain.stop = some r ∧
       if r.decel < r.linksToGo then t.chain.state = .stopping .fire .approach ∧ t.chain.drive = s.chain.drive
       else t.chain.state = .stopping .fire .creeping ∧ t.chain.drive = .creep) ∧
     (s.chain.state = .running → s.monitor.position ≠ .valid → braked t .fire 0 .fire) ∧
     (∀ c ph, s.chain.state = .stopping c ph → t.chain = { s.chain with state := .stopping .fire ph }) ∧
     (s.chain.state = .warning → warningEnds t .fire) ∧
     (s.chain.state = .inspection .creeping → braked t .fire 0 .fire) ∧
     (s.chain.state = .inspection .braked → leaves t .fire) ∧
     (s.chain.state = .inspection .idle ∨ s.chain.state = .parked ∨ (∃ c, s.chain.state = .held c) →
       t.chain = { s.chain with state := .held .fire }) ∧
     (s.chain.state = .fault → t = s)) ∧
    (∀ (bottom tripped : Bool),
      let t := s.flapChange bottom tripped
      let n := if bottom then 1 else 0
      only t ∧ t.offered (.flapChange bottom tripped) ∧
      t.chain.flapTop = (if bottom then s.chain.flapTop else tripped) ∧
      t.chain.flapBottom = (if bottom then tripped else s.chain.flapBottom) ∧
      (tripped = false → t.chain.state = s.chain.state ∧ t.chain.drive = s.chain.drive ∧ t.chain.stop = s.chain.stop) ∧
      (tripped = true →
        (s.chain.state = .running ∨ s.chain.state = .inspection .creeping → braked t .flap n .flap) ∧
        (∀ c ph, s.chain.state = .stopping c ph → ph ≠ .braked →
          braked t .flap n (if c = .fire then .fire else .flap)) ∧
        (∀ c, s.chain.state = .stopping c .braked → leaves t (if c = .fire then .fire else .flap)) ∧
        (s.chain.state = .warning → warningEnds t .flap) ∧
        (s.chain.state = .inspection .braked → leaves t .flap) ∧
        (s.chain.state = .inspection .idle ∨ s.chain.state = .parked ∨ (∃ c, s.chain.state = .held c) ∨
            s.chain.state = .fault →
          t.chain.state = s.chain.state ∧ t.chain.drive = s.chain.drive))) ∧
    (∀ slow : Bool,
      let t := s.slowChange slow
      only t ∧ t.chain.slow = slow ∧ t.chain.state = s.chain.state ∧ t.chain.stop = s.chain.stop ∧
      (s.chain.state = .running ∨ (∃ c, s.chain.state = .stopping c .approach) →
        t.chain.drive = if slow then .reduced else .run) ∧
      (s.chain.state ≠ .running → (∀ c, s.chain.state ≠ .stopping c .approach) → t.chain.drive = s.chain.drive))

/-! ## What each command does: calls and circuits -/

/-- R121 to R123, R129, R130, R149: CALL PLACE enters or replaces its record, is FULL against a list of 32 that holds no
lower level, and displaces the last record otherwise; CALL CLEAR removes a record that is not a fire call; CALL MASK
sets an idle circuit's mask at once and a ringing circuit's as pending. That BAD VALUE is judged before NO SUCH, and the
place a CALL DROPPED or CALL REMOVED carries, are the MODEL's choices, notes/assumptions/26.md and 25.md. The subject of
BUSY FIRE is a free value, notes/assumptions/12.md. -/
def Obligations.CallRequestsEffect : Prop :=
  (∀ (p : Port) (s : State) (f : CallPlaceFields), s.canTake p .callPlace →
    let key := CallKey.host f.code f.circuit
    let frame := fun t : State => t.live.store = (s.loadClosed p).live.store ∧
      changesOnly [.calls, .circuits, .image, .loop, .store, .portC, .portF] s t
    let enters := fun t : State => ∃ st n, (st = .waiting ∨ st = .ringing) ∧
      t.live.call key = some (CallRecord.mk key f.circuit f.level (.coded f.code) (f.mode == some .untilCleared) st 0 0
        (f.reRing.map fun x => max 10 (min 600 x)) none s.live.seconds) ∧
      n = t.live.placeOf key ∧ t.live.offered (.callEntered key (some f.code) f.circuit f.level n false) ∧
      t.replied p .callPlace .done (.place false n)
    let refused := fun r : Result => exec (.callPlace p (.fits f)) s =
      .next ((s.loadClosed p).served p .callPlace r .none)
    (f.inRange = false → refused .badValue) ∧
    (f.inRange = true → (s.live.plan.circuit f.circuit).present = false → refused .noSuch) ∧
    (f.inRange = true → (s.live.plan.circuit f.circuit).present = true →
      (s.live.call key = none → s.live.calls.length < 32 →
        ∃ t, exec (.callPlace p (.fits f)) s = .next t ∧ frame t ∧ enters t) ∧
      (s.live.call key = none → 32 ≤ s.live.calls.length → (∀ r ∈ s.live.calls, f.level ≤ r.level) →
        ∃ t, exec (.callPlace p (.fits f)) s = .next t ∧ t.replied p .callPlace .full .none ∧
          t.live.offered (.callDropped key (some f.code) f.circuit f.level none .full) ∧
          t.live.store = (s.loadClosed p).live.store ∧ changesOnly [.store, .portC, .portF] s t) ∧
      (∀ last, s.live.call key = none → 32 ≤ s.live.calls.length → s.live.calls.getLast? = some last →
        last.level < f.level → ∃ t, exec (.callPlace p (.fits f)) s = .next t ∧ frame t ∧ enters t ∧
          t.live.call last.key = none ∧
          t.live.offered (.callDropped last.key last.number last.circuit last.level (some (s.live.placeOf last.key)) .displaced)) ∧
      (∀ old, s.live.call key = some old →
        ∃ t st n, exec (.callPlace p (.fits f)) s = .next t ∧ frame t ∧ (st = .waiting ∨ st = .ringing) ∧
          t.live.call key = some (CallRecord.mk key f.circuit f.level (.coded f.code) (f.mode == some .untilCleared) st 0
            old.presses (f.reRing.map fun x => max 10 (min 600 x)) none old.arrival) ∧
          n = t.live.placeOf key ∧ t.live.offered (.callEntered key (some f.code) f.circuit f.level n true) ∧
          t.replied p .callPlace .done (.place true n)))) ∧
  (∀ (p : Port) (s : State), s.canTake p .callClear →
    let refused := fun (k : Option CallKey) (r : Result) => exec (.callClear p (.fits k)) s =
      .next ((s.loadClosed p).served p .callClear r .none)
    refused none .badValue ∧
    (∀ key, key.inRange = false → refused (some key) .badValue) ∧
    (∀ key, key.inRange = true → s.live.call key = none → refused (some key) .noSuch) ∧
    (∀ key r, key.inRange = true → s.live.call key = some r →
      (r.pattern = .fire → ∃ t n, exec (.callClear p (.fits (some key))) s = .next t ∧
        t.replied p .callClear (.busy .fire n) .none ∧ changesOnly [.free, .store, portPart p] s t) ∧
      (r.pattern ≠ .fire → ∃ t, exec (.callClear p (.fits (some key))) s = .next t ∧
        t.replied p .callClear .done .none ∧ t.live.call key = none ∧
        t.live.offered (.callRemoved key r.number r.circuit r.level (s.live.placeOf key) .clear) ∧
        (∀ g, (t.live.circuit r.circuit).ring = some g → g.key ≠ key) ∧
        changesOnly [.calls, .circuits, .image, .loop, .store, .portC, .portF] s t))) ∧
  (∀ (s : State) (c m : Nat), s.canTake .c .callMask →
    let refused := fun r : Result => exec (.callMask .c (.fits ⟨c, m⟩)) s =
      .next ((s.loadClosed .c).served .c .callMask r .none)
    (16 ≤ c ∨ 6 < m → refused .badValue) ∧
    (c < 16 → m ≤ 6 → (s.live.plan.circuit c).present = false → refused .noSuch) ∧
    (c < 16 → m ≤ 6 → (s.live.plan.circuit c).present = true →
      ((s.live.circuit c).ring = none → ∃ t, exec (.callMask .c (.fits ⟨c, m⟩)) s = .next t ∧
        t.replied .c .callMask .done (.masks m none) ∧
        (t.live.circuit c).mask = m ∧ (t.live.circuit c).pendingMask = none ∧
        (m ≠ (s.live.circuit c).mask → t.live.offered (.circuitMask c m (s.live.circuit c).mask)) ∧
        changesOnly [.calls, .circuits, .image, .loop, .store, .portC, .portF] s t) ∧
      (∀ g, (s.live.circuit c).ring = some g → ∃ t, exec (.callMask .c (.fits ⟨c, m⟩)) s = .next t ∧
        t.replied .c .callMask .done (.masks (s.live.circuit c).mask (some m)) ∧
        t.live.circuit c = { s.live.circuit c with pendingMask := some m } ∧
        (∀ d, d ≠ c → t.live.circuit d = s.live.circuit d) ∧ changesOnly [.circuits, .store, .portC] s t)))

/-- R124 to R128: what a push line's change does, as a scan hands it on: PUSH LINE at a broken line and its mending, an
acknowledgement, a first press and a repeated one. The place CALL REMOVED carries is the MODEL's choice,
notes/assumptions/25.md. -/
def Obligations.PushChangesAct : Prop :=
  ∀ (s : Live) (p : Nat) (old new : PushState), p < 64 →
    let t := s.pushChange p old new
    let told := s.postIf (new == .broken || old == .broken) (.pushLine p (new == .broken))
    let e := s.plan.push p
    let indicator := fun b : Bool => s.loop.numbered .call p = true → t.image.indicators.read p false = b
    (new = .broken → t.offered (.pushLine p true)) ∧ (new ≠ .broken → old = .broken → t.offered (.pushLine p false)) ∧
    (new = .idle ∨ new = .broken → t = told) ∧
    (new = .attend → s.call (.push p) = none → t = told) ∧
    (∀ r, new = .attend → s.call (.push p) = some r → t.call (.push p) = none ∧ indicator false ∧
      (∀ g, (t.circuit r.circuit).ring = some g → g.key ≠ .push p) ∧
      t.offered (.callRemoved (.push p) r.number r.circuit r.level (s.placeOf (.push p)) .attend)) ∧
    (new = .press → e.present = false → t = told) ∧
    (new = .press → e.present = true → s.call (.push p) = none →
      (s.calls.length < 32 → indicator true ∧ ∃ st, (st = .waiting ∨ st = .ringing) ∧
        t.call (.push p) = some (CallRecord.mk (.push p) e.circuit e.level (.coded e.code) true st 0 1 none none s.seconds) ∧
        t.offered (.callEntered (.push p) (some e.code) e.circuit e.level (t.placeOf (.push p)) false)) ∧
      (32 ≤ s.calls.length → (∀ r ∈ s.calls, e.level ≤ r.level) →
        t = told.post (.callDropped (.push p) (some e.code) e.circuit e.level none .full))) ∧
    (∀ r, new = .press → e.present = true → s.call (.push p) = some r →
      let presses := if 15 ≤ r.presses then r.presses else r.presses + 1
      let level := if r.presses < 15 ∧ presses % 3 = 0 then max r.level (min 6 (r.level + 1)) else r.level
      let state : CallState := if r.state = .resting then .waiting else r.state
      t.offered (.callPressed p presses level state) ∧ t.image.indicators = s.image.indicators ∧ t.loop = s.loop ∧
      ∃ st, (st = state ∨ state = .waiting ∧ st = .ringing) ∧ t.call (.push p) = some { r with
        presses := presses, level := level, state := st, nextRing := if r.state = .resting then none else r.nextRing }) ∧
    onlyParts [.calls, .circuits, .image, .loop, .portC, .portF] s t

/-- R142, R143: the phases of the three patterns, with their places and lengths; R145: a fire call that joins takes a
ringing circuit at once, and an idle one before every call of another level. R134 to R136, R139, R144, R146: a phase that
has lasted its time gives way to the next of the pattern, at a stroke boundary a higher eligible call takes the circuit, a
completed ring rests or leaves the list, and the re-ring second returns a resting record to WAITING; R149: a pending mask
takes effect at the boundary. That a row which is not due leaves the state, the place CALL REMOVED carries, the level CALL
RUNG carries and the place that a GAP keeps are the MODEL's choices, notes/assumptions/2.md, 25.md, 24.md and 43.md. -/
def Obligations.RingCourse : Prop :=
  (∀ key : CallKey,
    let begun := fun p : Pattern => Machine.Ring.mk key p (firstStroke p) .on 0
    let strokes := fun (place : Nat → RingPlace) (n on off : Nat) =>
      (List.range n).flatMap fun i => [(RingPhase.on, place (i + 1), on), (RingPhase.off, place (i + 1), off)]
    let digit := fun d : Nat => if d = 0 then 10 else d
    (∀ code, 1 ≤ code → code ≤ 99 → Machine.Ring.course 60 (begun (.coded code)) =
      (if 10 ≤ code then
        strokes (.digit true) (digit (code / 10)) 150 250 ++ [(.gap, .digit true (digit (code / 10)), 800)]
      else []) ++ strokes (.digit false) (digit (code % 10)) 150 250) ∧
    Machine.Ring.course 60 (begun .closing) =
      strokes (.group 1) 3 600 400 ++ [(.gap, .group 1 3, 2000)] ++ strokes (.group 2) 3 600 400 ++
        [(.gap, .group 2 3, 2000)] ++ strokes (.group 3) 3 600 400 ∧
    ∀ n, Machine.Ring.course (2 * n) (begun .fire) = strokes (fun _ => .fire) n 1000 500) ∧
  (∀ (s : Live) (c : Nat), c < 16 → s.call (.fire c) = none → s.calls.length < 32 →
    let t := s.fireCallEnter c
    let rings := t.circuit c = { s.circuit c with ring := some ⟨.fire c, .fire, .fire, .on, 0⟩ } ∧
      (s.loop.numbered .bell c = true → t.image.sounders.read c false = true) ∧
      t.call (.fire c) = some (CallRecord.mk (.fire c) c 7 .fire false .ringing 0 0 none none s.seconds) ∧
      t.offered (.callEntered (.fire c) none c 7 (t.placeOf (.fire c)) false) ∧
      (∀ d, d ≠ c → t.circuit d = s.circuit d) ∧ onlyParts [.calls, .circuits, .image, .portC, .portF] s t
    (∀ g, (s.circuit c).ring = some g → g.pattern ≠ .fire →
      rings ∧ ∀ x, s.call g.key = some x → t.call g.key = some { x with state := .waiting }) ∧
    ((s.circuit c).ring = none → (∀ x ∈ s.calls, x.level < 7) → rings)) ∧
  (∀ (s : State) (c : Nat) (g : Ring), s.power = .on → c < 16 → (s.live.circuit c).ring = some g →
    let frame := fun t : State => changesOnly [.calls, .circuits, .image, .loop, .portC, .portF] s t
    let enters := fun (t : State) (ph : RingPhase) (pl : RingPlace) =>
      t.live.circuit c = { s.live.circuit c with ring := some ⟨g.key, g.pattern, pl, ph, 0⟩ } ∧
      (s.live.loop.numbered .bell c = true → t.live.image.sounders.read c false = (ph == .on)) ∧
      (∀ d, d ≠ c → t.live.circuit d = s.live.circuit d) ∧ t.live.calls = s.live.calls
    (g.timer < phaseLength g.pattern g.phase → exec (.phaseEnd c) s = .next s) ∧
    (phaseLength g.pattern g.phase ≤ g.timer →
      (g.phase = .on → ∃ t, exec (.phaseEnd c) s = .next t ∧ frame t ∧ enters t .off g.place) ∧
      (g.phase = .gap ∨ (g.phase = .off ∧ g.lastStroke = false) → (s.live.circuit c).pendingMask = none →
        ((∀ r, s.live.firstEligible c = some r → r.level ≤ s.live.ringLevel g) →
          ∃ t, exec (.phaseEnd c) s = .next t ∧ frame t ∧ enters t g.following.1 g.following.2) ∧
        (∀ r, s.live.firstEligible c = some r → s.live.ringLevel g < r.level → r.key ≠ g.key →
          ∃ t, exec (.phaseEnd c) s = .next t ∧ frame t ∧
            t.live.circuit c =
              { s.live.circuit c with ring := some ⟨r.key, r.pattern, firstStroke r.pattern, .on, 0⟩ } ∧
            (t.live.call r.key).map CallRecord.state = some .ringing ∧
            (∀ x, s.live.call g.key = some x → t.live.call g.key = some { x with state := .waiting }))) ∧
      (∀ m, g.phase = .gap ∨ (g.phase = .off ∧ g.lastStroke = false) → (s.live.circuit c).pendingMask = some m →
        ∃ t, exec (.phaseEnd c) s = .next t ∧ frame t ∧
          (t.live.circuit c).mask = m ∧ (t.live.circuit c).pendingMask = none ∧
          (m ≠ (s.live.circuit c).mask → t.live.offered (.circuitMask c m (s.live.circuit c).mask))) ∧
      (∀ r, g.phase = .off → g.lastStroke = true → s.live.call g.key = some r →
        ∃ t, exec (.phaseEnd c) s = .next t ∧ frame t ∧
          (r.needsAck = false → t.live.call g.key = none ∧
            t.live.offered (.callRung g.key r.circuit (r.rings + 1) r.level none) ∧
            t.live.offered (.callRemoved g.key r.number r.circuit r.level (s.live.placeOf g.key) .completed)) ∧
          (r.needsAck = true →
            let next := some (s.live.seconds + r.reRing.getD s.live.plan.geometry.reRing)
            t.live.offered (.callRung g.key r.circuit (r.rings + 1) r.level (some .resting)) ∧
            (r.rings + 1 < s.live.plan.geometry.escalationRings →
              t.live.call g.key = some { r with state := .resting, rings := r.rings + 1, nextRing := next }) ∧
            (s.live.plan.geometry.escalationRings ≤ r.rings + 1 → ∃ x, t.live.call g.key = some x ∧
              x.state = .resting ∧ x.rings = 0 ∧ x.nextRing = next ∧ x.level = max r.level (min 6 (r.level + 1)) ∧
              (∀ q, g.key = .push q → x.circuit = ((s.live.plan.push q).escalation).getD r.circuit) ∧
              ((∀ q, g.key ≠ .push q) → x.circuit = r.circuit) ∧
              t.live.offered (.callEscalated g.key x.level x.circuit r.circuit)))))) ∧
  (∀ (s : State) (key : CallKey) (r : CallRecord) (n : Nat), s.power = .on → s.live.call key = some r →
    r.state = .resting → r.nextRing = some n →
    (s.live.seconds < n → exec (.reRing key) s = .next s) ∧
    (n ≤ s.live.seconds → ∃ t st, exec (.reRing key) s = .next t ∧ (st = .waiting ∨ st = .ringing) ∧
      t.live.call key = some { r with state := st, nextRing := none } ∧
      ((s.live.circuit r.circuit).ring.isSome = true → st = .waiting ∧ t.live.circuits = s.live.circuits) ∧
      changesOnly [.calls, .circuits, .image] s t))

/-! ## What each command does: speech -/

/-- R156, R157, R161, R164, R168: SPEAK is refused in the order of its checks, waits in the queue while both players are
at work, a CLOSING request before the GENERAL ones and displacing the last of them from a full queue, and is taken up by an
idle player; SPEAK CANCEL takes a request out of the queue or stops its play. R161: a grant pass takes the first request of
the queue whose channels are free and in no request before it, player A before player B. That the place in the queue counts
from 0 is the MODEL's choice, notes/assumptions/49.md. -/
def Obligations.SpeakRequestsEffect : Prop :=
  (∀ (p : Port) (s : State) (f : SpeakFields), s.canTake p .speak →
    let tag := s.live.speech.nextTag
    let after := if 65535 ≤ tag then 1 else tag + 1
    let queue := s.live.speech.queue
    let entry := fun c : SpeakClass => SpeakRequest.mk tag f.script f.channels c f.context
      (f.number.map fun n => min n 60) (portOrigin p) s.live.seconds
    let refused := fun r : Result => exec (.speak p (.fits f)) s =
      .next ((s.loadClosed p).served p .speak r .none)
    (p = .f → f.cls ≠ some .general → refused .notPermitted) ∧
    ((p = .c ∨ f.cls = some .general) → f.inRange = false → refused .badValue) ∧
    ((p = .c ∨ f.cls = some .general) → f.inRange = true →
      ((s.live.plan.script f.script).present = false ∨ (∃ ch ∈ f.channels, s.live.loop.numbered .audio ch = false) →
        refused .noSuch) ∧
      ((s.live.plan.script f.script).present = true → (∀ ch ∈ f.channels, s.live.loop.numbered .audio ch = true) →
        f.cls = some .general →
        (8 ≤ queue.length → refused .full) ∧
        (queue.length < 8 → s.live.tagHeld tag = false →
          (s.live.idle .a = false → s.live.idle .b = false →
            ∃ t, exec (.speak p (.fits f)) s = .next t ∧
              t.replied p .speak .done (.tag tag (some queue.length)) ∧
              t.live.speech = { s.live.speech with queue := queue ++ [entry .general], nextTag := after } ∧
              changesOnly [.speech, .store, portPart p] s t) ∧
          (queue = [] → s.live.idle .a = true → (∀ ch ∈ f.channels, s.live.chanFree ch = true) →
            (∃ ch ∈ f.channels, s.live.readyInput ch = false) →
            ∃ t, exec (.speak p (.fits f)) s = .next t ∧ t.replied p .speak .done (.tag tag none) ∧
              t.live.speech.queue = [] ∧ t.live.speech.nextTag = after ∧
              (t.live.player .a).phase = .warming ∧ (t.live.player .a).request = some (entry .general) ∧
              t.live.player .b = s.live.player .b ∧
              (∀ ch ∈ f.channels, (t.live.channel ch).on = true ∧ (t.live.channel ch).holder = some .a ∧
                (t.live.channel ch).routing = none ∧ (t.live.channel ch).readiness =
                  some (if s.live.readyInput ch then .ready else .awaiting)) ∧
              changesOnly [.speech, .image, .store, portPart p] s t))) ∧
      ((s.live.plan.script f.script).present = true → (∀ ch ∈ f.channels, s.live.loop.numbered .audio ch = true) →
        p = .c → f.cls = some .closing → s.live.tagHeld tag = false → s.live.idle .a = false → s.live.idle .b = false →
        let isClosing := fun x : SpeakRequest => x.cls == .closing
        let joins := fun (q : List SpeakRequest) (t : State) => exec (.speak p (.fits f)) s = .next t ∧
          t.replied p .speak .done (.tag tag (some (q.filter isClosing).length)) ∧
          t.live.speech = { s.live.speech with
            queue := q.filter isClosing ++ [entry .closing] ++ q.filter fun x => !isClosing x
            nextTag := after } ∧
          changesOnly [.speech, .store, .portC, .portF] s t
        (queue.length < 8 → ∃ t, joins queue t) ∧
        (∀ last, 8 ≤ queue.length → queue.reverse.find? (fun x => x.cls == .general) = some last →
          ∃ t, joins (queue.filter fun x => x.tag != last.tag) t ∧
            t.live.offered (.speakDropped last.tag .general last.origin .displaced)) ∧
        (8 ≤ queue.length → (∀ x ∈ queue, x.cls ≠ .general) → ∃ t, exec (.speak p (.fits f)) s = .next t ∧
          t.replied p .speak .full .none ∧ t.live.offered (.speakDropped 0 .closing .portC .full) ∧
          changesOnly [.store, .portC, .portF] s t)))) ∧
  (∀ s : Live,
    let t := s.grants
    let tagged := (s.speech.queue.map SpeakRequest.tag).Nodup
    let free := fun r : SpeakRequest => (∀ ch ∈ r.channels, ch < 8 ∧ (s.channel ch).holder = none) ∧
      ∃ ch ∈ r.channels, s.readyInput ch = false
    let apart := fun (r : SpeakRequest) (l : List SpeakRequest) => ∀ ch ∈ r.channels, ∀ y ∈ l, ch ∉ y.channels
    let blocked := fun (l before : List SpeakRequest) => ∀ b x a, l = b ++ x :: a →
      ∃ ch ∈ x.channels, (s.channel ch).holder ≠ none ∨ ∃ y ∈ before ++ b, ch ∈ y.channels
    let warms := fun (pl : Player) (r : SpeakRequest) => (t.player pl).phase = .warming ∧
      (t.player pl).request = some r ∧ ∀ ch ∈ r.channels, (t.channel ch).on = true ∧ (t.channel ch).holder = some pl
    (s.idle .a = false → s.idle .b = false → t = s) ∧
    (blocked s.speech.queue [] → t = s) ∧
    (∀ before r after pl, s.speech.queue = before ++ r :: after → tagged → s.idle pl = true →
      s.idle (otherPlayer pl) = false → blocked before [] → free r → apart r before →
      t.speech.queue = before ++ after ∧ warms pl r ∧ (t.player pl).sequence = s.speech.nextSequence ∧
        t.player (otherPlayer pl) = s.player (otherPlayer pl) ∧
        (∀ ch, ch ∉ r.channels → t.channel ch = s.channel ch) ∧ onlyParts [.speech, .image] s t) ∧
    (∀ r mid x after, s.speech.queue = r :: mid ++ x :: after → tagged → s.idle .a = true → s.idle .b = true →
      free r → blocked mid [r] → free x → apart x (r :: mid) →
      t.speech.queue = mid ++ after ∧ warms .a r ∧ warms .b x ∧ onlyParts [.speech, .image] s t)) ∧
  (∀ (p : Port) (s : State) (n : Nat), s.canTake p .speakCancel →
    let refused := fun r : Result => exec (.speakCancel p (.fits n)) s =
      .next ((s.loadClosed p).served p .speakCancel r .none)
    let queued := s.live.speech.queue.find? fun r => r.tag == n
    (n = 0 → p = .f → refused .notPermitted) ∧
    (n = 0 → p = .c → ∃ t m, exec (.speakCancel p (.fits n)) s = .next t ∧
      t.replied p .speakCancel (.busy .fire m) .none ∧ changesOnly [.free, .store, .portC] s t) ∧
    (n ≠ 0 →
      (∀ r, queued = some r → p = .f → r.origin ≠ .portF → refused .notPermitted) ∧
      (∀ r, queued = some r → (p = .c ∨ r.origin = .portF) → s.live.idle .a = false → s.live.idle .b = false →
        ∃ t, exec (.speakCancel p (.fits n)) s = .next t ∧ t.replied p .speakCancel .done .none ∧
          t.live.speech = { s.live.speech with queue := s.live.speech.queue.filter fun x => x.tag != n } ∧
          t.live.offered (.speakAbandoned n r.cls r.origin .cancelled none) ∧
          changesOnly [.speech, .store, .portC, .portF] s t) ∧
      (queued = none → s.live.playerOf n = none → refused .noSuch) ∧
      (∀ pl r, queued = none → s.live.playerOf n = some pl → (s.live.player pl).request = some r →
        (p = .f → r.origin ≠ .portF → refused .notPermitted) ∧
        ((p = .c ∨ r.origin = .portF) → s.live.speech.queue = [] →
          ∃ t, exec (.speakCancel p (.fits n)) s = .next t ∧ t.replied p .speakCancel .done .none ∧
            (t.live.player pl).phase = .idle ∧ (t.live.player pl).request = none ∧
            (∀ ch, (s.live.channel ch).holder = some pl →
              (t.live.channel ch).holder = none ∧ (t.live.channel ch).routing = none ∧
              (t.live.channel ch).holdTimer = some 0 ∧ (t.live.channel ch).on = (s.live.channel ch).on) ∧
            t.live.offered (.speakAbandoned n r.cls r.origin .cancelled (s.live.player pl).item) ∧
            changesOnly [.speech, .image, .store, .portC, .portF] s t))))

/-- R152 to R155, R160, R164, R166, R167: the ends of items and of plays, the amplifier that does not become ready, the
amplifier that is no longer held, and the end of the evacuation entry's rest. UNSCRIPTED at the rest's end is of a state no run
reaches, since a plan changes in a quiescent part alone. That a row which is not due leaves the state, that a sample beyond
sample memory faults, and, where a phrase ends within a scan period, that the item after it begins in what is left of it (the
values of the sound, the spare samples and the pointer, and a timed item's timer at 0) are the MODEL's choices,
notes/assumptions/2.md, 31.md and 36.md, as is the arrival second of the entry's request at the end of its rest, the second of
its taking, notes/assumptions/55.md. -/
def Obligations.SpeechTimersAct : Prop :=
  ∀ (s : State), s.power = .on →
    let frame := fun t : State => changesOnly [.speech, .image, .portC, .portF] s t
    (∀ (pl : Player) (r : SpeakRequest) (i : Nat),
      (s.live.player pl).request = some r → (s.live.player pl).item = some i →
      let items := (s.live.plan.script r.script).items
      let c := s.live.player pl
      let named := fun (it : Item) (ph : Nat) => it = .phrase ph ∨
        it = .zoneName ∧ ((if r.cls = .evacuate then s.live.speech.evac.context else r.context).bind fun z =>
          (s.live.plan.zone z).namePhrase) = some ph ∨
        ∃ base n, it = .number base ∧ r.number = some n ∧ n ≠ 0 ∧ ph = base + min n 60 - 1
      let playable := fun ph : Nat => ph < 128 ∧ (s.live.plan.phrase ph).length ≠ 0
      let timedAt := fun j : Nat => ∃ it, items[j]? = some it ∧ it.timed.isSome = true
      let ends := fun (e : Instr) (spare : Nat) =>
        (timedAt (i + 1) → s.live.speech.queue = [] → ∃ t, exec e s = .next t ∧ t.live.player pl = { c with
          item := some (i + 1), pointer := none, remaining := none, itemTimer := some 0, spare := spare } ∧
          changesOnly [.speech] s t) ∧
        (∀ k, items[i + 1]? = some (.again k) → i + 1 ∉ c.taken → timedAt k → s.live.speech.queue = [] →
          ∃ t, exec e s = .next t ∧ t.live.player pl = { c with
            item := some k, taken := c.taken ++ [i + 1], pointer := none, remaining := none, itemTimer := some 0,
            spare := spare } ∧ changesOnly [.speech] s t) ∧
        (timedAt (i + 2) → s.live.speech.queue = [] →
          let passed := { c with
            item := some (i + 2), pointer := none, remaining := none, itemTimer := some 0, spare := spare }
          ((∃ k, items[i + 1]? = some (.again k) ∧ i + 1 ∈ c.taken) ∨
              (∃ it, (it = .zoneName ∨ ∃ base, it = .number base) ∧ items[i + 1]? = some it ∧ ∀ ph, ¬named it ph) →
            ∃ t, exec e s = .next t ∧ t.live.player pl = passed ∧ changesOnly [.speech] s t) ∧
          (∀ it ph, items[i + 1]? = some it → named it ph → ¬playable ph →
            ∃ t, exec e s = .next t ∧ t.live.player pl = { passed with missingPosted := true } ∧
              (c.missingPosted = false → t.live.offered (.phraseMissing r.tag ph (i + 1))) ∧
              changesOnly [.speech, .portC, .portF] s t)) ∧
        (items[i + 1]? = none → s.live.speech.queue = [] →
          ∃ t, exec e s = .next t ∧ frame t ∧ t.live.offered (.speakDone r.tag r.cls r.origin) ∧
            (t.live.player pl).phase = .idle ∧ (t.live.player pl).request = none ∧
            (∀ ch, (s.live.channel ch).holder = some pl →
              (t.live.channel ch).holder = none ∧ (t.live.channel ch).routing = none ∧
              (t.live.channel ch).holdTimer = some 0) ∧
            (r.cls = .evacuate → t.live.speech.evac.state = .resting ∧ t.live.speech.evac.restTimer = some 0) ∧
            (r.cls ≠ .evacuate → t.live.speech.evac = s.live.speech.evac))
      let begins := fun (it : Item) (ph : Nat) =>
        items[i + 1]? = some it ∧ named it ph ∧ playable ph ∧ s.live.speech.queue = []
      (∀ it d n, items[i]? = some it → it.timed = some d → (s.live.player pl).itemTimer = some n →
        (n < d → exec (.itemTimerExpiry pl) s = .next s) ∧
        (d ≤ n → ends (.itemTimerExpiry pl) c.spare ∧ ∀ next ph, begins next ph →
          ∃ t, exec (.itemTimerExpiry pl) s = .next t ∧ t.live.player pl = { c with
            item := some (i + 1), pointer := some (s.live.plan.phrase ph).start,
            remaining := some (s.live.plan.phrase ph).length, itemTimer := none } ∧ changesOnly [.speech] s t)) ∧
      (c.remaining = some 0 → ends (.phraseEnd pl) 0 ∧ ∀ next ph, begins next ph →
        let x := s.live.plan.phrase ph
        let n := min c.spare x.length
        (1048576 < x.start + n → exec (.phraseEnd pl) s = .fault .sampleAddress) ∧
        (x.start + n ≤ 1048576 → ∃ t, exec (.phraseEnd pl) s = .next t ∧ t.live.player pl = { c with
          item := some (i + 1), pointer := some (x.start + n), remaining := some (x.length - n), itemTimer := none,
          sound := c.sound ++ readSamples s.samples x.start n, spare := c.spare - n } ∧ changesOnly [.speech] s t)) ∧
      (c.remaining ≠ some 0 → exec (.phraseEnd pl) s = .next s)) ∧
    (∀ (ch : Nat) (pl : Player) (r : SpeakRequest) (n : Nat), (s.live.channel ch).holder = some pl →
      (s.live.channel ch).readiness = some .awaiting → (s.live.channel ch).waitTimer = some n →
      (s.live.player pl).request = some r → (s.live.player pl).phase ≠ .idle →
      (n < 2000 → exec (.ampWaitExpiry ch) s = .next s) ∧
      (2000 ≤ n → s.live.speech.queue = [] → ∃ t, exec (.ampWaitExpiry ch) s = .next t ∧ frame t ∧
        t.live.channel ch = ⟨(s.live.channel ch).on, none, none, none, none, some 0⟩ ∧
        t.live.offered (.ampNotReady ch r.tag .timeout) ∧
        ((∀ c, c ≠ ch → (s.live.channel c).holder ≠ some pl) →
          (t.live.player pl).phase = .idle ∧
          t.live.offered (.speakAbandoned r.tag r.cls r.origin .amplifier (s.live.player pl).item)))) ∧
    (∀ (ch n : Nat), ch < 8 → (s.live.channel ch).holder = none → (s.live.channel ch).holdTimer = some n →
      (n < 30000 → exec (.ampHoldExpiry ch) s = .next s) ∧
      (30000 ≤ n → ∃ t, exec (.ampHoldExpiry ch) s = .next t ∧
        t.live.channel ch = { s.live.channel ch with on := false, holdTimer := none } ∧
        (s.live.loop.numbered .audio ch = true → t.live.image.on.read ch false = false) ∧
        (∀ c, c ≠ ch → t.live.channel c = s.live.channel c) ∧ changesOnly [.speech, .image] s t)) ∧
    (∀ n, s.live.speech.evac.state = .resting → s.live.speech.evac.restTimer = some n →
      (n < 1000 * s.live.plan.geometry.evacRepeat → exec .evacuationRestExpiry s = .next s) ∧
      (1000 * s.live.plan.geometry.evacRepeat ≤ n → s.live.speech.queue = [] →
        (s.live.plan.geometry.evacScript = none → ∃ t, exec .evacuationRestExpiry s = .next t ∧
          t.live.speech =
            { s.live.speech with evac := { s.live.speech.evac with state := .unscripted, restTimer := none } } ∧
          changesOnly [.speech] s t) ∧
        (∀ k, s.live.plan.geometry.evacScript = some k → s.live.idle .a = true →
          (∀ ch ∈ s.live.speech.evac.channels, ch < 8 ∧ (s.live.channel ch).holder = none) →
          (∃ ch ∈ s.live.speech.evac.channels, s.live.readyInput ch = false) →
          ∃ t, exec .evacuationRestExpiry s = .next t ∧
            (t.live.player .a).phase = .warming ∧
            (t.live.player .a).request = some ⟨0, k, s.live.speech.evac.channels, .evacuate,
              s.live.speech.evac.context, none, .fireDemand, s.live.seconds⟩ ∧
            t.live.speech.evac.state = .playing ∧ t.live.speech.evac.restTimer = none ∧
            (∀ ch ∈ s.live.speech.evac.channels,
              (t.live.channel ch).on = true ∧ (t.live.channel ch).holder = some .a) ∧
            changesOnly [.speech, .image] s t)))

/-- R159, R160, R162 to R165, R167: what a change of READY does, as a scan hands it on, and what a change of the demand's
channel set and context zone does to the evacuation entry; an entry that begins stops the players that hold a channel of its
set, and, with none idle then, the one of the lower class or the later grant. A channel that leaves the set leaves the
dropped channels of both players, whatever the state of the entry: that it is both is DEDUCED, notes/assumptions/43.md. The arrival second of the entry's
request is the MODEL's choice, notes/assumptions/55.md. -/
def Obligations.ReadyAndEvacuationAct : Prop :=
  ∀ s : Live, s.speech.queue = [] →
    let released := fun ch : Nat => Channel.mk (s.channel ch).on none none none none (some 0)
    let only := fun t : Live => onlyParts [.speech, .image, .portC, .portF] s t
    (∀ (ch : Nat) (ready : Bool), let t := s.readyChange ch ready
      ((s.channel ch).holder = none → t = s) ∧
      (∀ pl r, (s.channel ch).holder = some pl → (s.player pl).request = some r → (s.player pl).phase ≠ .idle →
        ((s.channel ch).readiness = some (if ready then .ready else .awaiting) → t = s) ∧
        ((s.channel ch).readiness = some .ready → ready = false → only t ∧ t.channel ch = released ch ∧
          t.offered (.ampNotReady ch r.tag .lost) ∧
          ((∀ c, c ≠ ch → (s.channel c).holder ≠ some pl) → (t.player pl).phase = .idle ∧
            t.offered (.speakAbandoned r.tag r.cls r.origin .amplifier (s.player pl).item))) ∧
        ((s.channel ch).readiness = some .awaiting → ready = true → only t ∧
          ((s.player pl).phase = .playing → t.player pl = s.player pl ∧ t.channel ch =
            { s.channel ch with readiness := some .ready, waitTimer := none, routing := some pl }) ∧
          ((s.player pl).phase = .warming → (∃ c, c ≠ ch ∧ (s.channel c).holder = some pl ∧ s.awaits c = true) →
            t.player pl = s.player pl ∧ t.channel ch =
              { s.channel ch with readiness := some .ready, waitTimer := none, routing := none }) ∧
          (∀ it, (s.player pl).phase = .warming →
            (∀ c, c ≠ ch → (s.channel c).holder = some pl → s.awaits c = false) →
            (s.plan.script r.script).items[0]? = some it → it.timed.isSome = true →
            t.player pl = { s.player pl with phase := .playing, item := some 0, taken := [], itemTimer := some 0 } ∧
            t.channel ch = { s.channel ch with readiness := some .ready, waitTimer := none, routing := some pl })))) ∧
    (∀ (chs : List Nat) (context : Option Nat), let t := s.evacDemand chs context
      let left := fun c : PlayerContext =>
        { c with dropped := c.dropped.filter fun ch => !s.speech.evac.channels.contains ch || chs.contains ch }
      let sp := { s.speech with playerA := left s.speech.playerA, playerB := left s.speech.playerB }
      only t ∧ t.speech.evac.channels = chs ∧ t.speech.evac.context = context ∧
      (s.speech.evac.state = .resting ∨ s.speech.evac.state = .unscripted →
        (chs = [] → t.speech = { sp with evac := ⟨.inactive, [], context, none⟩ }) ∧
        (chs ≠ [] → t.speech = { sp with evac := { s.speech.evac with channels := chs, context := context } })) ∧
      (s.speech.evac.state = .inactive → chs ≠ [] →
        (s.plan.geometry.evacScript = none →
          t.speech = { sp with evac := ⟨.unscripted, chs, context, none⟩ }) ∧
        (∀ k, s.plan.geometry.evacScript = some k → s.idle .a = true →
          (∀ ch ∈ chs, ch < 8 ∧ (s.channel ch).holder = none) → (∃ ch ∈ chs, s.readyInput ch = false) →
          (t.player .a).phase = .warming ∧ (t.player .a).request =
            some ⟨0, k, chs, .evacuate, context, none, .fireDemand, s.seconds⟩ ∧
          t.speech.evac.state = .playing ∧ t.speech.evac.restTimer = none ∧
          (∀ ch ∈ chs, (t.channel ch).on = true ∧ (t.channel ch).holder = some .a))) ∧
      (∀ k, s.speech.evac.state = .inactive → s.plan.geometry.evacScript = some k → Channels s →
        (∀ ch ∈ chs, ch < 8) → (∃ ch ∈ chs, s.readyInput ch = false) →
        let hit := fun pl : Player => ∃ ch ∈ chs, (s.channel ch).holder = some pl
        let cut := fun pl : Player => ∀ x, (s.player pl).request = some x →
          t.offered (.speakAbandoned x.tag x.cls x.origin .preempted (s.player pl).item) ∧
          ∀ ch, ch ∉ chs → (s.channel ch).holder = some pl → t.channel ch = released ch
        let entry := fun pl : Player => (t.player pl).phase = .warming ∧
          (t.player pl).request = some ⟨0, k, chs, .evacuate, context, none, .fireDemand, s.seconds⟩ ∧
          t.speech.evac = ⟨.playing, chs, context, none⟩ ∧
          ∀ ch ∈ chs, (t.channel ch).on = true ∧ (t.channel ch).holder = some pl
        (∀ pl, hit pl → cut pl) ∧
        (hit .a ∨ s.idle .a = true → entry .a ∧ (hit .b → (t.player .b).phase = .idle) ∧
          (¬hit .b → t.player .b = left (s.player .b))) ∧
        (¬hit .a → s.idle .a = false → hit .b ∨ s.idle .b = true → entry .b ∧ t.player .a = left (s.player .a)) ∧
        (∀ x y, ¬hit .a → ¬hit .b → (s.player .a).request = some x → (s.player .b).request = some y →
          let lesser := if SpeakClass.rank x.cls < SpeakClass.rank y.cls then Player.a
            else if SpeakClass.rank y.cls < SpeakClass.rank x.cls then .b
            else if (s.player .a).sequence < (s.player .b).sequence then .b else .a
          cut lesser ∧ entry lesser ∧ t.player (otherPlayer lesser) = left (s.player (otherPlayer lesser)))) ∧
      (∀ pl r, s.speech.evac.state = .playing → s.evacPlayer = some pl → (s.player pl).request = some r →
        (chs = [] → t.speech.evac.state = .inactive ∧ (t.player pl).phase = .idle ∧
          t.offered (.speakAbandoned r.tag r.cls r.origin .demand (s.player pl).item) ∧
          (∀ p, (t.player p).dropped = (left (s.player p)).dropped) ∧
          (∀ ch, (s.channel ch).holder = some pl → t.channel ch = released ch)) ∧
        (chs ≠ [] → (s.player pl).phase = .playing → (∃ ch ∈ chs, (s.channel ch).holder = some pl) →
          t.speech.evac.state = .playing ∧
          t.player pl = { left (s.player pl) with request := some { r with channels := chs, context := context } } ∧
          (∀ ch, (s.channel ch).holder = some pl → ch ∉ chs → t.channel ch = released ch) ∧
          (∀ ch ∈ chs, ch < 8 → (s.channel ch).holder = some pl ∨ ch ∉ (s.player pl).dropped →
            (t.channel ch).holder = some pl) ∧
          (∀ x, (∀ ch ∈ chs, (s.channel ch).holder = some (otherPlayer pl) → ch ∈ (s.player pl).dropped) →
            t.player (otherPlayer pl) = left (s.player (otherPlayer pl)) ∧
            (x ∈ chs → (s.channel x).holder ≠ some pl → x ∈ (s.player pl).dropped → t.channel x = s.channel x)) ∧
          (∀ ch x, ch ∈ chs → (s.channel ch).holder = some (otherPlayer pl) → ch ∉ (s.player pl).dropped →
            (s.player (otherPlayer pl)).request = some x → (t.player (otherPlayer pl)).phase = .idle ∧
              t.offered (.speakAbandoned x.tag x.cls x.origin .preempted (s.player (otherPlayer pl)).item)))))

/-! ## What each command does: the closing programme -/

/-- R171, R172, R178 to R181, R183: the requests of the closing programme, and the step that is due. That RESUME is
refused for its state before an alarm, that CLOSING_STEP_DUE is a row apart from SECONDS_TICK and takes every step that
is due, and that a row which is not due leaves the state are the MODEL's choices, notes/assumptions/35.md, 33.md and
2.md. The subjects of BUSY STATE are free values, notes/assumptions/12.md. -/
def Obligations.ClosingProgramme : Prop :=
  ∀ (s : State),
    let refused := fun (i : Instr) (k : Kind) (r : Result) =>
      exec i s = .next ((s.loadClosed .c).served .c k r .none)
    let busyState := fun (i : Instr) (k : Kind) => ∃ t m, exec i s = .next t ∧
      t.replied .c k (.busy .state m) .none ∧ changesOnly [.free, .store, .portC] s t
    let due := fun (i close : Nat) => ((close : Int) + (s.live.plan.step i).offset)
    let step := fun i : Nat => decide (i < 24) && (s.live.plan.step i).present
    (s.canTake .c .closingBegin → ∀ n,
      (n < 60 ∨ 7200 < n → refused (.closingBegin .c (.fits n)) .closingBegin .badValue) ∧
      (60 ≤ n → n ≤ 7200 →
        ((∀ i, step i = false) → refused (.closingBegin .c (.fits n)) .closingBegin .noSuch) ∧
        ((∃ i, step i = true) →
          (s.live.closing.state ≠ .idle → busyState (.closingBegin .c (.fits n)) .closingBegin) ∧
          (s.live.closing.state = .idle →
            (∀ z, s.live.lowestAlarm = some z →
              refused (.closingBegin .c (.fits n)) .closingBegin (.busy .zone z)) ∧
            (s.live.lowestAlarm = none →
              (∀ i, step i = true → (s.live.seconds : Int) < due i (s.live.seconds + n)) →
              ∃ t, exec (.closingBegin .c (.fits n)) s = .next t ∧
                t.replied .c .closingBegin .done (.closeInstant (s.live.seconds + n)) ∧
                t.live.closing.state = .running ∧ t.live.closing.closeInstant = some (s.live.seconds + n) ∧
                (∀ i, i < 24 → t.live.closing.mark i = if step i then some .pending else none) ∧
                t.live.closing.pointer = (List.range 24).find? step ∧
                t.live.offered (.programmeState .running (some (s.live.seconds + n)) .begin) ∧
                changesOnly [.closing, .store, .portC, .portF] s t))))) ∧
    (s.canTake .c .closingPostpone → ∀ n,
      (n < 60 ∨ 3600 < n → refused (.closingPostpone .c (.fits n)) .closingPostpone .badValue) ∧
      (60 ≤ n → n ≤ 3600 →
        (s.live.closing.state ≠ .running → busyState (.closingPostpone .c (.fits n)) .closingPostpone) ∧
        (∀ close, s.live.closing.state = .running → s.live.closing.closeInstant = some close →
          (∀ i, s.live.nightClosed = some i →
            refused (.closingPostpone .c (.fits n)) .closingPostpone (.busy .nightClose i)) ∧
          (s.live.nightClosed = none → ∃ t, exec (.closingPostpone .c (.fits n)) s = .next t ∧
            t.replied .c .closingPostpone .done (.closeInstant (close + n)) ∧
            t.live.closing = { s.live.closing with closeInstant := some (close + n) } ∧
            t.live.offered (.programmeState .running (some (close + n)) .postpone) ∧
            changesOnly [.closing, .store, .portC, .portF] s t)))) ∧
    (s.canTake .c .closingAbort →
      (s.live.closing.state = .idle → busyState (.closingAbort .c (.fits ())) .closingAbort) ∧
      (s.live.closing.state ≠ .idle → ∃ t, exec (.closingAbort .c (.fits ())) s = .next t ∧
        t.replied .c .closingAbort .done .none ∧
        t.live.closing = { s.live.closing with state := .idle, closeInstant := none, pointer := none } ∧
        (∀ r ∈ t.live.calls, isProgramme r = false) ∧ (∀ r ∈ t.live.speech.queue, r.cls ≠ .closing) ∧
        (s.live.chain.state = .running → t.live.chain.sweep = none) ∧
        (s.live.chain.state = .warning → t.live.chain.carriedLoops = none) ∧
        t.live.chain.state = s.live.chain.state ∧ t.live.chain.drive = s.live.chain.drive ∧
        t.live.offered (.programmeState .idle none .abort) ∧
        changesOnly [.closing, .calls, .circuits, .speech, .chain, .image, .loop, .store, .portC, .portF] s t)) ∧
    (s.canTake .c .closingResume →
      (s.live.closing.state ≠ .suspended → busyState (.closingResume .c (.fits ())) .closingResume) ∧
      (s.live.closing.state = .suspended →
        (∀ z, s.live.lowestAlarm = some z →
          refused (.closingResume .c (.fits ())) .closingResume (.busy .zone z)) ∧
        (∀ close i, s.live.lowestAlarm = none → s.live.closing.closeInstant = some close →
          s.live.closing.pointer = some i → (s.live.seconds : Int) < due i close →
          ∃ t, exec (.closingResume .c (.fits ())) s = .next t ∧ t.replied .c .closingResume .done .none ∧
            t.live.closing = { s.live.closing with state := .running } ∧
            t.live.offered (.programmeState .running (some close) .resume) ∧
            changesOnly [.closing, .store, .portC, .portF] s t))) ∧
    (∀ close i, s.power = .on → s.live.closing.state = .running → s.live.closing.closeInstant = some close →
      s.live.closing.pointer = some i → i < 24 →
      let kind := (s.live.plan.step i).kind
      ((s.live.seconds : Int) < due i close → exec .closingStepDue s = .next s) ∧
      (due i close ≤ s.live.seconds → ∃ t, exec .closingStepDue s = .next t ∧
        ((t.live.closing.mark i = some .executed ∧ ∃ r, t.live.offered (.programmeStep i kind r)) ∨
          (t.live.closing.mark i = some .skipped ∧ (kind = .sweep ∨ kind = .park) ∧
            ∃ r, t.live.offered (.stepSkipped i kind r))) ∧
        ((∀ j, j < 24 → j ≠ i → s.live.closing.mark j ≠ some .pending) →
          t.live.closing.state = .idle ∧ t.live.closing.closeInstant = none ∧ t.live.closing.pointer = none ∧
          t.live.offered (.programmeDone (t.live.closing.countOf .executed) (t.live.closing.countOf .skipped))) ∧
        changesOnly [.closing, .calls, .circuits, .speech, .chain, .monitor, .gear, .image, .loop, .portC, .portF]
          s t))

/-- R67, R69, R173 to R177, R179, R182: what a step of each kind does when it is executed, and when the chain skips a SWEEP
or a PARK; which late steps the catch-up of a BEGIN or a RESUME skips; and what the suspension at an alarm does. That the
chain state that answers a SWEEP or a PARK is the state after it is the MODEL's choice, notes/assumptions/43.md. -/
def Obligations.ClosingStepsAct : Prop :=
  (∀ (s : Live) (i close : Nat),
    let e := s.plan.step i
    let t := (s.executeStep i close).1
    let taken := (s.executeStep i close).2
    let circuits := e.circuits.getD []
    let tag := s.speech.nextTag
    let entry : SpeakRequest := ⟨tag, e.script.getD 0, e.channels.getD [], .closing, none,
      if close ≤ s.seconds then none else some (min 60 ((close - s.seconds + 59) / 60)), .programme i, s.seconds⟩
    (e.kind = .announce → onlyParts [.speech, .image, .portC, .portF] s t ∧
      (s.speech.queue.length < 8 → s.tagHeld tag = false → s.idle .a = false → s.idle .b = false →
        taken = .executed (.tag tag) ∧ t.speech = { s.speech with
          queue := s.speech.queue.filter (fun x => x.cls == .closing) ++ [entry] ++
            s.speech.queue.filter fun x => x.cls != .closing
          nextTag := if 65535 ≤ tag then 1 else tag + 1 }) ∧
      (8 ≤ s.speech.queue.length → (∀ x ∈ s.speech.queue, x.cls ≠ .general) →
        taken = .executed (.tag 0) ∧ t = s.post (.speakDropped 0 .closing (.programme i) .full)) ∧
      (∀ last, 8 ≤ s.speech.queue.length → s.speech.queue.reverse.find? (fun x => x.cls == .general) = some last →
        t.offered (.speakDropped last.tag .general last.origin .displaced))) ∧
    (e.kind = .bell → onlyParts [.calls, .circuits, .image, .loop, .portC, .portF] s t ∧
      (s.calls.length ≤ 16 →
        taken = .executed (.calls ((List.range 16).filter fun c =>
          circuits.contains c && (s.call (.programme i c)).isNone).length) ∧
        (∀ c, c < 16 → c ∈ circuits → s.call (.programme i c) = none → ∃ st, (st = .waiting ∨ st = .ringing) ∧
          t.call (.programme i c) =
            some (CallRecord.mk (.programme i c) c 5 .closing false st 0 0 none none s.seconds)))) ∧
    (e.kind = .nightClose → onlyParts [.gear, .image, .loop, .monitor, .chain, .portC, .portF] s t ∧
      (let sent := fun k => (s.plan.shutter k).present && (e.zones.getD []).contains (s.plan.shutter k).home &&
        (s.shutter k).state.nightEligible
       taken = .executed (.requests ((List.range 32).filter sent).length) ∧
       (0 < s.plan.geometry.nightWarning → ∀ k, k < 32 → sent k = true → s.limitsJammed k = false →
         t.shutter k = armedRecord .night) ∧
       (∀ k, k < 32 → sent k = true → s.limitsJammed k = true → t.shutter k = s.shutter k))) ∧
    (e.kind = .mask → onlyParts [.calls, .circuits, .image, .portC, .portF] s t ∧
      taken = .executed (.level (e.level.getD 0)) ∧
      (∀ c, c < 16 → c ∈ circuits →
        ((s.circuit c).ring = none → (t.circuit c).mask = e.level.getD 0 ∧ (t.circuit c).pendingMask = none ∧
          (e.level.getD 0 ≠ (s.circuit c).mask → t.offered (.circuitMask c (e.level.getD 0) (s.circuit c).mask))) ∧
        (∀ g, (s.circuit c).ring = some g →
          t.circuit c = { s.circuit c with pendingMask := some (e.level.getD 0) })) ∧
      (∀ c, c ∉ circuits → t.circuit c = s.circuit c)) ∧
    (e.kind = .sweep →
      let loops := s.plan.geometry.sweepLoops
      let links := loops * s.plan.geometry.loopLength
      let starts := s.sillNotOpen = none ∧ s.chain.flapTop = false ∧ s.chain.flapBottom = false ∧
        s.alarmWithLanding = none
      let takes := fun c : ChainDrive => t.chain = c ∧ taken = .executed (.chain c.state)
      let sounds := ∀ g, g < 8 → t.image.gongs.read g false =
        (s.loop.gongNumbered g && decide (g < s.plan.geometry.landings.length))
      onlyParts [.chain, .monitor, .gear, .image, .loop, .portC, .portF] s t ∧
      (s.chain.state = .running → s.chain.deferred = none →
        (s.chain.sweep = none →
          takes { s.chain with sweep := some links, gongTimer := some 0, gongsOn := true } ∧ sounds) ∧
        (s.chain.sweep ≠ none → takes { s.chain with sweep := some links } ∧ t.image = s.image)) ∧
      (s.chain.state = .parked → starts → takes { s.chain with
        state := .warning, warnTimer := some 0, carriedLoops := some loops, gongsOn := true } ∧ sounds ∧
        t.offered (.chainState .warning)) ∧
      (s.chain.state = .warning → takes { s.chain with carriedLoops := some loops } ∧ t.image = s.image) ∧
      ((s.chain.state = .running ∧ s.chain.deferred ≠ none) ∨ (s.chain.state = .parked ∧ ¬starts) ∨
          (∃ c ph, s.chain.state = .stopping c ph) ∨ (∃ c, s.chain.state = .held c) ∨ s.chain.state = .fault ∨
          (∃ x, s.chain.state = .inspection x) →
        t = s ∧ taken = .skipped (.chain s.chain.state))) ∧
    (e.kind = .park →
      let r := Machine.placeStop s.plan s.store.fullClear s.monitor.count s.monitor.speed
      let gongsStop := t.chain.sweep = none ∧
        (s.chain.sweep ≠ none → t.chain.gongTimer = none ∧ t.chain.gongsOn = false)
      onlyParts [.chain, .monitor, .gear, .image, .loop, .portC, .portF] s t ∧
      (s.chain.state = .running → s.chain.deferred = none →
        (s.monitor.position = .valid → gongsStop ∧ t.chain.stop = some r ∧
          taken = .executed (.chain t.chain.state) ∧
          if r.decel < r.linksToGo then t.chain.state = .stopping .park .approach ∧ t.chain.drive = s.chain.drive
          else t.chain.state = .stopping .park .creeping ∧ t.chain.drive = .creep) ∧
        (s.monitor.position ≠ .valid → gongsStop ∧ t.chain.deferred = some .park ∧ t.chain.state = .running ∧
          t.chain.drive = s.chain.drive ∧ t.offered (.stopDeferred .park) ∧ taken = .executed (.chain .running))) ∧
      (s.chain.state = .parked → t = s ∧ taken = .executed (.chain .parked)) ∧
      ((s.chain.state = .running ∧ s.chain.deferred ≠ none) ∨ s.chain.state = .warning ∨
          (∃ c ph, s.chain.state = .stopping c ph) ∨ (∃ c, s.chain.state = .held c) ∨ s.chain.state = .fault ∨
          (∃ x, s.chain.state = .inspection x) →
        t = s ∧ taken = .skipped (.chain s.chain.state))) ∧
    ((s.dueSecond i close < s.seconds ∧ (e.kind = .announce ∨ e.kind = .bell) →
      s.takeStep i close true = (s, .skipped .late)) ∧
     ((s.seconds : Int) ≤ s.dueSecond i close ∨ (e.kind ≠ .announce ∧ e.kind ≠ .bell) →
      s.takeStep i close true = (t, taken)))) ∧
  (∀ (s : State) (i : Nat), i < 24 → s.live.lowestAlarm = none →
    let kind := (s.live.plan.step i).kind
    let due := fun close : Nat => (close : Int) + (s.live.plan.step i).offset
    let caughtUp := fun (t : State) (close : Nat) =>
      let late := due close < s.live.seconds ∧ (kind = .announce ∨ kind = .bell)
      (late → t.live.closing.mark i = some .skipped ∧ t.live.offered (.stepSkipped i kind .late)) ∧
      (¬late → (t.live.closing.mark i = some .executed ∧ ∃ r, t.live.offered (.programmeStep i kind r)) ∨
        (t.live.closing.mark i = some .skipped ∧ (kind = .sweep ∨ kind = .park) ∧
          ∃ r, t.live.offered (.stepSkipped i kind r)))
    (∀ close, s.canTake .c .closingResume → s.live.closing.state = .suspended →
      s.live.closing.closeInstant = some close → s.live.closing.pointer = some i → due close ≤ s.live.seconds →
      ∃ t, exec (.closingResume .c (.fits ())) s = .next t ∧ t.replied .c .closingResume .done .none ∧
        caughtUp t close) ∧
    (∀ n, s.canTake .c .closingBegin → 60 ≤ n → n ≤ 7200 → s.live.closing.state = .idle →
      ((List.range 24).find? fun j => (s.live.plan.step j).present) = some i →
      due (s.live.seconds + n) ≤ s.live.seconds →
      ∃ t, exec (.closingBegin .c (.fits n)) s = .next t ∧
        t.replied .c .closingBegin .done (.closeInstant (s.live.seconds + n)) ∧
        caughtUp t (s.live.seconds + n))) ∧
  (∀ s : Live, let t := s.suspendClosing
    (s.closing.state ≠ .running → t = s) ∧
    (s.closing.state = .running → t.closing = { s.closing with state := .suspended } ∧
      (∀ r ∈ t.calls, isProgramme r = false) ∧ (∀ r ∈ t.speech.queue, r.cls ≠ .closing) ∧
      t.offered (.programmeState .suspended s.closing.closeInstant .fire) ∧
      onlyParts [.closing, .calls, .circuits, .speech, .image, .loop, .portC, .portF] s t))

/-! ## What each command does: the scan, the pins and the supply -/

/-- R3, R8 to R11: a scan judges each module by its reply; the first sample after blanking. What the 10 ms of a scan do at
every timer of every block (R40, R42, R65, R68, R101, R104, R109, R111, R113, R139, R155, R160, R164, R166, R187) and the
samples of a phrase they put out (R152): Live.advance, which each scan applies before the exchanges, and which at a loop of
no module is all the scan does but for the inputs. That SCAN passes 10 ms and a timer stands at its limit, that a
travel timer runs one period past it, that the ends of blanking are rows of their own with no effect when they are not due,
that a sample beyond sample memory faults, and the samples left in a period are the MODEL's choices, notes/assumptions/1.md,
22.md, 21.md, 2.md, 31.md and 36.md, as is that the bytes of a sample write come first, 14.md. -/
def Obligations.ScanAndBlanking : Prop :=
  ∀ (s : State), s.power = .on →
    (∀ i : ScanInput, s.live.scanInMemory = false → exec (.scan i) s = .fault .sampleAddress) ∧
    (∀ i : ScanInput, s.live.scanInMemory = true → ∃ t, exec (.scan i) s = .next t ∧
      (∀ pos m, s.live.loop.modules[pos]? = some m →
        let reply := i.replies.getD pos none
        let after := fun n : ModuleRecord => t.live.loop.modules[pos]? = some n
        (∀ r, reply = some r → replyKind r = m.kind → after { m with present := true, missed := 0 } ∧
          (m.present = false → t.live.offered (.moduleFound pos m.kind))) ∧
        ((∀ r, reply = some r → replyKind r ≠ m.kind) →
          (m.present = true → m.missed < 2 → after { m with missed := m.missed + 1 }) ∧
          (m.present = true → 2 ≤ m.missed → after { m with present := false, missed := 3 } ∧
            t.live.offered (.moduleLost pos m.kind)) ∧
          (m.present = false → after m))) ∧
      (s.live.loop.modules = [] → i.pins.flapTop = s.live.loop.flapTop.value →
        i.pins.flapBottom = s.live.loop.flapBottom.value → i.pins.slow = s.live.loop.slow.value →
        (let w := s.writeSamples i.bytesWritten
         onlyParts [.loop] (w.live.advance w.samples) t.live) ∧
        (∀ n, s.live.monitor.settleTimer = some n → n ≤ 990 → t.live.monitor.settleTimer = some (n + 10)) ∧
        (∀ n, s.live.chain.warnTimer = some n → n + 10 ≤ 1000 * s.live.plan.geometry.startWarning →
          t.live.chain.warnTimer = some (n + 10)) ∧
        changesOnly [.loop, .gear, .circuits, .speech, .chain, .monitor, .store, .portC, .portF]
          { s with samples := t.samples } t) ∧
      t.nv = s.nv ∧ t.pending = s.pending) ∧
    (∀ p, p < 64 → ((s.live.pushInput p).blank ≠ some 0 → ∀ x, exec (.pushBlankingEnd p x) s = .next s) ∧
      ((s.live.pushInput p).blank = some 0 →
        (∃ t, exec (.pushBlankingEnd p .press) s = .next t ∧
          (t.live.pushInput p).line.value = .press ∧
          ((s.live.plan.push p).present = true → s.live.call (.push p) = none → s.live.calls.length < 32 →
            ∃ r, t.live.call (.push p) = some r ∧ r.presses = 1 ∧ r.level = (s.live.plan.push p).level ∧
              r.circuit = (s.live.plan.push p).circuit) ∧
          changesOnly [.loop, .calls, .circuits, .image, .portC, .portF] s t) ∧
        ((s.live.pushInput p).line.value ≠ .press →
          ∃ t, exec (.pushBlankingEnd p (s.live.pushInput p).line.value) s = .next t ∧
            t.live.pushInput p = ⟨{ (s.live.pushInput p).line with run := 0 }, none⟩ ∧
            changesOnly [.loop] s t))) ∧
    (∀ k, k < 32 → let e := s.live.input k
      (e.blank ≠ some 0 → ∀ x, exec (.edgeBlankingEnd k x) s = .next s) ∧
      (e.blank = some 0 →
        (∃ t, exec (.edgeBlankingEnd k e.edge.value) s = .next t ∧
          t.live.input k = { e with edge := { e.edge with run := 0 }, blank := none } ∧ changesOnly [.loop] s t) ∧
        (∀ x, x ≠ e.edge.value → e.edge.run = 0 → ∃ t, exec (.edgeBlankingEnd k x) s = .next t ∧
          t.live.input k = { e with edge := ⟨e.edge.value, x, 1⟩, blank := none } ∧ changesOnly [.loop] s t))) ∧
    (∀ m : List Host.Cell, let l := s.live
      let t := l.advance m
      let g := l.plan.geometry
      let runs := fun (limit : Nat) (x y : Option Nat) =>
        (x = none → y = none) ∧ (∀ n, x = some n → n ≤ limit → y = some (min limit (n + 10)))
      onlyParts [.gear, .circuits, .speech, .chain, .monitor, .portC, .portF] l t ∧
      t.gear = { l.gear with records := t.gear.records } ∧
      (∀ k, k < 32 → let r := l.shutter k
        let u := t.shutter k
        let e := l.plan.shutter k
        u = { r with
          warnTimer := u.warnTimer, holdTimer := u.holdTimer, travelTimer := u.travelTimer, phaseTimer := u.phaseTimer } ∧
        runs (1000 * if r.warnNight then g.nightWarning else g.fireWarning) r.warnTimer u.warnTimer ∧
        runs (1000 * g.holdOff) r.holdTimer u.holdTimer ∧
        (r.state = .descending → runs (1000 * e.descentLimit + 10) r.travelTimer u.travelTimer) ∧
        (r.state = .raising → runs (2000 * e.descentLimit + 10) r.travelTimer u.travelTimer) ∧
        (r.state ≠ .descending → r.state ≠ .raising → u.travelTimer = r.travelTimer) ∧
        (r.state = .lifting → runs e.retract r.phaseTimer u.phaseTimer) ∧
        (r.state = .paused → runs (1000 * e.pause) r.phaseTimer u.phaseTimer) ∧
        (r.state ≠ .lifting → r.state ≠ .paused → u.phaseTimer = r.phaseTimer)) ∧
      (∀ c, c < 16 → t.circuit c = { l.circuit c with ring := (t.circuit c).ring } ∧
        ((l.circuit c).ring = none → (t.circuit c).ring = none) ∧
        (∀ x, (l.circuit c).ring = some x → x.timer ≤ phaseLength x.pattern x.phase →
          (t.circuit c).ring = some { x with timer := min (phaseLength x.pattern x.phase) (x.timer + 10) })) ∧
      (∀ ch, ch < 8 → let c := l.channel ch
        let d := t.channel ch
        d = { c with waitTimer := d.waitTimer, holdTimer := d.holdTimer } ∧
        runs 2000 c.waitTimer d.waitTimer ∧ runs 30000 c.holdTimer d.holdTimer) ∧
      t.speech = { l.speech with
        playerA := t.speech.playerA, playerB := t.speech.playerB, channels := t.speech.channels
        evac := { l.speech.evac with restTimer := t.speech.evac.restTimer } } ∧
      runs (1000 * g.evacRepeat) l.speech.evac.restTimer t.speech.evac.restTimer ∧
      (∀ pl, let c := l.player pl
        let d := t.player pl
        d = { c with pointer := d.pointer, remaining := d.remaining, itemTimer := d.itemTimer, sound := d.sound,
                     spare := d.spare } ∧
        runs 5000 c.itemTimer d.itemTimer ∧
        (c.pointer = none → d.pointer = none ∧ d.remaining = c.remaining ∧ d.sound = []) ∧
        (∀ a n, c.pointer = some a → c.remaining = some n →
          d.sound = (List.range (min 80 n)).map (fun j => readSample m (a + j)) ∧
          d.pointer = some (a + min 80 n) ∧ d.remaining = some (n - min 80 n) ∧ d.spare = 80 - min 80 n)) ∧
      t.chain = { l.chain with
        warnTimer := t.chain.warnTimer, stallTimer := t.chain.stallTimer, gongTimer := t.chain.gongTimer } ∧
      runs (1000 * g.startWarning) l.chain.warnTimer t.chain.warnTimer ∧
      runs g.stallTime l.chain.stallTimer t.chain.stallTimer ∧ runs 5000 l.chain.gongTimer t.chain.gongTimer ∧
      t.monitor = { l.monitor with settleTimer := t.monitor.settleTimer, intervalTimer := t.monitor.intervalTimer } ∧
      runs 1000 l.monitor.settleTimer t.monitor.settleTimer ∧
      (l.monitor.intervalTimer = none → t.monitor.intervalTimer = none) ∧
      (∀ n : Int, l.monitor.intervalTimer = some n → n ≤ 65535 →
        t.monitor.intervalTimer = some (min 65535 (n + 100))) ∧
      (∀ p, t.port p = { l.port p with gap := (t.port p).gap } ∧
        ((l.port p).gap ≤ 40 → (t.port p).gap = min 40 ((l.port p).gap + 10))))

/-- R3, R8 to R12, R117, R127: the message of a scan carries the output image as it stands when the module's turn comes; a
blanked line's samples are discarded and its run count held at 0 from the scan that carries the change on; a lost
module's points take their lost values; a reply's samples are debounced one by one, each change handed to the block that owns the
input. The MODEL's choices: that 10 ms pass and the bytes of a sample write come first (notes/assumptions/1.md and 14.md),
that the pins come after the modules (19.md), that a reply's points, and a shutter's inputs, are taken in that order (20.md),
that the first sample after blanking is a scan's (21.md), that the scans of a missing module pass its blanking as any scan
does (43.md), and that an indicator or BRAKE changed and changed back between two messages blanks all the same (44.md). -/
def Obligations.ScanSendsAndBlanks : Prop :=
  (∀ (s : State) (i : ScanInput), s.power = .on → s.live.scanInMemory = true →
    let w := s.writeSamples i.bytesWritten
    let before := fun n : Nat => (List.range n).foldl (fun u pos => u.scanModule pos (i.replies.getD pos none))
      (w.live.advance w.samples)
    ∃ t, exec (.scan i) s = .next t ∧ t.live = (before s.live.loop.modules.length).scanPins i.pins ∧
      ∀ pos m, pos < 40 → s.live.loop.modules[pos]? = some m →
        t.live.loop.sent.read pos none = some ((before pos).image.messageTo m)) ∧
  (∀ (g : Image) (f missed : Nat) (present : Bool),
    let message := fun k => g.messageTo ⟨k, present, missed, some f⟩
    message .call = .call ((List.range 8).map fun j => g.indicators.read (f + j) false) ∧
    message .shutter = .shutter ((List.range 2).map fun j => ⟨g.release.read (f + j) false,
      g.brake.read (f + j) false, g.wind.read (f + j) false, g.warn.read (f + j) false⟩) ∧
    message .bell = .bell ((List.range 8).map fun j => g.sounders.read (f + j) false)
      ((List.range 8).map fun j => decide (f = 0) && g.gongs.read j false) ∧
    message .audio = .audio ((List.range 4).map fun j => ⟨g.on.read (f + j) false, g.selA.read (f + j) false,
      g.selB.read (f + j) false⟩)) ∧
  (∀ (s : Live) (p : Nat) (on : Bool), p < 64 → s.loop.numbered .call p = true →
    let t := s.writeIndicator p on
    t.image.indicators.read p false = on ∧ (t.pushInput p).line = (s.pushInput p).line ∧
    (t.pushInput p).blank =
      if s.image.indicators.read p false ≠ on ∧ s.loop.presentAt .call p = true then some 5 else (s.pushInput p).blank) ∧
  (∀ (s : Live) (k : Nat) (st : ShutterState), k < 32 → s.loop.numbered .shutter k = true →
    let t := s.writeGear k st
    (t.input k).edge = (s.input k).edge ∧ (t.input k).blank =
      if s.image.brake.read k false = false ∧ (gearOutputs st).2.1 = true ∧ s.loop.presentAt .shutter k = true then some 3
      else (s.input k).blank) ∧
  (∀ (s : Live) (pos f j n : Nat) (m : ModuleRecord), s.loop.modules[pos]? = some m → m.first = some f →
    (m.kind = .call → j < 8 → f + 8 ≤ 64 → (s.pushInput (f + j)).blank = some (n + 1) →
      let held := { (s.pushInput (f + j)).line with run := 0 }
      (∀ xs, xs.length = 8 → let i := (s.scanModule pos (some (.call xs))).pushInput (f + j)
        i.line = held ∧ (i.blank = some n ∨ i.blank = some 5)) ∧
      (m.missed < 2 ∨ m.present = false → (s.scanModule pos none).pushInput (f + j) = ⟨held, some n⟩)) ∧
    (m.kind = .shutter → j < 2 → f + 2 ≤ 32 → (s.input (f + j)).blank = some (n + 1) →
      let held := { (s.input (f + j)).edge with run := 0 }
      (∀ xs, xs.length = 2 → let i := (s.scanModule pos (some (.shutter xs))).input (f + j)
        i.edge = held ∧ (i.blank = some n ∨ i.blank = some 3)) ∧
      (m.missed < 2 ∨ m.present = false → (s.scanModule pos none).input (f + j) =
        { s.input (f + j) with edge := held, blank := some n })) ∧
    (m.present = true → 2 ≤ m.missed → let t := s.scanModule pos none
      (m.kind = .detector → j < 8 → f + 8 ≤ 48 → t.detector (f + j) = .broken) ∧
      (m.kind = .call → j < 8 → f + 8 ≤ 64 → t.pushInput (f + j) = ⟨⟨.idle, .idle, 0⟩, none⟩) ∧
      (m.kind = .shutter → j < 2 → f + 2 ≤ 32 →
        (∀ q o, q ≠ pos → s.loop.modules[q]? = some o → o.kind = .shutter → f + j ∉ o.points) →
        let held := fun d : Debounced Bool => (⟨d.value, d.value, 0⟩ : Debounced Bool)
        t.input (f + j) = ⟨held (s.input (f + j)).up, held (s.input (f + j)).down, held (s.input (f + j)).edge, none⟩ ∧
        ((s.shutter (f + j)).state = .opened → (t.shutter (f + j)).state = .unplaced)) ∧
      (m.kind = .audio → j < 4 → f + 4 ≤ 8 → t.readyInput (f + j) = s.readyInput (f + j))) ∧
    (let u := ((s.sendMessage pos m).withModule pos { m with present := true, missed := 0 }).postIf (!m.present)
       (.moduleFound pos m.kind)
     (∀ xs, m.kind = .detector →
       s.scanModule pos (some (.detector xs)) = eachPoint (fun i x => sampleDetector (f + i) x) 0 xs u) ∧
     (∀ xs, m.kind = .audio →
       s.scanModule pos (some (.audio xs)) = eachPoint (fun i x => sampleReady (f + i) x) 0 xs u) ∧
     (∀ xs, m.kind = .call → xs.length = 8 → s.scanModule pos (some (.call xs)) =
       eachPoint (fun i x => samplePush (f + i) (u.pushInput (f + i)).blank x) 0 xs
         ((List.range 8).foldl (fun v i => v.putPush (f + i) ((v.pushInput (f + i)).pass true)) u)) ∧
     (∀ xs, m.kind = .shutter → xs.length = 2 → s.scanModule pos (some (.shutter xs)) =
       eachPoint (fun i x => sampleGear (f + i) (u.input (f + i)).edgeBlanked x) 0 xs
         ((List.range 2).foldl (fun v i => v.putGear (f + i) ((v.input (f + i)).pass true)) u)))) ∧
  (∀ (s : Live) (d : Nat) (x : LineState), let old := s.loop.detectors.read d (.still .broken)
    (x ≠ old.value → old.candidate = x → 4 ≤ old.run →
      sampleDetector d x s = (s.putDetector d (.still x)).detectorChange d) ∧
    (x ≠ old.value → (if x = old.candidate then old.run + 1 else 1) < 5 →
      sampleDetector d x s = s.putDetector d ⟨old.value, x, if x = old.candidate then old.run + 1 else 1⟩)) ∧
  (∀ (s : Live) (p n : Nat) (x : PushState), let i := s.pushInput p
    (samplePush p (some (n + 1)) x s = s) ∧
    (samplePush p (some 0) .press s = (s.putPush p { i with line := .still .press }).pushChange p i.line.value .press) ∧
    (x ≠ .press → samplePush p (some 0) x s = samplePush p none x s) ∧
    (x = i.line.value → samplePush p none x s = s.putPush p { i with line := { i.line with run := 0 } }) ∧
    (x ≠ i.line.value → i.line.candidate = x → 2 ≤ i.line.run →
      samplePush p none x s = (s.putPush p { i with line := .still x }).pushChange p i.line.value x) ∧
    (x ≠ i.line.value → (if x = i.line.candidate then i.line.run + 1 else 1) < 3 → samplePush p none x s =
      s.putPush p { i with line := ⟨i.line.value, x, if x = i.line.candidate then i.line.run + 1 else 1⟩ })) ∧
  (∀ (s : Live) (k : Nat) (g : ShutterSample), let v := sampleDown k g.down (sampleUp k g.up s)
    sampleGear k true g s = v ∧ sampleGear k false g s = sampleEdge k g.edge v) ∧
  (∀ (s : Live) (k : Nat) (x : Bool), let i := s.input k
    let counted := fun d : Debounced Bool => Debounced.mk d.value x (if x = d.candidate then d.run + 1 else 1)
    let judged := fun (sample : Nat → Bool → Live → Live) (old : Debounced Bool) (put : Debounced Bool → GearInput)
        (hand : Live → Live) =>
      (x = old.value → sample k x s = s.putGear k (put { old with run := 0 })) ∧
      (x ≠ old.value → (counted old).run < 3 → sample k x s = s.putGear k (put (counted old))) ∧
      (x ≠ old.value → old.candidate = x → 2 ≤ old.run → sample k x s = hand (s.putGear k (put (.still x))))
    judged sampleUp i.up (fun d => { i with up := d }) (fun v => v.limitChange k .up) ∧
    judged sampleDown i.down (fun d => { i with down := d }) (fun v => v.limitChange k .down) ∧
    judged sampleEdge i.edge (fun d => { i with edge := d }) fun v => if x then v.edgeAsserted k else v)

/-- R14, R31, R47: RESET low and the loss of supply put the drive at BRAKE and keep the non-volatile memories, but for
the place of the wear record whose write is cut short; R1, R2, R32, R47, R49, R75, R94, R97, R151, R193: what a cold start makes
of them, of the walk and of the first scan: the plan, the modules, the wear counts, the chain, the zones, the shutters where no
zone latches, the masks and the ports. That the rest of the running unit stands until the cold start, which place of the
wear record is torn, that a module beyond its kind's capacity has no first point, that COLD_START holds the first scan, that
it is taken by a running part too, and that of two wear records of one number place B's is the later, are the MODEL's choices,
notes/assumptions/29.md, 15.md, 38.md, 5.md, 30.md and 13.md. -/
def Obligations.PowerAndColdStart : Prop :=
  (∀ (s : State) (torn : Bool),
    let cut := fun p : Power => Host.Outcome.next (φ := Machine.Fault) (ρ := Machine.Refusal)
      { s with
        power := p
        live := { s.live with chain := { s.live.chain with drive := .brake, stallTimer := none } }
        nv :=
          if torn then
            if s.nv.lastIsB = s.live.store.storeWriting then { s.nv with wearB := none } else { s.nv with wearA := none }
          else s.nv }
    (s.power = .on → exec (.resetLow torn) s = cut .resetLow) ∧
    (s.power ≠ .off → exec (.powerLoss torn) s = cut .off) ∧
    (s.power = .off → exec (.powerLoss torn) s = .next s)) ∧
  (∀ (s : State) (i : ColdStart), ∃ t, exec (.coldStart i) s = .next t ∧
    t.power = .on ∧ t.pending = s.pending ∧ t.samples = s.samples ∧
    t.nv = { s.nv with lastIsB := t.nv.lastIsB } ∧
    t.live.seconds = 0 ∧ t.live.startCause = .cold ∧ t.live.rateIsHigh = i.strapHigh ∧ t.live.restart = false ∧
    t.live.chain.drive = .brake ∧ t.live.monitor.count = 0 ∧ t.live.monitor.position = .unknown ∧
    t.live.monitor.speed = 0 ∧ t.live.closing.state = .idle ∧ t.live.speech.queue = [] ∧ t.live.speech.nextTag = 1 ∧
    t.live.store.active = (if s.nv.valid then s.nv.plan else emptyPlan) ∧
    t.live.store.pending = t.live.store.active ∧ t.live.store.cursor = .closed ∧
    t.live.store.storeGood = s.nv.valid ∧
    (∀ p, (t.live.port p).wire = (.hunting, 0, false, none) ∧
      (t.live.port p).notices.head? = some ⟨.started .cold s.nv.valid, 0, false⟩) ∧
    (∀ pos m, t.live.loop.modules[pos]? = some m → pos < 40 ∧
      (i.walk[pos]?).bind enquire = some m.kind ∧
      (let before := ((t.live.loop.modules.take pos).filter fun x => decide (x.kind = m.kind)).length
       m.first = if pointsPer m.kind * before < capacity m.kind then some (pointsPer m.kind * before) else none)) ∧
    (t.live.loop.modules.length < 40 → (i.walk[t.live.loop.modules.length]?).bind enquire = none) ∧
    (let wear : WearCounts := match s.nv.wearA, s.nv.wearB with
       | some a, some b => if b.sequence < a.sequence then a.counts else b.counts
       | some a, none => a.counts
       | none, some b => b.counts
       | none, none => .zero
     t.live.monitor.wear.links = wear.links ∧ t.live.monitor.wear.index = wear.index ∧
     t.live.monitor.wear.emergencyStops = wear.emergencyStops ∧
     ((∀ z, t.live.inAlarm z = false) → t.live.monitor.wear = wear) ∧
     (s.nv.wearA = none → s.nv.wearB = none → t.live.offered .wearLost)) ∧
    t.live.chain = ChainDrive.mk t.live.chain.state .brake none none none none none none none none false
      i.first.pins.flapTop i.first.pins.flapBottom i.first.pins.slow ∧
    ((∀ z, t.live.inAlarm z = true → t.live.plan.callsFireStop z = false) → t.live.chain.state = .parked) ∧
    (∀ z, t.live.inAlarm z = true → t.live.plan.callsFireStop z = true → t.live.chain.state = .held .fire) ∧
    (∀ z, z < 16 →
      (t.live.alarmedDetector z = none → t.live.zone z =
        ⟨(t.live.plan.zone z).present, t.live.lineCondition z, false, none, none⟩) ∧
      (∀ d, t.live.alarmedDetector z = some d → t.live.zone z = ⟨true, .alarm, false, some d, some 0⟩ ∧
        t.live.offered (.zoneAlarm z d))) ∧
    (∀ c, c < 16 → (t.live.circuit c).pendingMask = none ∧ (t.live.circuit c).mask =
      if (t.live.plan.circuit c).present then (t.live.plan.circuit c).resetMask else 0) ∧
    ((∀ z, t.live.inAlarm z = false) → ∀ k, k < 32 → (t.live.shutter k).state =
      match (t.live.input k).up.value, (t.live.input k).down.value with
      | true, false => .opened
      | false, true => .closed
      | false, false => .unplaced
      | true, true => .jammed))
end

