-- ==== Sys2Proof/Laws/State.lean ====
section
/-! SUPPORT. One lemma per field for each named update of the running part, so that no proof unfolds a record update. -/

set_option Elab.async false

namespace Sys2Proof.Machine
open Sys2Proof

/-! ### `withShutter` -/

@[simp] theorem Live.withShutter_seconds (s : Live) (k : Nat) (r : ShutterRecord) :
    (s.withShutter k r).seconds = s.seconds := rfl
@[simp] theorem Live.withShutter_startCause (s : Live) (k : Nat) (r : ShutterRecord) :
    (s.withShutter k r).startCause = s.startCause := rfl
@[simp] theorem Live.withShutter_rateIsHigh (s : Live) (k : Nat) (r : ShutterRecord) :
    (s.withShutter k r).rateIsHigh = s.rateIsHigh := rfl
@[simp] theorem Live.withShutter_restart (s : Live) (k : Nat) (r : ShutterRecord) :
    (s.withShutter k r).restart = s.restart := rfl
@[simp] theorem Live.withShutter_wearDue (s : Live) (k : Nat) (r : ShutterRecord) :
    (s.withShutter k r).wearDue = s.wearDue := rfl
@[simp] theorem Live.withShutter_free (s : Live) (k : Nat) (r : ShutterRecord) :
    (s.withShutter k r).free = s.free := rfl
@[simp] theorem Live.withShutter_loop (s : Live) (k : Nat) (r : ShutterRecord) :
    (s.withShutter k r).loop = s.loop := rfl
@[simp] theorem Live.withShutter_image (s : Live) (k : Nat) (r : ShutterRecord) :
    (s.withShutter k r).image = s.image := rfl
@[simp] theorem Live.withShutter_store (s : Live) (k : Nat) (r : ShutterRecord) :
    (s.withShutter k r).store = s.store := rfl
@[simp] theorem Live.withShutter_monitor (s : Live) (k : Nat) (r : ShutterRecord) :
    (s.withShutter k r).monitor = s.monitor := rfl
@[simp] theorem Live.withShutter_chain (s : Live) (k : Nat) (r : ShutterRecord) :
    (s.withShutter k r).chain = s.chain := rfl
@[simp] theorem Live.withShutter_zones (s : Live) (k : Nat) (r : ShutterRecord) :
    (s.withShutter k r).zones = s.zones := rfl
@[simp] theorem Live.withShutter_gear (s : Live) (k : Nat) (r : ShutterRecord) :
    (s.withShutter k r).gear = { s.gear with records := s.gear.records.put k r } := rfl
@[simp] theorem Live.withShutter_calls (s : Live) (k : Nat) (r : ShutterRecord) :
    (s.withShutter k r).calls = s.calls := rfl
@[simp] theorem Live.withShutter_circuits (s : Live) (k : Nat) (r : ShutterRecord) :
    (s.withShutter k r).circuits = s.circuits := rfl
@[simp] theorem Live.withShutter_speech (s : Live) (k : Nat) (r : ShutterRecord) :
    (s.withShutter k r).speech = s.speech := rfl
@[simp] theorem Live.withShutter_closing (s : Live) (k : Nat) (r : ShutterRecord) :
    (s.withShutter k r).closing = s.closing := rfl
@[simp] theorem Live.withShutter_portC (s : Live) (k : Nat) (r : ShutterRecord) :
    (s.withShutter k r).portC = s.portC := rfl
@[simp] theorem Live.withShutter_portF (s : Live) (k : Nat) (r : ShutterRecord) :
    (s.withShutter k r).portF = s.portF := rfl

/-! ### `withCircuit` -/

@[simp] theorem Live.withCircuit_seconds (s : Live) (c : Nat) (r : CircuitRecord) :
    (s.withCircuit c r).seconds = s.seconds := rfl
@[simp] theorem Live.withCircuit_startCause (s : Live) (c : Nat) (r : CircuitRecord) :
    (s.withCircuit c r).startCause = s.startCause := rfl
@[simp] theorem Live.withCircuit_rateIsHigh (s : Live) (c : Nat) (r : CircuitRecord) :
    (s.withCircuit c r).rateIsHigh = s.rateIsHigh := rfl
@[simp] theorem Live.withCircuit_restart (s : Live) (c : Nat) (r : CircuitRecord) :
    (s.withCircuit c r).restart = s.restart := rfl
@[simp] theorem Live.withCircuit_wearDue (s : Live) (c : Nat) (r : CircuitRecord) :
    (s.withCircuit c r).wearDue = s.wearDue := rfl
@[simp] theorem Live.withCircuit_free (s : Live) (c : Nat) (r : CircuitRecord) :
    (s.withCircuit c r).free = s.free := rfl
@[simp] theorem Live.withCircuit_loop (s : Live) (c : Nat) (r : CircuitRecord) :
    (s.withCircuit c r).loop = s.loop := rfl
@[simp] theorem Live.withCircuit_image (s : Live) (c : Nat) (r : CircuitRecord) :
    (s.withCircuit c r).image = s.image := rfl
@[simp] theorem Live.withCircuit_store (s : Live) (c : Nat) (r : CircuitRecord) :
    (s.withCircuit c r).store = s.store := rfl
@[simp] theorem Live.withCircuit_monitor (s : Live) (c : Nat) (r : CircuitRecord) :
    (s.withCircuit c r).monitor = s.monitor := rfl
@[simp] theorem Live.withCircuit_chain (s : Live) (c : Nat) (r : CircuitRecord) :
    (s.withCircuit c r).chain = s.chain := rfl
@[simp] theorem Live.withCircuit_zones (s : Live) (c : Nat) (r : CircuitRecord) :
    (s.withCircuit c r).zones = s.zones := rfl
@[simp] theorem Live.withCircuit_gear (s : Live) (c : Nat) (r : CircuitRecord) :
    (s.withCircuit c r).gear = s.gear := rfl
@[simp] theorem Live.withCircuit_calls (s : Live) (c : Nat) (r : CircuitRecord) :
    (s.withCircuit c r).calls = s.calls := rfl
@[simp] theorem Live.withCircuit_circuits (s : Live) (c : Nat) (r : CircuitRecord) :
    (s.withCircuit c r).circuits = s.circuits.put c r := rfl
@[simp] theorem Live.withCircuit_speech (s : Live) (c : Nat) (r : CircuitRecord) :
    (s.withCircuit c r).speech = s.speech := rfl
@[simp] theorem Live.withCircuit_closing (s : Live) (c : Nat) (r : CircuitRecord) :
    (s.withCircuit c r).closing = s.closing := rfl
@[simp] theorem Live.withCircuit_portC (s : Live) (c : Nat) (r : CircuitRecord) :
    (s.withCircuit c r).portC = s.portC := rfl
@[simp] theorem Live.withCircuit_portF (s : Live) (c : Nat) (r : CircuitRecord) :
    (s.withCircuit c r).portF = s.portF := rfl

/-! ### `withClosing` -/

@[simp] theorem Live.withClosing_seconds (s : Live) (c : Closing) : (s.withClosing c).seconds = s.seconds := rfl
@[simp] theorem Live.withClosing_startCause (s : Live) (c : Closing) :
    (s.withClosing c).startCause = s.startCause := rfl
@[simp] theorem Live.withClosing_rateIsHigh (s : Live) (c : Closing) :
    (s.withClosing c).rateIsHigh = s.rateIsHigh := rfl
@[simp] theorem Live.withClosing_restart (s : Live) (c : Closing) : (s.withClosing c).restart = s.restart := rfl
@[simp] theorem Live.withClosing_wearDue (s : Live) (c : Closing) : (s.withClosing c).wearDue = s.wearDue := rfl
@[simp] theorem Live.withClosing_free (s : Live) (c : Closing) : (s.withClosing c).free = s.free := rfl
@[simp] theorem Live.withClosing_loop (s : Live) (c : Closing) : (s.withClosing c).loop = s.loop := rfl
@[simp] theorem Live.withClosing_image (s : Live) (c : Closing) : (s.withClosing c).image = s.image := rfl
@[simp] theorem Live.withClosing_store (s : Live) (c : Closing) : (s.withClosing c).store = s.store := rfl
@[simp] theorem Live.withClosing_monitor (s : Live) (c : Closing) : (s.withClosing c).monitor = s.monitor := rfl
@[simp] theorem Live.withClosing_chain (s : Live) (c : Closing) : (s.withClosing c).chain = s.chain := rfl
@[simp] theorem Live.withClosing_zones (s : Live) (c : Closing) : (s.withClosing c).zones = s.zones := rfl
@[simp] theorem Live.withClosing_gear (s : Live) (c : Closing) : (s.withClosing c).gear = s.gear := rfl
@[simp] theorem Live.withClosing_calls (s : Live) (c : Closing) : (s.withClosing c).calls = s.calls := rfl
@[simp] theorem Live.withClosing_circuits (s : Live) (c : Closing) : (s.withClosing c).circuits = s.circuits := rfl
@[simp] theorem Live.withClosing_speech (s : Live) (c : Closing) : (s.withClosing c).speech = s.speech := rfl
@[simp] theorem Live.withClosing_closing (s : Live) (c : Closing) : (s.withClosing c).closing = c := rfl
@[simp] theorem Live.withClosing_portC (s : Live) (c : Closing) : (s.withClosing c).portC = s.portC := rfl
@[simp] theorem Live.withClosing_portF (s : Live) (c : Closing) : (s.withClosing c).portF = s.portF := rfl

/-! ### `withZone` -/

@[simp] theorem Live.withZone_seconds (s : Live) (z : Nat) (r : ZoneRecord) :
    (s.withZone z r).seconds = s.seconds := rfl
@[simp] theorem Live.withZone_startCause (s : Live) (z : Nat) (r : ZoneRecord) :
    (s.withZone z r).startCause = s.startCause := rfl
@[simp] theorem Live.withZone_rateIsHigh (s : Live) (z : Nat) (r : ZoneRecord) :
    (s.withZone z r).rateIsHigh = s.rateIsHigh := rfl
@[simp] theorem Live.withZone_restart (s : Live) (z : Nat) (r : ZoneRecord) :
    (s.withZone z r).restart = s.restart := rfl
@[simp] theorem Live.withZone_wearDue (s : Live) (z : Nat) (r : ZoneRecord) :
    (s.withZone z r).wearDue = s.wearDue := rfl
@[simp] theorem Live.withZone_free (s : Live) (z : Nat) (r : ZoneRecord) : (s.withZone z r).free = s.free := rfl
@[simp] theorem Live.withZone_loop (s : Live) (z : Nat) (r : ZoneRecord) : (s.withZone z r).loop = s.loop := rfl
@[simp] theorem Live.withZone_image (s : Live) (z : Nat) (r : ZoneRecord) : (s.withZone z r).image = s.image := rfl
@[simp] theorem Live.withZone_store (s : Live) (z : Nat) (r : ZoneRecord) : (s.withZone z r).store = s.store := rfl
@[simp] theorem Live.withZone_monitor (s : Live) (z : Nat) (r : ZoneRecord) :
    (s.withZone z r).monitor = s.monitor := rfl
@[simp] theorem Live.withZone_chain (s : Live) (z : Nat) (r : ZoneRecord) : (s.withZone z r).chain = s.chain := rfl
@[simp] theorem Live.withZone_zones (s : Live) (z : Nat) (r : ZoneRecord) :
    (s.withZone z r).zones = s.zones.put z r := rfl
@[simp] theorem Live.withZone_gear (s : Live) (z : Nat) (r : ZoneRecord) : (s.withZone z r).gear = s.gear := rfl
@[simp] theorem Live.withZone_calls (s : Live) (z : Nat) (r : ZoneRecord) : (s.withZone z r).calls = s.calls := rfl
@[simp] theorem Live.withZone_circuits (s : Live) (z : Nat) (r : ZoneRecord) :
    (s.withZone z r).circuits = s.circuits := rfl
@[simp] theorem Live.withZone_speech (s : Live) (z : Nat) (r : ZoneRecord) : (s.withZone z r).speech = s.speech := rfl
@[simp] theorem Live.withZone_closing (s : Live) (z : Nat) (r : ZoneRecord) :
    (s.withZone z r).closing = s.closing := rfl
@[simp] theorem Live.withZone_portC (s : Live) (z : Nat) (r : ZoneRecord) : (s.withZone z r).portC = s.portC := rfl
@[simp] theorem Live.withZone_portF (s : Live) (z : Nat) (r : ZoneRecord) : (s.withZone z r).portF = s.portF := rfl

/-! ### `closeCursor` -/

@[simp] theorem Live.closeCursor_seconds (s : Live) : (s.closeCursor).seconds = s.seconds := rfl
@[simp] theorem Live.closeCursor_startCause (s : Live) : (s.closeCursor).startCause = s.startCause := rfl
@[simp] theorem Live.closeCursor_rateIsHigh (s : Live) : (s.closeCursor).rateIsHigh = s.rateIsHigh := rfl
@[simp] theorem Live.closeCursor_restart (s : Live) : (s.closeCursor).restart = s.restart := rfl
@[simp] theorem Live.closeCursor_wearDue (s : Live) : (s.closeCursor).wearDue = s.wearDue := rfl
@[simp] theorem Live.closeCursor_free (s : Live) : (s.closeCursor).free = s.free := rfl
@[simp] theorem Live.closeCursor_loop (s : Live) : (s.closeCursor).loop = s.loop := rfl
@[simp] theorem Live.closeCursor_image (s : Live) : (s.closeCursor).image = s.image := rfl
@[simp] theorem Live.closeCursor_store (s : Live) : (s.closeCursor).store = { s.store with cursor := .closed } := rfl
@[simp] theorem Live.closeCursor_monitor (s : Live) : (s.closeCursor).monitor = s.monitor := rfl
@[simp] theorem Live.closeCursor_chain (s : Live) : (s.closeCursor).chain = s.chain := rfl
@[simp] theorem Live.closeCursor_zones (s : Live) : (s.closeCursor).zones = s.zones := rfl
@[simp] theorem Live.closeCursor_gear (s : Live) : (s.closeCursor).gear = s.gear := rfl
@[simp] theorem Live.closeCursor_calls (s : Live) : (s.closeCursor).calls = s.calls := rfl
@[simp] theorem Live.closeCursor_circuits (s : Live) : (s.closeCursor).circuits = s.circuits := rfl
@[simp] theorem Live.closeCursor_speech (s : Live) : (s.closeCursor).speech = s.speech := rfl
@[simp] theorem Live.closeCursor_closing (s : Live) : (s.closeCursor).closing = s.closing := rfl
@[simp] theorem Live.closeCursor_portC (s : Live) : (s.closeCursor).portC = s.portC := rfl
@[simp] theorem Live.closeCursor_portF (s : Live) : (s.closeCursor).portF = s.portF := rfl

/-! ### `post` -/

@[simp] theorem Live.post_seconds (s : Live) (n : Note) : (s.post n).seconds = s.seconds := rfl
@[simp] theorem Live.post_startCause (s : Live) (n : Note) : (s.post n).startCause = s.startCause := rfl
@[simp] theorem Live.post_rateIsHigh (s : Live) (n : Note) : (s.post n).rateIsHigh = s.rateIsHigh := rfl
@[simp] theorem Live.post_restart (s : Live) (n : Note) : (s.post n).restart = s.restart := rfl
@[simp] theorem Live.post_wearDue (s : Live) (n : Note) : (s.post n).wearDue = s.wearDue := rfl
@[simp] theorem Live.post_free (s : Live) (n : Note) : (s.post n).free = s.free := rfl
@[simp] theorem Live.post_loop (s : Live) (n : Note) : (s.post n).loop = s.loop := rfl
@[simp] theorem Live.post_image (s : Live) (n : Note) : (s.post n).image = s.image := rfl
@[simp] theorem Live.post_store (s : Live) (n : Note) : (s.post n).store = s.store := rfl
@[simp] theorem Live.post_monitor (s : Live) (n : Note) : (s.post n).monitor = s.monitor := rfl
@[simp] theorem Live.post_chain (s : Live) (n : Note) : (s.post n).chain = s.chain := rfl
@[simp] theorem Live.post_zones (s : Live) (n : Note) : (s.post n).zones = s.zones := rfl
@[simp] theorem Live.post_gear (s : Live) (n : Note) : (s.post n).gear = s.gear := rfl
@[simp] theorem Live.post_calls (s : Live) (n : Note) : (s.post n).calls = s.calls := rfl
@[simp] theorem Live.post_circuits (s : Live) (n : Note) : (s.post n).circuits = s.circuits := rfl
@[simp] theorem Live.post_speech (s : Live) (n : Note) : (s.post n).speech = s.speech := rfl
@[simp] theorem Live.post_closing (s : Live) (n : Note) : (s.post n).closing = s.closing := rfl
@[simp] theorem Live.post_portC (s : Live) (n : Note) : (s.post n).portC = s.portC.take ⟨n, s.seconds, false⟩ := rfl
@[simp] theorem Live.post_portF (s : Live) (n : Note) : (s.post n).portF = s.portF.take ⟨n, s.seconds, false⟩ := rfl

/-! ### `writeGongs` -/

@[simp] theorem Live.writeGongs_seconds (s : Live) (on : Bool) : (s.writeGongs on).seconds = s.seconds := rfl
@[simp] theorem Live.writeGongs_startCause (s : Live) (on : Bool) : (s.writeGongs on).startCause = s.startCause := rfl
@[simp] theorem Live.writeGongs_rateIsHigh (s : Live) (on : Bool) : (s.writeGongs on).rateIsHigh = s.rateIsHigh := rfl
@[simp] theorem Live.writeGongs_restart (s : Live) (on : Bool) : (s.writeGongs on).restart = s.restart := rfl
@[simp] theorem Live.writeGongs_wearDue (s : Live) (on : Bool) : (s.writeGongs on).wearDue = s.wearDue := rfl
@[simp] theorem Live.writeGongs_free (s : Live) (on : Bool) : (s.writeGongs on).free = s.free := rfl
@[simp] theorem Live.writeGongs_loop (s : Live) (on : Bool) : (s.writeGongs on).loop = s.loop := rfl
@[simp] theorem Live.writeGongs_store (s : Live) (on : Bool) : (s.writeGongs on).store = s.store := rfl
@[simp] theorem Live.writeGongs_monitor (s : Live) (on : Bool) : (s.writeGongs on).monitor = s.monitor := rfl
@[simp] theorem Live.writeGongs_chain (s : Live) (on : Bool) :
    (s.writeGongs on).chain = { s.chain with gongsOn := on } := rfl
@[simp] theorem Live.writeGongs_zones (s : Live) (on : Bool) : (s.writeGongs on).zones = s.zones := rfl
@[simp] theorem Live.writeGongs_gear (s : Live) (on : Bool) : (s.writeGongs on).gear = s.gear := rfl
@[simp] theorem Live.writeGongs_calls (s : Live) (on : Bool) : (s.writeGongs on).calls = s.calls := rfl
@[simp] theorem Live.writeGongs_circuits (s : Live) (on : Bool) : (s.writeGongs on).circuits = s.circuits := rfl
@[simp] theorem Live.writeGongs_speech (s : Live) (on : Bool) : (s.writeGongs on).speech = s.speech := rfl
@[simp] theorem Live.writeGongs_closing (s : Live) (on : Bool) : (s.writeGongs on).closing = s.closing := rfl
@[simp] theorem Live.writeGongs_portC (s : Live) (on : Bool) : (s.writeGongs on).portC = s.portC := rfl
@[simp] theorem Live.writeGongs_portF (s : Live) (on : Bool) : (s.writeGongs on).portF = s.portF := rfl

/-! ### `putDetector` -/

@[simp] theorem Live.putDetector_seconds (s : Live) (d : Nat) (i : Debounced LineState) :
    (s.putDetector d i).seconds = s.seconds := rfl
@[simp] theorem Live.putDetector_startCause (s : Live) (d : Nat) (i : Debounced LineState) :
    (s.putDetector d i).startCause = s.startCause := rfl
@[simp] theorem Live.putDetector_rateIsHigh (s : Live) (d : Nat) (i : Debounced LineState) :
    (s.putDetector d i).rateIsHigh = s.rateIsHigh := rfl
@[simp] theorem Live.putDetector_restart (s : Live) (d : Nat) (i : Debounced LineState) :
    (s.putDetector d i).restart = s.restart := rfl
@[simp] theorem Live.putDetector_wearDue (s : Live) (d : Nat) (i : Debounced LineState) :
    (s.putDetector d i).wearDue = s.wearDue := rfl
@[simp] theorem Live.putDetector_free (s : Live) (d : Nat) (i : Debounced LineState) :
    (s.putDetector d i).free = s.free := rfl
@[simp] theorem Live.putDetector_loop (s : Live) (d : Nat) (i : Debounced LineState) :
    (s.putDetector d i).loop = { s.loop with detectors := s.loop.detectors.put d i } := rfl
@[simp] theorem Live.putDetector_image (s : Live) (d : Nat) (i : Debounced LineState) :
    (s.putDetector d i).image = s.image := rfl
@[simp] theorem Live.putDetector_store (s : Live) (d : Nat) (i : Debounced LineState) :
    (s.putDetector d i).store = s.store := rfl
@[simp] theorem Live.putDetector_monitor (s : Live) (d : Nat) (i : Debounced LineState) :
    (s.putDetector d i).monitor = s.monitor := rfl
@[simp] theorem Live.putDetector_chain (s : Live) (d : Nat) (i : Debounced LineState) :
    (s.putDetector d i).chain = s.chain := rfl
@[simp] theorem Live.putDetector_zones (s : Live) (d : Nat) (i : Debounced LineState) :
    (s.putDetector d i).zones = s.zones := rfl
@[simp] theorem Live.putDetector_gear (s : Live) (d : Nat) (i : Debounced LineState) :
    (s.putDetector d i).gear = s.gear := rfl
@[simp] theorem Live.putDetector_calls (s : Live) (d : Nat) (i : Debounced LineState) :
    (s.putDetector d i).calls = s.calls := rfl
@[simp] theorem Live.putDetector_circuits (s : Live) (d : Nat) (i : Debounced LineState) :
    (s.putDetector d i).circuits = s.circuits := rfl
@[simp] theorem Live.putDetector_speech (s : Live) (d : Nat) (i : Debounced LineState) :
    (s.putDetector d i).speech = s.speech := rfl
@[simp] theorem Live.putDetector_closing (s : Live) (d : Nat) (i : Debounced LineState) :
    (s.putDetector d i).closing = s.closing := rfl
@[simp] theorem Live.putDetector_portC (s : Live) (d : Nat) (i : Debounced LineState) :
    (s.putDetector d i).portC = s.portC := rfl
@[simp] theorem Live.putDetector_portF (s : Live) (d : Nat) (i : Debounced LineState) :
    (s.putDetector d i).portF = s.portF := rfl

/-! ### `putPush` -/

@[simp] theorem Live.putPush_seconds (s : Live) (p : Nat) (i : PushInput) : (s.putPush p i).seconds = s.seconds := rfl
@[simp] theorem Live.putPush_startCause (s : Live) (p : Nat) (i : PushInput) :
    (s.putPush p i).startCause = s.startCause := rfl
@[simp] theorem Live.putPush_rateIsHigh (s : Live) (p : Nat) (i : PushInput) :
    (s.putPush p i).rateIsHigh = s.rateIsHigh := rfl
@[simp] theorem Live.putPush_restart (s : Live) (p : Nat) (i : PushInput) : (s.putPush p i).restart = s.restart := rfl
@[simp] theorem Live.putPush_wearDue (s : Live) (p : Nat) (i : PushInput) : (s.putPush p i).wearDue = s.wearDue := rfl
@[simp] theorem Live.putPush_free (s : Live) (p : Nat) (i : PushInput) : (s.putPush p i).free = s.free := rfl
@[simp] theorem Live.putPush_loop (s : Live) (p : Nat) (i : PushInput) :
    (s.putPush p i).loop = { s.loop with pushes := s.loop.pushes.put p i } := rfl
@[simp] theorem Live.putPush_image (s : Live) (p : Nat) (i : PushInput) : (s.putPush p i).image = s.image := rfl
@[simp] theorem Live.putPush_store (s : Live) (p : Nat) (i : PushInput) : (s.putPush p i).store = s.store := rfl
@[simp] theorem Live.putPush_monitor (s : Live) (p : Nat) (i : PushInput) : (s.putPush p i).monitor = s.monitor := rfl
@[simp] theorem Live.putPush_chain (s : Live) (p : Nat) (i : PushInput) : (s.putPush p i).chain = s.chain := rfl
@[simp] theorem Live.putPush_zones (s : Live) (p : Nat) (i : PushInput) : (s.putPush p i).zones = s.zones := rfl
@[simp] theorem Live.putPush_gear (s : Live) (p : Nat) (i : PushInput) : (s.putPush p i).gear = s.gear := rfl
@[simp] theorem Live.putPush_calls (s : Live) (p : Nat) (i : PushInput) : (s.putPush p i).calls = s.calls := rfl
@[simp] theorem Live.putPush_circuits (s : Live) (p : Nat) (i : PushInput) :
    (s.putPush p i).circuits = s.circuits := rfl
@[simp] theorem Live.putPush_speech (s : Live) (p : Nat) (i : PushInput) : (s.putPush p i).speech = s.speech := rfl
@[simp] theorem Live.putPush_closing (s : Live) (p : Nat) (i : PushInput) : (s.putPush p i).closing = s.closing := rfl
@[simp] theorem Live.putPush_portC (s : Live) (p : Nat) (i : PushInput) : (s.putPush p i).portC = s.portC := rfl
@[simp] theorem Live.putPush_portF (s : Live) (p : Nat) (i : PushInput) : (s.putPush p i).portF = s.portF := rfl

/-! ### `putGear` -/

@[simp] theorem Live.putGear_seconds (s : Live) (k : Nat) (i : GearInput) : (s.putGear k i).seconds = s.seconds := rfl
@[simp] theorem Live.putGear_startCause (s : Live) (k : Nat) (i : GearInput) :
    (s.putGear k i).startCause = s.startCause := rfl
@[simp] theorem Live.putGear_rateIsHigh (s : Live) (k : Nat) (i : GearInput) :
    (s.putGear k i).rateIsHigh = s.rateIsHigh := rfl
@[simp] theorem Live.putGear_restart (s : Live) (k : Nat) (i : GearInput) : (s.putGear k i).restart = s.restart := rfl
@[simp] theorem Live.putGear_wearDue (s : Live) (k : Nat) (i : GearInput) : (s.putGear k i).wearDue = s.wearDue := rfl
@[simp] theorem Live.putGear_free (s : Live) (k : Nat) (i : GearInput) : (s.putGear k i).free = s.free := rfl
@[simp] theorem Live.putGear_loop (s : Live) (k : Nat) (i : GearInput) :
    (s.putGear k i).loop = { s.loop with gear := s.loop.gear.put k i } := rfl
@[simp] theorem Live.putGear_image (s : Live) (k : Nat) (i : GearInput) : (s.putGear k i).image = s.image := rfl
@[simp] theorem Live.putGear_store (s : Live) (k : Nat) (i : GearInput) : (s.putGear k i).store = s.store := rfl
@[simp] theorem Live.putGear_monitor (s : Live) (k : Nat) (i : GearInput) : (s.putGear k i).monitor = s.monitor := rfl
@[simp] theorem Live.putGear_chain (s : Live) (k : Nat) (i : GearInput) : (s.putGear k i).chain = s.chain := rfl
@[simp] theorem Live.putGear_zones (s : Live) (k : Nat) (i : GearInput) : (s.putGear k i).zones = s.zones := rfl
@[simp] theorem Live.putGear_gear (s : Live) (k : Nat) (i : GearInput) : (s.putGear k i).gear = s.gear := rfl
@[simp] theorem Live.putGear_calls (s : Live) (k : Nat) (i : GearInput) : (s.putGear k i).calls = s.calls := rfl
@[simp] theorem Live.putGear_circuits (s : Live) (k : Nat) (i : GearInput) :
    (s.putGear k i).circuits = s.circuits := rfl
@[simp] theorem Live.putGear_speech (s : Live) (k : Nat) (i : GearInput) : (s.putGear k i).speech = s.speech := rfl
@[simp] theorem Live.putGear_closing (s : Live) (k : Nat) (i : GearInput) : (s.putGear k i).closing = s.closing := rfl
@[simp] theorem Live.putGear_portC (s : Live) (k : Nat) (i : GearInput) : (s.putGear k i).portC = s.portC := rfl
@[simp] theorem Live.putGear_portF (s : Live) (k : Nat) (i : GearInput) : (s.putGear k i).portF = s.portF := rfl

/-! ### `putReady` -/

@[simp] theorem Live.putReady_seconds (s : Live) (ch : Nat) (i : Debounced Bool) :
    (s.putReady ch i).seconds = s.seconds := rfl
@[simp] theorem Live.putReady_startCause (s : Live) (ch : Nat) (i : Debounced Bool) :
    (s.putReady ch i).startCause = s.startCause := rfl
@[simp] theorem Live.putReady_rateIsHigh (s : Live) (ch : Nat) (i : Debounced Bool) :
    (s.putReady ch i).rateIsHigh = s.rateIsHigh := rfl
@[simp] theorem Live.putReady_restart (s : Live) (ch : Nat) (i : Debounced Bool) :
    (s.putReady ch i).restart = s.restart := rfl
@[simp] theorem Live.putReady_wearDue (s : Live) (ch : Nat) (i : Debounced Bool) :
    (s.putReady ch i).wearDue = s.wearDue := rfl
@[simp] theorem Live.putReady_free (s : Live) (ch : Nat) (i : Debounced Bool) : (s.putReady ch i).free = s.free := rfl
@[simp] theorem Live.putReady_loop (s : Live) (ch : Nat) (i : Debounced Bool) :
    (s.putReady ch i).loop = { s.loop with ready := s.loop.ready.put ch i } := rfl
@[simp] theorem Live.putReady_image (s : Live) (ch : Nat) (i : Debounced Bool) :
    (s.putReady ch i).image = s.image := rfl
@[simp] theorem Live.putReady_store (s : Live) (ch : Nat) (i : Debounced Bool) :
    (s.putReady ch i).store = s.store := rfl
@[simp] theorem Live.putReady_monitor (s : Live) (ch : Nat) (i : Debounced Bool) :
    (s.putReady ch i).monitor = s.monitor := rfl
@[simp] theorem Live.putReady_chain (s : Live) (ch : Nat) (i : Debounced Bool) :
    (s.putReady ch i).chain = s.chain := rfl
@[simp] theorem Live.putReady_zones (s : Live) (ch : Nat) (i : Debounced Bool) :
    (s.putReady ch i).zones = s.zones := rfl
@[simp] theorem Live.putReady_gear (s : Live) (ch : Nat) (i : Debounced Bool) : (s.putReady ch i).gear = s.gear := rfl
@[simp] theorem Live.putReady_calls (s : Live) (ch : Nat) (i : Debounced Bool) :
    (s.putReady ch i).calls = s.calls := rfl
@[simp] theorem Live.putReady_circuits (s : Live) (ch : Nat) (i : Debounced Bool) :
    (s.putReady ch i).circuits = s.circuits := rfl
@[simp] theorem Live.putReady_speech (s : Live) (ch : Nat) (i : Debounced Bool) :
    (s.putReady ch i).speech = s.speech := rfl
@[simp] theorem Live.putReady_closing (s : Live) (ch : Nat) (i : Debounced Bool) :
    (s.putReady ch i).closing = s.closing := rfl
@[simp] theorem Live.putReady_portC (s : Live) (ch : Nat) (i : Debounced Bool) :
    (s.putReady ch i).portC = s.portC := rfl
@[simp] theorem Live.putReady_portF (s : Live) (ch : Nat) (i : Debounced Bool) :
    (s.putReady ch i).portF = s.portF := rfl

/-! ### `withModule` -/

@[simp] theorem Live.withModule_seconds (s : Live) (pos : Nat) (m : ModuleRecord) :
    (s.withModule pos m).seconds = s.seconds := rfl
@[simp] theorem Live.withModule_startCause (s : Live) (pos : Nat) (m : ModuleRecord) :
    (s.withModule pos m).startCause = s.startCause := rfl
@[simp] theorem Live.withModule_rateIsHigh (s : Live) (pos : Nat) (m : ModuleRecord) :
    (s.withModule pos m).rateIsHigh = s.rateIsHigh := rfl
@[simp] theorem Live.withModule_restart (s : Live) (pos : Nat) (m : ModuleRecord) :
    (s.withModule pos m).restart = s.restart := rfl
@[simp] theorem Live.withModule_wearDue (s : Live) (pos : Nat) (m : ModuleRecord) :
    (s.withModule pos m).wearDue = s.wearDue := rfl
@[simp] theorem Live.withModule_free (s : Live) (pos : Nat) (m : ModuleRecord) :
    (s.withModule pos m).free = s.free := rfl
@[simp] theorem Live.withModule_loop (s : Live) (pos : Nat) (m : ModuleRecord) :
    (s.withModule pos m).loop = { s.loop with modules := s.loop.modules.set pos m } := rfl
@[simp] theorem Live.withModule_image (s : Live) (pos : Nat) (m : ModuleRecord) :
    (s.withModule pos m).image = s.image := rfl
@[simp] theorem Live.withModule_store (s : Live) (pos : Nat) (m : ModuleRecord) :
    (s.withModule pos m).store = s.store := rfl
@[simp] theorem Live.withModule_monitor (s : Live) (pos : Nat) (m : ModuleRecord) :
    (s.withModule pos m).monitor = s.monitor := rfl
@[simp] theorem Live.withModule_chain (s : Live) (pos : Nat) (m : ModuleRecord) :
    (s.withModule pos m).chain = s.chain := rfl
@[simp] theorem Live.withModule_zones (s : Live) (pos : Nat) (m : ModuleRecord) :
    (s.withModule pos m).zones = s.zones := rfl
@[simp] theorem Live.withModule_gear (s : Live) (pos : Nat) (m : ModuleRecord) :
    (s.withModule pos m).gear = s.gear := rfl
@[simp] theorem Live.withModule_calls (s : Live) (pos : Nat) (m : ModuleRecord) :
    (s.withModule pos m).calls = s.calls := rfl
@[simp] theorem Live.withModule_circuits (s : Live) (pos : Nat) (m : ModuleRecord) :
    (s.withModule pos m).circuits = s.circuits := rfl
@[simp] theorem Live.withModule_speech (s : Live) (pos : Nat) (m : ModuleRecord) :
    (s.withModule pos m).speech = s.speech := rfl
@[simp] theorem Live.withModule_closing (s : Live) (pos : Nat) (m : ModuleRecord) :
    (s.withModule pos m).closing = s.closing := rfl
@[simp] theorem Live.withModule_portC (s : Live) (pos : Nat) (m : ModuleRecord) :
    (s.withModule pos m).portC = s.portC := rfl
@[simp] theorem Live.withModule_portF (s : Live) (pos : Nat) (m : ModuleRecord) :
    (s.withModule pos m).portF = s.portF := rfl

/-! ### `sendMessage` -/

@[simp] theorem Live.sendMessage_seconds (s : Live) (pos : Nat) (m : ModuleRecord) :
    (s.sendMessage pos m).seconds = s.seconds := rfl
@[simp] theorem Live.sendMessage_startCause (s : Live) (pos : Nat) (m : ModuleRecord) :
    (s.sendMessage pos m).startCause = s.startCause := rfl
@[simp] theorem Live.sendMessage_rateIsHigh (s : Live) (pos : Nat) (m : ModuleRecord) :
    (s.sendMessage pos m).rateIsHigh = s.rateIsHigh := rfl
@[simp] theorem Live.sendMessage_restart (s : Live) (pos : Nat) (m : ModuleRecord) :
    (s.sendMessage pos m).restart = s.restart := rfl
@[simp] theorem Live.sendMessage_wearDue (s : Live) (pos : Nat) (m : ModuleRecord) :
    (s.sendMessage pos m).wearDue = s.wearDue := rfl
@[simp] theorem Live.sendMessage_free (s : Live) (pos : Nat) (m : ModuleRecord) :
    (s.sendMessage pos m).free = s.free := rfl
@[simp] theorem Live.sendMessage_loop (s : Live) (pos : Nat) (m : ModuleRecord) :
    (s.sendMessage pos m).loop = { s.loop with sent := s.loop.sent.put pos (some (s.image.messageTo m)) } := rfl
@[simp] theorem Live.sendMessage_image (s : Live) (pos : Nat) (m : ModuleRecord) :
    (s.sendMessage pos m).image = s.image := rfl
@[simp] theorem Live.sendMessage_store (s : Live) (pos : Nat) (m : ModuleRecord) :
    (s.sendMessage pos m).store = s.store := rfl
@[simp] theorem Live.sendMessage_monitor (s : Live) (pos : Nat) (m : ModuleRecord) :
    (s.sendMessage pos m).monitor = s.monitor := rfl
@[simp] theorem Live.sendMessage_chain (s : Live) (pos : Nat) (m : ModuleRecord) :
    (s.sendMessage pos m).chain = s.chain := rfl
@[simp] theorem Live.sendMessage_zones (s : Live) (pos : Nat) (m : ModuleRecord) :
    (s.sendMessage pos m).zones = s.zones := rfl
@[simp] theorem Live.sendMessage_gear (s : Live) (pos : Nat) (m : ModuleRecord) :
    (s.sendMessage pos m).gear = s.gear := rfl
@[simp] theorem Live.sendMessage_calls (s : Live) (pos : Nat) (m : ModuleRecord) :
    (s.sendMessage pos m).calls = s.calls := rfl
@[simp] theorem Live.sendMessage_circuits (s : Live) (pos : Nat) (m : ModuleRecord) :
    (s.sendMessage pos m).circuits = s.circuits := rfl
@[simp] theorem Live.sendMessage_speech (s : Live) (pos : Nat) (m : ModuleRecord) :
    (s.sendMessage pos m).speech = s.speech := rfl
@[simp] theorem Live.sendMessage_closing (s : Live) (pos : Nat) (m : ModuleRecord) :
    (s.sendMessage pos m).closing = s.closing := rfl
@[simp] theorem Live.sendMessage_portC (s : Live) (pos : Nat) (m : ModuleRecord) :
    (s.sendMessage pos m).portC = s.portC := rfl
@[simp] theorem Live.sendMessage_portF (s : Live) (pos : Nat) (m : ModuleRecord) :
    (s.sendMessage pos m).portF = s.portF := rfl

/-! ### `putOut`: only the sample pointer, the samples left and what was put out move -/

@[simp] theorem PlayerContext.putOut_phase (m : List Host.Cell) (c : PlayerContext) : (c.putOut m).phase = c.phase := by
  unfold PlayerContext.putOut
  split <;> rfl
@[simp] theorem PlayerContext.putOut_request (m : List Host.Cell) (c : PlayerContext) : (c.putOut m).request = c.request := by
  unfold PlayerContext.putOut
  split <;> rfl
@[simp] theorem PlayerContext.putOut_sequence (m : List Host.Cell) (c : PlayerContext) : (c.putOut m).sequence = c.sequence := by
  unfold PlayerContext.putOut
  split <;> rfl
@[simp] theorem PlayerContext.putOut_item (m : List Host.Cell) (c : PlayerContext) : (c.putOut m).item = c.item := by
  unfold PlayerContext.putOut
  split <;> rfl
@[simp] theorem PlayerContext.putOut_taken (m : List Host.Cell) (c : PlayerContext) : (c.putOut m).taken = c.taken := by
  unfold PlayerContext.putOut
  split <;> rfl
@[simp] theorem PlayerContext.putOut_itemTimer (m : List Host.Cell) (c : PlayerContext) : (c.putOut m).itemTimer = c.itemTimer := by
  unfold PlayerContext.putOut
  split <;> rfl
@[simp] theorem PlayerContext.putOut_dropped (m : List Host.Cell) (c : PlayerContext) : (c.putOut m).dropped = c.dropped := by
  unfold PlayerContext.putOut
  split <;> rfl
@[simp] theorem PlayerContext.putOut_missingPosted (m : List Host.Cell) (c : PlayerContext) : (c.putOut m).missingPosted = c.missingPosted := by
  unfold PlayerContext.putOut
  split <;> rfl

/-! ### `updateCall` -/

@[simp] theorem Live.updateCall_seconds (s : Live) (key : CallKey) (f : CallRecord → CallRecord) :
    (s.updateCall key f).seconds = s.seconds := rfl
@[simp] theorem Live.updateCall_startCause (s : Live) (key : CallKey) (f : CallRecord → CallRecord) :
    (s.updateCall key f).startCause = s.startCause := rfl
@[simp] theorem Live.updateCall_rateIsHigh (s : Live) (key : CallKey) (f : CallRecord → CallRecord) :
    (s.updateCall key f).rateIsHigh = s.rateIsHigh := rfl
@[simp] theorem Live.updateCall_restart (s : Live) (key : CallKey) (f : CallRecord → CallRecord) :
    (s.updateCall key f).restart = s.restart := rfl
@[simp] theorem Live.updateCall_wearDue (s : Live) (key : CallKey) (f : CallRecord → CallRecord) :
    (s.updateCall key f).wearDue = s.wearDue := rfl
@[simp] theorem Live.updateCall_free (s : Live) (key : CallKey) (f : CallRecord → CallRecord) :
    (s.updateCall key f).free = s.free := rfl
@[simp] theorem Live.updateCall_loop (s : Live) (key : CallKey) (f : CallRecord → CallRecord) :
    (s.updateCall key f).loop = s.loop := rfl
@[simp] theorem Live.updateCall_image (s : Live) (key : CallKey) (f : CallRecord → CallRecord) :
    (s.updateCall key f).image = s.image := rfl
@[simp] theorem Live.updateCall_store (s : Live) (key : CallKey) (f : CallRecord → CallRecord) :
    (s.updateCall key f).store = s.store := rfl
@[simp] theorem Live.updateCall_monitor (s : Live) (key : CallKey) (f : CallRecord → CallRecord) :
    (s.updateCall key f).monitor = s.monitor := rfl
@[simp] theorem Live.updateCall_chain (s : Live) (key : CallKey) (f : CallRecord → CallRecord) :
    (s.updateCall key f).chain = s.chain := rfl
@[simp] theorem Live.updateCall_zones (s : Live) (key : CallKey) (f : CallRecord → CallRecord) :
    (s.updateCall key f).zones = s.zones := rfl
@[simp] theorem Live.updateCall_gear (s : Live) (key : CallKey) (f : CallRecord → CallRecord) :
    (s.updateCall key f).gear = s.gear := rfl
@[simp] theorem Live.updateCall_calls (s : Live) (key : CallKey) (f : CallRecord → CallRecord) :
    (s.updateCall key f).calls = s.calls.map fun r => if hasKey key r then f r else r := rfl
@[simp] theorem Live.updateCall_circuits (s : Live) (key : CallKey) (f : CallRecord → CallRecord) :
    (s.updateCall key f).circuits = s.circuits := rfl
@[simp] theorem Live.updateCall_speech (s : Live) (key : CallKey) (f : CallRecord → CallRecord) :
    (s.updateCall key f).speech = s.speech := rfl
@[simp] theorem Live.updateCall_closing (s : Live) (key : CallKey) (f : CallRecord → CallRecord) :
    (s.updateCall key f).closing = s.closing := rfl
@[simp] theorem Live.updateCall_portC (s : Live) (key : CallKey) (f : CallRecord → CallRecord) :
    (s.updateCall key f).portC = s.portC := rfl
@[simp] theorem Live.updateCall_portF (s : Live) (key : CallKey) (f : CallRecord → CallRecord) :
    (s.updateCall key f).portF = s.portF := rfl

/-! ### `unqueue` -/

@[simp] theorem Live.unqueue_seconds (s : Live) (tag : Nat) : (s.unqueue tag).seconds = s.seconds := rfl
@[simp] theorem Live.unqueue_startCause (s : Live) (tag : Nat) : (s.unqueue tag).startCause = s.startCause := rfl
@[simp] theorem Live.unqueue_rateIsHigh (s : Live) (tag : Nat) : (s.unqueue tag).rateIsHigh = s.rateIsHigh := rfl
@[simp] theorem Live.unqueue_restart (s : Live) (tag : Nat) : (s.unqueue tag).restart = s.restart := rfl
@[simp] theorem Live.unqueue_wearDue (s : Live) (tag : Nat) : (s.unqueue tag).wearDue = s.wearDue := rfl
@[simp] theorem Live.unqueue_free (s : Live) (tag : Nat) : (s.unqueue tag).free = s.free := rfl
@[simp] theorem Live.unqueue_loop (s : Live) (tag : Nat) : (s.unqueue tag).loop = s.loop := rfl
@[simp] theorem Live.unqueue_image (s : Live) (tag : Nat) : (s.unqueue tag).image = s.image := rfl
@[simp] theorem Live.unqueue_store (s : Live) (tag : Nat) : (s.unqueue tag).store = s.store := rfl
@[simp] theorem Live.unqueue_monitor (s : Live) (tag : Nat) : (s.unqueue tag).monitor = s.monitor := rfl
@[simp] theorem Live.unqueue_chain (s : Live) (tag : Nat) : (s.unqueue tag).chain = s.chain := rfl
@[simp] theorem Live.unqueue_zones (s : Live) (tag : Nat) : (s.unqueue tag).zones = s.zones := rfl
@[simp] theorem Live.unqueue_gear (s : Live) (tag : Nat) : (s.unqueue tag).gear = s.gear := rfl
@[simp] theorem Live.unqueue_calls (s : Live) (tag : Nat) : (s.unqueue tag).calls = s.calls := rfl
@[simp] theorem Live.unqueue_circuits (s : Live) (tag : Nat) : (s.unqueue tag).circuits = s.circuits := rfl
@[simp] theorem Live.unqueue_closing (s : Live) (tag : Nat) : (s.unqueue tag).closing = s.closing := rfl
@[simp] theorem Live.unqueue_portC (s : Live) (tag : Nat) : (s.unqueue tag).portC = s.portC := rfl
@[simp] theorem Live.unqueue_portF (s : Live) (tag : Nat) : (s.unqueue tag).portF = s.portF := rfl

/-! ### `withPort` and `withPlayer` -/

@[simp] theorem Live.withPort_seconds (s : Live) (p : Port) (r : PortRecord) : (s.withPort p r).seconds = s.seconds := by cases p <;> rfl
@[simp] theorem Live.withPort_startCause (s : Live) (p : Port) (r : PortRecord) : (s.withPort p r).startCause = s.startCause := by cases p <;> rfl
@[simp] theorem Live.withPort_rateIsHigh (s : Live) (p : Port) (r : PortRecord) : (s.withPort p r).rateIsHigh = s.rateIsHigh := by cases p <;> rfl
@[simp] theorem Live.withPort_restart (s : Live) (p : Port) (r : PortRecord) : (s.withPort p r).restart = s.restart := by cases p <;> rfl
@[simp] theorem Live.withPort_wearDue (s : Live) (p : Port) (r : PortRecord) : (s.withPort p r).wearDue = s.wearDue := by cases p <;> rfl
@[simp] theorem Live.withPort_free (s : Live) (p : Port) (r : PortRecord) : (s.withPort p r).free = s.free := by cases p <;> rfl
@[simp] theorem Live.withPort_loop (s : Live) (p : Port) (r : PortRecord) : (s.withPort p r).loop = s.loop := by cases p <;> rfl
@[simp] theorem Live.withPort_image (s : Live) (p : Port) (r : PortRecord) : (s.withPort p r).image = s.image := by cases p <;> rfl
@[simp] theorem Live.withPort_store (s : Live) (p : Port) (r : PortRecord) : (s.withPort p r).store = s.store := by cases p <;> rfl
@[simp] theorem Live.withPort_monitor (s : Live) (p : Port) (r : PortRecord) : (s.withPort p r).monitor = s.monitor := by cases p <;> rfl
@[simp] theorem Live.withPort_chain (s : Live) (p : Port) (r : PortRecord) : (s.withPort p r).chain = s.chain := by cases p <;> rfl
@[simp] theorem Live.withPort_zones (s : Live) (p : Port) (r : PortRecord) : (s.withPort p r).zones = s.zones := by cases p <;> rfl
@[simp] theorem Live.withPort_gear (s : Live) (p : Port) (r : PortRecord) : (s.withPort p r).gear = s.gear := by cases p <;> rfl
@[simp] theorem Live.withPort_calls (s : Live) (p : Port) (r : PortRecord) : (s.withPort p r).calls = s.calls := by cases p <;> rfl
@[simp] theorem Live.withPort_circuits (s : Live) (p : Port) (r : PortRecord) : (s.withPort p r).circuits = s.circuits := by cases p <;> rfl
@[simp] theorem Live.withPort_speech (s : Live) (p : Port) (r : PortRecord) : (s.withPort p r).speech = s.speech := by cases p <;> rfl
@[simp] theorem Live.withPort_closing (s : Live) (p : Port) (r : PortRecord) : (s.withPort p r).closing = s.closing := by cases p <;> rfl
@[simp] theorem Live.withPlayer_seconds (s : Live) (pl : Player) (c : PlayerContext) : (s.withPlayer pl c).seconds = s.seconds := by cases pl <;> rfl
@[simp] theorem Live.withPlayer_startCause (s : Live) (pl : Player) (c : PlayerContext) : (s.withPlayer pl c).startCause = s.startCause := by cases pl <;> rfl
@[simp] theorem Live.withPlayer_rateIsHigh (s : Live) (pl : Player) (c : PlayerContext) : (s.withPlayer pl c).rateIsHigh = s.rateIsHigh := by cases pl <;> rfl
@[simp] theorem Live.withPlayer_restart (s : Live) (pl : Player) (c : PlayerContext) : (s.withPlayer pl c).restart = s.restart := by cases pl <;> rfl
@[simp] theorem Live.withPlayer_wearDue (s : Live) (pl : Player) (c : PlayerContext) : (s.withPlayer pl c).wearDue = s.wearDue := by cases pl <;> rfl
@[simp] theorem Live.withPlayer_free (s : Live) (pl : Player) (c : PlayerContext) : (s.withPlayer pl c).free = s.free := by cases pl <;> rfl
@[simp] theorem Live.withPlayer_loop (s : Live) (pl : Player) (c : PlayerContext) : (s.withPlayer pl c).loop = s.loop := by cases pl <;> rfl
@[simp] theorem Live.withPlayer_image (s : Live) (pl : Player) (c : PlayerContext) : (s.withPlayer pl c).image = s.image := by cases pl <;> rfl
@[simp] theorem Live.withPlayer_store (s : Live) (pl : Player) (c : PlayerContext) : (s.withPlayer pl c).store = s.store := by cases pl <;> rfl
@[simp] theorem Live.withPlayer_monitor (s : Live) (pl : Player) (c : PlayerContext) : (s.withPlayer pl c).monitor = s.monitor := by cases pl <;> rfl
@[simp] theorem Live.withPlayer_chain (s : Live) (pl : Player) (c : PlayerContext) : (s.withPlayer pl c).chain = s.chain := by cases pl <;> rfl
@[simp] theorem Live.withPlayer_zones (s : Live) (pl : Player) (c : PlayerContext) : (s.withPlayer pl c).zones = s.zones := by cases pl <;> rfl
@[simp] theorem Live.withPlayer_gear (s : Live) (pl : Player) (c : PlayerContext) : (s.withPlayer pl c).gear = s.gear := by cases pl <;> rfl
@[simp] theorem Live.withPlayer_calls (s : Live) (pl : Player) (c : PlayerContext) : (s.withPlayer pl c).calls = s.calls := by cases pl <;> rfl
@[simp] theorem Live.withPlayer_circuits (s : Live) (pl : Player) (c : PlayerContext) : (s.withPlayer pl c).circuits = s.circuits := by cases pl <;> rfl
@[simp] theorem Live.withPlayer_closing (s : Live) (pl : Player) (c : PlayerContext) : (s.withPlayer pl c).closing = s.closing := by cases pl <;> rfl
@[simp] theorem Live.withPlayer_portC (s : Live) (pl : Player) (c : PlayerContext) : (s.withPlayer pl c).portC = s.portC := by cases pl <;> rfl
@[simp] theorem Live.withPlayer_portF (s : Live) (pl : Player) (c : PlayerContext) : (s.withPlayer pl c).portF = s.portF := by cases pl <;> rfl

/-! ### Reading what was written -/

@[simp] theorem Bank.read_put_same {n : Nat} {α : Type} (b : Bank n α) (i : Nat) (x d : α) (h : i < n) :
    (b.put i x).read i d = x := by
  have : i < b.rows.length := by rw [b.size]; exact h
  simp [Bank.put, Bank.read, List.getD, this]

@[simp] theorem Bank.read_put_other {n : Nat} {α : Type} (b : Bank n α) (i j : Nat) (x d : α) (h : i ≠ j) :
    (b.put i x).read j d = b.read j d := by
  simp [Bank.put, Bank.read, List.getD, h]

theorem Bank.put_beyond {n : Nat} {α : Type} (b : Bank n α) (i : Nat) (x : α) (h : n ≤ i) : b.put i x = b := by
  have : b.rows.length ≤ i := by rw [b.size]; exact h
  cases b
  simp_all [Bank.put, List.set_eq_of_length_le]

/-- Beyond a bank's last record a read gives the value for an absent one. -/
theorem Bank.read_beyond {n : Nat} {α : Type} (b : Bank n α) (i : Nat) (d : α) (h : n ≤ i) : b.read i d = d := by
  simp [Bank.read, List.getD_eq_getElem?_getD, List.getElem?_eq_none (by rw [b.size]; exact h : b.rows.length ≤ i)]

@[simp] theorem Bank.read_replicate {α : Type} (n : Nat) (x : α) (i : Nat) : (Bank.replicate n x).read i x = x := by
  simp only [Bank.read, Bank.replicate, List.getD, List.getElem?_replicate]
  split <;> rfl

@[simp] theorem Bank.read_build {α : Type} (n : Nat) (f : Nat → α) (i : Nat) (d : α) (h : i < n) :
    (Bank.build n f).read i d = f i := by
  simp [Bank.read, Bank.build, List.getD, h]

@[simp] theorem Live.port_withPort_same (s : Live) (p : Port) (r : PortRecord) : (s.withPort p r).port p = r := by
  cases p <;> rfl

theorem Live.port_withPort_other (s : Live) (p q : Port) (r : PortRecord) (h : q ≠ p) :
    (s.withPort p r).port q = s.port q := by
  cases p <;> cases q <;> first | rfl | exact absurd rfl h

@[simp] theorem Live.player_withPlayer_same (s : Live) (pl : Player) (c : PlayerContext) :
    (s.withPlayer pl c).player pl = c := by
  cases pl <;> rfl

theorem Live.player_withPlayer_other (s : Live) (pl q : Player) (c : PlayerContext) (h : q ≠ pl) :
    (s.withPlayer pl c).player q = s.player q := by
  cases pl <;> cases q <;> first | rfl | exact absurd rfl h

@[simp] theorem Live.shutter_withShutter_same (s : Live) (k : Nat) (r : ShutterRecord) (h : k < 32) :
    (s.withShutter k r).shutter k = r := by
  simp [Live.shutter, h]

@[simp] theorem Live.circuit_withCircuit_same (s : Live) (c : Nat) (r : CircuitRecord) (h : c < 16) :
    (s.withCircuit c r).circuit c = r := by
  simp [Live.circuit, h]

@[simp] theorem Live.zone_withZone_same (s : Live) (z : Nat) (r : ZoneRecord) (h : z < 16) :
    (s.withZone z r).zone z = r := by
  simp [Live.zone, h]

/-- A numbered point lies within its kind's capacity (R2). -/
theorem FieldLoop.numbered_lt {l : FieldLoop} {k : ModuleKind} {i : Nat} (h : l.numbered k i = true) : i < capacity k := by
  simp only [FieldLoop.numbered, Bool.and_eq_true, decide_eq_true_eq] at h
  exact h.2

/-- Only a numbered shutter of the plan is a sill shutter. -/
theorem Live.isSill_lt {s : Live} {k : Nat} (h : s.isSill k = true) : k < 32 := by
  by_contra hk
  have : s.plan.shutter k = emptyShutter := Bank.read_beyond _ _ _ (by omega)
  simp [Live.isSill, Plan.sillOf, this, emptyShutter] at h

/-- Only the sixteen zones can be in ALARM. -/
theorem Live.inAlarm_lt {s : Live} {z : Nat} (h : s.inAlarm z = true) : z < 16 := by
  by_contra hz
  have : s.zone z = .start false := Bank.read_beyond _ _ _ (by omega)
  simp [Live.inAlarm, this, ZoneRecord.start] at h

/-- A channel that is held is one of the eight. -/
theorem Live.held_lt {s : Live} {ch : Nat} {pl : Player} (h : (s.channel ch).holder = some pl) : ch < 8 := by
  by_contra hc
  have : s.channel ch = .rest := Bank.read_beyond _ _ _ (by omega)
  simp [this, Channel.rest] at h

/-- A channel that is routed is one of the eight. -/
theorem Live.routed_lt {s : Live} {ch : Nat} {pl : Player} (h : (s.channel ch).routing = some pl) : ch < 8 := by
  by_contra hc
  have : s.channel ch = .rest := Bank.read_beyond _ _ _ (by omega)
  simp [this, Channel.rest] at h

/-- A circuit that rings is one of the sixteen. -/
theorem Live.ring_lt {s : Live} {c : Nat} {g : Ring} (h : (s.circuit c).ring = some g) : c < 16 := by
  by_contra hc
  have : s.circuit c = ⟨none, 0, none⟩ := Bank.read_beyond _ _ _ (by omega)
  simp [this] at h

end Sys2Proof.Machine
end

