-- ==== Sys2Proof/Laws/Frames.lean ====
section
/-! SUPPORT. The frame of each shared operation: which parts of the running unit it can change, and that it changes
nothing else. -/

set_option Elab.async false

namespace Sys2Proof.Machine
open Sys2Proof

/-! ## Composing frames -/

/-- What every operation below a request's rule keeps: the parts outside `ps`, what the ports' receivers and replies
hold, and the notices already queued or lost. -/
structure Keeps (ps : List Part) (s t : Live) : Prop where
  parts : onlyParts ps s t
  wire : ∀ p, (t.port p).receiver = (s.port p).receiver ∧ (t.port p).gap = (s.port p).gap ∧
    (t.port p).replyPending = (s.port p).replyPending ∧ (t.port p).reply = (s.port p).reply
  notices : ∀ p, (s.port p).notices <+: (t.port p).notices ∧ ((s.port p).lost = true → (t.port p).lost = true)

theorem onlyParts_refl (ps : List Part) (s : Live) : onlyParts ps s s := by
  intro p _
  cases p <;> simp [samePart]

theorem samePart_trans {s t u : Live} {p : Part} (h : samePart s t p) (g : samePart t u p) : samePart s u p := by
  cases p <;> simp_all [samePart]

theorem onlyParts_widen {ps qs : List Part} {s t : Live} (h : onlyParts qs s t) (hq : qs ⊆ ps := by decide) :
    onlyParts ps s t := fun p hp => h p fun hm => hp (hq hm)

theorem onlyParts_trans {ps : List Part} {s t u : Live} (h : onlyParts ps s t) (g : onlyParts ps t u) :
    onlyParts ps s u := fun p hp => samePart_trans (h p hp) (g p hp)

theorem onlyParts_ite {ps : List Part} {s t u : Live} {c : Prop} [Decidable c] (h : onlyParts ps s t)
    (g : onlyParts ps s u) : onlyParts ps s (if c then t else u) := by
  split
  · exact h
  · exact g

theorem keeps_of {ps : List Part} {s t : Live} (h : onlyParts ps s t) (hc : t.portC = s.portC) (hf : t.portF = s.portF) :
    Keeps ps s t where
  parts := h
  wire := by intro p; cases p <;> simp [Live.port, hc, hf]
  notices := by intro p; cases p <;> simp [Live.port, hc, hf]

theorem keeps_refl (ps : List Part) (s : Live) : Keeps ps s s := keeps_of (onlyParts_refl ps s) rfl rfl

theorem keeps_widen {ps qs : List Part} {s t : Live} (h : Keeps qs s t) (hq : qs ⊆ ps := by decide) : Keeps ps s t where
  parts := onlyParts_widen h.parts hq
  wire := h.wire
  notices := h.notices

theorem keeps_trans {ps : List Part} {s t u : Live} (h : Keeps ps s t) (g : Keeps ps t u) : Keeps ps s u where
  parts := onlyParts_trans h.parts g.parts
  wire := fun p =>
    ⟨(g.wire p).1.trans (h.wire p).1, (g.wire p).2.1.trans (h.wire p).2.1, (g.wire p).2.2.1.trans (h.wire p).2.2.1,
      (g.wire p).2.2.2.trans (h.wire p).2.2.2⟩
  notices := fun p => ⟨(h.notices p).1.trans (g.notices p).1, fun x => (g.notices p).2 ((h.notices p).2 x)⟩

theorem Keeps.next {ps qs : List Part} {s t u : Live} (h : Keeps ps s t) (g : Keeps qs t u)
    (hq : qs ⊆ ps := by decide) : Keeps ps s u := keeps_trans h (keeps_widen g hq)

theorem keeps_ite {ps : List Part} {s t u : Live} {c : Prop} [Decidable c] (h : Keeps ps s t)
    (g : Keeps ps s u) : Keeps ps s (if c then t else u) := by
  split
  · exact h
  · exact g

theorem keeps_foldl {α : Type} {ps : List Part} (f : Live → α → Live) (h : ∀ s x, Keeps ps s (f s x))
    (l : List α) (s : Live) : Keeps ps s (l.foldl f s) := by
  induction l generalizing s with
  | nil => exact keeps_refl ps s
  | cons x rest ih => exact keeps_trans (h s x) (ih _)

/-- The ports alone. -/
abbrev portsOnly : List Part := [.portC, .portF]
/-- What a change of a shutter record touches. -/
abbrev gearParts : List Part := [.gear, .image, .loop, .portC, .portF]
/-- What a move of a shutter with its wear counts touches. -/
abbrev wearParts : List Part := [.gear, .image, .loop, .monitor, .portC, .portF]
/-- What a move of the chain touches. -/
abbrev chainParts : List Part := [.gear, .image, .loop, .monitor, .chain, .portC, .portF]
/-- What a change of the call list and the circuits touches. -/
abbrev callParts : List Part := [.calls, .circuits, .image, .loop, .portC, .portF]
/-- What a change of speech touches. -/
abbrev speechParts : List Part := [.speech, .image, .portC, .portF]
/-- What a step of the closing programme touches. -/
abbrev closingParts : List Part :=
  [.gear, .image, .loop, .monitor, .chain, .calls, .circuits, .speech, .closing, .portC, .portF]
/-- What a change of a zone touches. -/
abbrev zoneParts : List Part :=
  [.zones, .gear, .image, .loop, .monitor, .chain, .calls, .circuits, .speech, .closing, .portC, .portF]

/-! ## Notices, wear and outputs -/

theorem post_only (s : Live) (n : Note) : Keeps portsOnly s (s.post n) where
  parts := by intro p hp; cases p <;> simp_all [samePart]
  wire := by
    intro p
    cases p <;> simp only [Live.port, Live.post_portC, Live.post_portF, PortRecord.take] <;> split <;> simp
  notices := by
    intro p
    cases p <;> simp only [Live.port, Live.post_portC, Live.post_portF, PortRecord.take] <;> split <;> simp

theorem postIf_only (s : Live) (b : Bool) (n : Note) : Keeps portsOnly s (s.postIf b n) :=
  keeps_ite (post_only s n) (keeps_refl _ s)

theorem postAll_only (s : Live) (ns : List Note) : Keeps portsOnly s (s.postAll ns) := keeps_foldl _ post_only ns s

theorem raiseWear_only (s : Live) (e : WearEvent) : Keeps [.monitor, .portC, .portF] s (s.raiseWear e) := by
  unfold Live.raiseWear
  refine keeps_ite (keeps_refl _ s) (Keeps.next (t := _) ?_ (postIf_only _ _ _))
  exact keeps_of (by intro q hq; cases q <;> simp_all [samePart]) rfl rfl

theorem blankPush_only (s : Live) (p : Nat) : Keeps [.loop] s (s.blankPush p) := by
  refine keeps_ite ?_ (keeps_refl _ s)
  exact keeps_of (by intro q hq; cases q <;> simp_all [samePart]) rfl rfl

theorem blankEdge_only (s : Live) (k : Nat) : Keeps [.loop] s (s.blankEdge k) := by
  refine keeps_ite ?_ (keeps_refl _ s)
  exact keeps_of (by intro q hq; cases q <;> simp_all [samePart]) rfl rfl

theorem sendMessage_only (s : Live) (pos : Nat) (m : ModuleRecord) : Keeps [.loop] s (s.sendMessage pos m) :=
  keeps_of (by intro q hq; cases q <;> simp_all [samePart, Live.sendMessage]) rfl rfl

theorem writeIndicator_only (s : Live) (p : Nat) (on : Bool) : Keeps [.image, .loop] s (s.writeIndicator p on) := by
  unfold Live.writeIndicator
  refine keeps_ite (Keeps.next (t := _) ?_ (blankPush_only _ _)) (keeps_refl _ s)
  exact keeps_of (by intro q hq; cases q <;> simp_all [samePart]) rfl rfl

theorem writeGear_only (s : Live) (k : Nat) (st : ShutterState) : Keeps [.image, .loop] s (s.writeGear k st) := by
  unfold Live.writeGear
  refine keeps_ite (keeps_ite (Keeps.next (t := _) ?_ (blankEdge_only _ _)) ?_) (keeps_refl _ s)
  all_goals exact keeps_of (by intro q hq; cases q <;> simp_all [samePart]) rfl rfl

theorem writeSounder_only (s : Live) (c : Nat) (on : Bool) : Keeps [.image] s (s.writeSounder c on) := by
  unfold Live.writeSounder
  refine keeps_ite ?_ (keeps_refl _ s)
  exact keeps_of (by intro q hq; cases q <;> simp_all [samePart]) rfl rfl

theorem writeGongs_only (s : Live) (on : Bool) : Keeps [.chain, .image] s (s.writeGongs on) := by
  exact keeps_of (by intro q hq; cases q <;> simp_all [samePart]) rfl rfl

theorem writeChannel_only (s : Live) (ch : Nat) (on a b : Bool) : Keeps [.image] s (s.writeChannel ch on a b) := by
  unfold Live.writeChannel
  refine keeps_ite ?_ (keeps_refl _ s)
  exact keeps_of (by intro q hq; cases q <;> simp_all [samePart]) rfl rfl

/-! ## Taking a request -/

theorem withPort_only (s : Live) (p : Port) (r : PortRecord) : onlyParts [portPart p] s (s.withPort p r) := by
  intro q hq; cases p <;> cases q <;> simp_all [samePart, portPart, Live.withPort]

theorem portPart_sub (p : Port) : [portPart p] ⊆ portsOnly := by cases p <;> decide

theorem breakLoad_only (s : Live) (p : Port) (b : Cursor → Bool) : onlyParts [.store] s (s.breakLoad p b) := by
  unfold Live.breakLoad
  refine onlyParts_ite ?_ (onlyParts_refl _ s)
  intro q hq; cases q <;> simp_all [samePart]

/-- A request changes what its rule changes, the port it came on and, where it breaks a load, the store. -/
theorem takeRequest_only {ps : List Part} (p : Port) (k : Kind) (b : Cursor → Bool) (fit : Bool) (h : Live → Handled)
    (s : Live) (hh : ∀ s, onlyParts ps s (h s).1) :
    onlyParts (.store :: portPart p :: ps) s (takeRequest p k b fit h s) := by
  have port : ∀ (t : Live) (r : PortRecord), onlyParts (.store :: portPart p :: ps) t (t.withPort p r) := fun t r =>
    onlyParts_widen (withPort_only t p r) (by simp)
  have load : ∀ t : Live, onlyParts (.store :: portPart p :: ps) t (t.breakLoad p b) := fun t =>
    onlyParts_widen (breakLoad_only t p b) (by simp)
  have rule : ∀ t : Live, onlyParts (.store :: portPart p :: ps) t (h t).1 := fun t =>
    onlyParts_widen (hh t) (fun x hx => by simp [hx])
  unfold takeRequest
  refine onlyParts_ite ?_ (onlyParts_refl _ s)
  extract_lets t
  refine onlyParts_trans (t := t) (onlyParts_trans (port s _) (load _)) ?_
  refine onlyParts_ite (port _ _) (onlyParts_ite (port _ _) ?_)
  unfold Live.putHandled
  split
  · exact onlyParts_trans (rule _) (port _ _)
  · exact rule _

/-- A read changes the port it came on alone. -/
theorem readRequest_only {α : Type} (p : Port) (k : Kind) (body : Body α) (h : α → Live → Result × Fields) (s : Live) :
    onlyParts [portPart p] s (readRequest p k body h s) := by
  have port : ∀ (t : Live) (r : PortRecord), onlyParts [portPart p] t (t.withPort p r) := fun t r => withPort_only t p r
  unfold readRequest takeRequest
  refine onlyParts_ite ?_ (onlyParts_refl _ s)
  extract_lets t
  have taken : t = s.takeFrame p := by simp [t, Live.breakLoad, breaksNever]
  refine onlyParts_trans (t := t) (taken ▸ port s _) ?_
  refine onlyParts_ite (port _ _) (onlyParts_ite (port _ _) ?_)
  cases body
  · exact port _ _
  · exact port _ _

/-! ## The Shutter Controller -/

theorem withShutter_only (s : Live) (k : Nat) (r : ShutterRecord) : Keeps [.gear] s (s.withShutter k r) := by
  exact keeps_of (by intro q hq; cases q <;> simp_all [samePart]) rfl rfl

theorem changeShutter_only (s : Live) (k : Nat) (r : ShutterRecord) : Keeps gearParts s (s.changeShutter k r) := by
  unfold Live.changeShutter
  refine Keeps.next (keeps_trans (keeps_widen (withShutter_only s k r)) ?_) (postIf_only _ _ _)
  exact keeps_ite (keeps_refl _ _) (keeps_widen (writeGear_only _ _ _))

theorem closeAtLimit_only (s : Live) (k : Nat) : Keeps wearParts s (s.closeAtLimit k) :=
  Keeps.next (keeps_widen (changeShutter_only s k _)) (raiseWear_only _ _)

theorem thirdObstruction_only (s : Live) (k : Nat) : Keeps gearParts s (s.thirdObstruction k) :=
  keeps_ite (Keeps.next (keeps_widen (withShutter_only s k _)) (post_only _ _))
    (Keeps.next (changeShutter_only s k _) (post_only _ _))

theorem obstruct_only (s : Live) (k : Nat) : Keeps wearParts s (s.obstruct k) := by
  unfold Live.obstruct
  extract_lets r n t
  refine keeps_trans (t := t) (Keeps.next (Keeps.next (keeps_widen (withShutter_only s k _)) (raiseWear_only _ _))
    (post_only _ _)) ?_
  exact keeps_ite (keeps_widen (changeShutter_only _ _ _)) (keeps_widen (thirdObstruction_only _ _))

theorem enterDescending_only (s : Live) (k : Nat) (r : ShutterRecord) :
    Keeps wearParts s (s.enterDescending k r) := by
  unfold Live.enterDescending
  extract_lets t
  refine keeps_trans (t := t) (keeps_widen (changeShutter_only s k _)) ?_
  exact keeps_ite (closeAtLimit_only _ _) (keeps_ite (obstruct_only _ _) (keeps_refl _ _))

theorem leaveArmed_only (s : Live) (k : Nat) (u : Bool) : Keeps wearParts s (s.leaveArmed k u) :=
  enterDescending_only s k _

theorem judge_only (s : Live) (k : Nat) : Keeps wearParts s (s.judge k) := by
  unfold Live.judge
  refine keeps_ite (keeps_ite (leaveArmed_only s k _) (keeps_ite ?_ (keeps_ite (keeps_refl _ _) ?_)))
    (keeps_refl _ _)
  · exact Keeps.next (keeps_widen (post_only s _)) (leaveArmed_only _ _ _)
  · exact Keeps.next (keeps_widen (withShutter_only s k _)) (post_only _ _)

theorem judgeWhere_only (s : Live) (which : Nat → Bool) : Keeps wearParts s (s.judgeWhere which) :=
  keeps_foldl _ (fun s k => keeps_ite (judge_only s k) (keeps_refl _ _)) _ s

theorem judgeSills_only (s : Live) : Keeps wearParts s s.judgeSills := judgeWhere_only s _

theorem takeChainState_only (s : Live) : Keeps wearParts s s.takeChainState := by
  unfold Live.takeChainState
  refine keeps_ite (keeps_refl _ _) (Keeps.next (t := _) ?_ (judgeSills_only _))
  exact keeps_of (by intro q hq; cases q <;> simp_all [samePart]) rfl rfl

theorem takeAnswer_only (s : Live) (i : Nat) (a : SillAnswer) : Keeps wearParts s (s.takeAnswer i a) := by
  unfold Live.takeAnswer
  refine Keeps.next (t := _) ?_ (judgeWhere_only _ _)
  exact keeps_of (by intro q hq; cases q <;> simp_all [samePart]) rfl rfl

theorem jam_only (s : Live) (k : Nat) (why : JamReason) : Keeps gearParts s (s.jam k why) := changeShutter_only s k _

theorem retractStep_only (k : Nat) (s : Live) : Keeps gearParts s (retractStep k s) :=
  keeps_ite (changeShutter_only s k _) (keeps_refl _ _)

theorem pauseStep_only (k : Nat) (s : Live) : Keeps wearParts s (pauseStep k s) :=
  keeps_ite (enterDescending_only s k _) (keeps_refl _ _)

theorem descentLimitStep_only (k : Nat) (s : Live) : Keeps gearParts s (descentLimitStep k s) :=
  keeps_ite (jam_only s k _) (keeps_refl _ _)

theorem raiseLimitStep_only (k : Nat) (s : Live) : Keeps gearParts s (raiseLimitStep k s) :=
  keeps_ite (jam_only s k _) (keeps_refl _ _)

theorem edgeAsserted_only (s : Live) (k : Nat) : Keeps wearParts s (s.edgeAsserted k) :=
  keeps_ite (obstruct_only s k) (keeps_refl _ _)

/-! ## The Chain Monitor -/

theorem rejudgeSill_only (s : Live) (i : Nat) : Keeps wearParts s (s.rejudgeSill i) := by
  unfold Live.rejudgeSill
  refine keeps_ite (keeps_refl _ _) (Keeps.next (t := _) ?_ (takeAnswer_only _ _ _))
  exact keeps_of (by intro q hq; cases q <;> simp_all [samePart]) rfl rfl

theorem rejudge_only (s : Live) : Keeps wearParts s s.rejudge := keeps_foldl _ rejudgeSill_only _ s

theorem driveTo_only (s : Live) (d : DriveOutput) : Keeps chainParts s (s.driveTo d) := by
  unfold Live.driveTo
  refine keeps_ite (keeps_refl _ _) (keeps_ite ?_ (keeps_ite (Keeps.next (t := _) ?_ (rejudge_only _)) ?_))
  all_goals exact keeps_of (by intro q hq; cases q <;> simp_all [samePart]) rfl rfl

theorem monitorPulse_only (s : Live) (phase : Nat) : Keeps wearParts s (s.monitorPulse phase) := by
  have count : Keeps wearParts s s.advanceCount := by
    unfold Live.advanceCount
    refine Keeps.next (t := _) ?_ (raiseWear_only _ _)
    exact keeps_of (by intro q hq; cases q <;> simp_all [samePart]) rfl rfl
  have index : ∀ t : Live, Keeps wearParts t t.loseIndex := by
    intro t
    unfold Live.loseIndex
    refine keeps_ite (Keeps.next (t := _) ?_ (post_only _ _)) (keeps_refl _ _)
    exact keeps_of (by intro q hq; cases q <;> simp_all [samePart]) rfl rfl
  have timers : ∀ t : Live, Keeps wearParts t (t.feedTimers phase) := by
    intro t
    unfold Live.feedTimers
    refine keeps_ite (Keeps.next (t := _) ?_ (postIf_only _ _ _)) ?_
    all_goals exact keeps_of (by intro q hq; cases q <;> simp_all [samePart]) rfl rfl
  have all : Keeps wearParts s ((((s.advanceCount).loseIndex).feedTimers phase).rejudge) :=
    keeps_trans (keeps_trans (keeps_trans count (index _)) (timers _)) (rejudge_only _)
  unfold Live.monitorPulse
  exact keeps_ite (keeps_trans all (judgeSills_only _)) all

theorem monitorIndex_only (s : Live) : Keeps wearParts s s.monitorIndex := by
  have set : Keeps wearParts s { s.raiseWear .index with monitor := { (s.raiseWear .index).monitor with
      count := 0, watchArmed := false, lastError := some s.indexError,
      position := (indexJudge s.monitor.position s.indexError s.plan.geometry.indexTolerance).1 } } := by
    refine keeps_trans (keeps_widen (raiseWear_only s .index)) ?_
    exact keeps_of (by intro q hq; cases q <;> simp_all [samePart]) rfl rfl
  unfold Live.monitorIndex
  dsimp only
  split
  · exact Keeps.next set (post_only _ _)
  · exact set

/-! ## The Chain Drive Controller -/

theorem setChain_only (s : Live) (st : ChainState) : Keeps chainParts s (s.setChain st) := by
  unfold Live.setChain
  refine keeps_ite (keeps_refl _ _) (Keeps.next (t := _) ?_ (post_only _ _))
  exact keeps_of (by intro q hq; cases q <;> simp_all [samePart]) rfl rfl

theorem enterChain_only (s : Live) (st : ChainState) : Keeps chainParts s (s.enterChain st) :=
  Keeps.next (setChain_only s st) (takeChainState_only _)

/-- A change of the Chain Drive Controller's own record. -/
theorem chain_only (s : Live) (c : ChainDrive) : Keeps chainParts s { s with chain := c } := by
  exact keeps_of (by intro q hq; cases q <;> simp_all [samePart]) rfl rfl

theorem brakeStep_only (s : Live) : Keeps chainParts s s.brakeStep :=
  keeps_trans (driveTo_only s _) (chain_only _ _)

@[simp] theorem brakeStep_state (s : Live) : s.brakeStep.chain.state = .inspection .braked := rfl

@[simp] theorem brakeStep_drive (s : Live) : s.brakeStep.chain.drive = .brake := by
  unfold Live.brakeStep Live.driveTo
  split <;> simp_all

/-- The braking of a step is silent: no notice, and nothing for the Shutter Controller (R51). -/
theorem brakeStep_silent (s : Live) :
    s.brakeStep.gear = s.gear ∧ s.brakeStep.portC = s.portC ∧ s.brakeStep.portF = s.portF := by
  unfold Live.brakeStep Live.driveTo
  split <;> simp

theorem endSweep_only (s : Live) : Keeps chainParts s s.endSweep :=
  keeps_ite (Keeps.next (chain_only s _) (writeGongs_only _ _)) (keeps_refl _ _)

theorem placeStop_only (s : Live) (c : StopCause) : Keeps chainParts s (s.placeStop c) := by
  unfold Live.placeStop
  extract_lets r d t
  refine keeps_trans (t := t) (chain_only s _) ?_
  exact keeps_ite (enterChain_only _ _) (keeps_trans (driveTo_only _ _) (enterChain_only _ _))

theorem requestStop_only (s : Live) (c : StopCause) : Keeps chainParts s (s.requestStop c) := by
  unfold Live.requestStop
  extract_lets t
  refine keeps_trans (t := t) (endSweep_only s) ?_
  exact keeps_ite (placeStop_only _ _)
    (keeps_ite (keeps_refl _ _) (Keeps.next (chain_only _ _) (post_only _ _)))

theorem placeDeferred_only (s : Live) : Keeps chainParts s s.placeDeferred := by
  unfold Live.placeDeferred
  split
  · exact keeps_ite (keeps_trans (endSweep_only s) (placeStop_only _ _)) (keeps_refl _ _)
  · exact keeps_refl _ _

theorem emergency_only (s : Live) (r : EmergencyReason) (i : Nat) (t : ChainState) :
    Keeps chainParts s (s.emergency r i t) := by
  unfold Live.emergency
  exact Keeps.next (Keeps.next (Keeps.next (keeps_trans (keeps_trans (keeps_trans
    (endSweep_only s) (chain_only _ _)) (driveTo_only _ _)) (setChain_only _ _)) (raiseWear_only _ _)) (post_only _ _))
    (takeChainState_only _)

theorem endWarning_only (s : Live) (st : ChainState) : Keeps chainParts s (s.endWarning st) :=
  keeps_trans (Keeps.next (chain_only s _) (writeGongs_only _ _)) (enterChain_only _ _)

theorem dropTo_only (s : Live) (st : ChainState) : Keeps chainParts s (s.dropTo st) :=
  keeps_trans (chain_only s _) (enterChain_only _ _)

theorem fireStop_only (s : Live) : Keeps chainParts s s.fireStop := by
  unfold Live.fireStop
  split
  · exact keeps_ite (keeps_trans (endSweep_only s) (placeStop_only _ _)) (emergency_only s _ _ _)
  · exact enterChain_only s _
  · exact endWarning_only s _
  · exact emergency_only s _ _ _
  · exact dropTo_only s _
  · exact enterChain_only s _
  · exact enterChain_only s _
  · exact enterChain_only s _
  · exact keeps_refl _ _

theorem flapTrip_only (s : Live) (i : Nat) : Keeps chainParts s (s.flapTrip i) := by
  unfold Live.flapTrip
  split
  · exact emergency_only s _ _ _
  · exact emergency_only s _ _ _
  · exact emergency_only s _ _ _
  · exact dropTo_only s _
  · exact endWarning_only s _
  · exact emergency_only s _ _ _
  · exact dropTo_only s _
  all_goals exact keeps_refl _ _

theorem sillLeavesOpen_only (s : Live) (k : Nat) (b : Bool) : Keeps chainParts s (s.sillLeavesOpen k b) := by
  unfold Live.sillLeavesOpen
  split
  · exact emergency_only s _ _ _
  · exact emergency_only s _ _ _
  · exact emergency_only s _ _ _
  · exact keeps_refl _ _
  · exact endWarning_only s _
  · exact emergency_only s _ _ _
  all_goals exact keeps_refl _ _

theorem flapChange_only (s : Live) (b t : Bool) : Keeps chainParts s (s.flapChange b t) := by
  unfold Live.flapChange
  have start := Keeps.next (chain_only s (if b then { s.chain with flapBottom := t } else { s.chain with flapTop := t }))
    (post_only _ (.flapChange b t))
  exact keeps_ite (keeps_trans start (flapTrip_only _ _)) start

theorem slowChange_only (s : Live) (b : Bool) : Keeps chainParts s (s.slowChange b) := by
  unfold Live.slowChange
  dsimp only
  split <;> first
    | exact keeps_trans (chain_only s _) (driveTo_only _ _)
    | exact chain_only s _

theorem enterWarning_only (s : Live) (l : Option Nat) : Keeps chainParts s (s.enterWarning l) :=
  keeps_trans (Keeps.next (chain_only s _) (writeGongs_only _ _)) (enterChain_only _ _)

theorem beginSweep_only (s : Live) (n : Nat) : Keeps chainParts s (s.beginSweep n) :=
  Keeps.next (chain_only s _) (writeGongs_only _ _)

theorem startWarningEndStep_only (s : Live) : Keeps chainParts s (startWarningEndStep s) := by
  unfold startWarningEndStep
  refine keeps_ite ?_ (keeps_refl _ _)
  extract_lets n d t u
  refine keeps_trans (t := t) (Keeps.next (chain_only s _) (writeGongs_only _ _)) ?_
  have run : Keeps chainParts t u := keeps_trans (driveTo_only t t.serviceDrive) (enterChain_only _ .running)
  clear_value n
  cases n
  · exact run
  · exact keeps_trans run (beginSweep_only _ _)

theorem warningGongStep_only (s : Live) : Keeps [.chain, .image] s (warningGongStep s) := by
  unfold warningGongStep
  split
  · exact keeps_ite (keeps_refl _ _) (writeGongs_only s _)
  · exact keeps_refl _ _

theorem sweepGongStep_only (s : Live) : Keeps [.chain, .image] s (sweepGongStep s) := by
  unfold sweepGongStep
  split
  · refine keeps_ite (Keeps.next (t := _) ?_ (writeGongs_only _ _))
      (keeps_ite (writeGongs_only s _) (keeps_refl _ _))
    exact keeps_of (by intro q hq; cases q <;> simp_all [samePart]) rfl rfl
  · exact keeps_refl _ _

theorem stopChain_only (s : Live) : Keeps chainParts s s.stopChain := by
  unfold Live.stopChain
  split
  · exact keeps_ite (keeps_refl _ _) (requestStop_only s _)
  · exact endWarning_only s _
  · exact keeps_trans (chain_only s _) (brakeStep_only _)
  · exact keeps_refl _ _

theorem requestSweep_only (s : Live) : Keeps chainParts s s.requestSweep.1 := by
  unfold Live.requestSweep
  dsimp only
  split
  · split
    · exact keeps_refl _ _
    · split
      · exact chain_only s _
      · exact beginSweep_only s _
  · split
    · exact enterWarning_only s _
    · exact keeps_refl _ _
  · exact chain_only s _
  · exact keeps_refl _ _

theorem requestPark_only (s : Live) : Keeps chainParts s s.requestPark.1 := by
  unfold Live.requestPark
  split
  · split
    · exact keeps_refl _ _
    · exact requestStop_only s _
  · exact keeps_refl _ _
  · exact keeps_refl _ _

theorem clearSweep_only (s : Live) : Keeps chainParts s s.clearSweep := by
  unfold Live.clearSweep
  split
  · exact endSweep_only s
  · exact chain_only s _
  · exact keeps_refl _ _

theorem stopPulse_only (s : Live) (c : StopCause) (ph : StopPhase) (r : StopRecord) :
    Keeps chainParts s (s.stopPulse c ph r) := by
  unfold Live.stopPulse
  extract_lets g d t
  refine keeps_trans (t := t) (chain_only s _) (keeps_ite ?_ (keeps_ite ?_ (keeps_refl _ _)))
  all_goals exact keeps_trans (driveTo_only _ _) (enterChain_only _ _)

theorem drivePulse_only (s : Live) : Keeps chainParts s s.drivePulse := by
  unfold Live.drivePulse
  dsimp only
  have start : Keeps chainParts s (if s.chain.drive = .brake then s else { s with chain := { s.chain with stallTimer := some 0 } }) :=
    keeps_ite (keeps_refl _ _) (chain_only s _)
  refine keeps_trans start ?_
  generalize (if s.chain.drive = .brake then s else { s with chain := { s.chain with stallTimer := some 0 } }) = t
  split
  · split
    · exact keeps_ite (requestStop_only t _) (chain_only t _)
    · exact keeps_refl _ _
  · split
    · exact chain_only t _
    · exact keeps_refl _ _
  · split
    · exact stopPulse_only t _ _ _
    · exact keeps_refl _ _
  · split
    · exact keeps_ite (keeps_trans (chain_only t _) (brakeStep_only _)) (chain_only t _)
    · exact keeps_refl _ _
  · exact keeps_refl _ _

theorem pulse_only (phase : Nat) (s : Live) : Keeps chainParts s (pulse phase s) :=
  keeps_trans (keeps_widen (monitorPulse_only s phase)) (drivePulse_only _)

theorem indexStep_only (s : Live) : Keeps chainParts s (indexStep s) := by
  unfold indexStep
  have start : Keeps chainParts s s.monitorIndex.rejudge :=
    Keeps.next (keeps_widen (monitorIndex_only s)) (rejudge_only _)
  exact keeps_ite start (keeps_trans start (placeDeferred_only _))

theorem settleDrive_only (s : Live) : Keeps chainParts s s.settleDrive := by
  unfold Live.settleDrive
  split
  · exact Keeps.next (Keeps.next (keeps_trans (chain_only s _) (setChain_only _ _)) (postIf_only _ _ _))
      (takeChainState_only _)
  · exact Keeps.next (Keeps.next (keeps_trans (chain_only s _) (setChain_only _ _)) (post_only _ _))
      (takeChainState_only _)
  · exact keeps_refl _ _

theorem chainSettledStep_only (s : Live) : Keeps chainParts s (chainSettledStep s) := by
  unfold chainSettledStep
  refine keeps_ite ?_ (keeps_refl _ _)
  refine Keeps.next (keeps_trans (Keeps.next (t := _) ?_ (rejudge_only _)) (settleDrive_only _)) (judgeSills_only _)
  exact keeps_of (by intro q hq; cases q <;> simp_all [samePart]) rfl rfl

theorem stallStep_only (s : Live) : Keeps chainParts s (stallStep s) :=
  keeps_ite (emergency_only s _ _ _) (keeps_refl _ _)

/-! ## Shutters and the chain together -/

theorem moveShutter_only (s : Live) (k : Nat) (r : ShutterRecord) (b : Bool) :
    Keeps chainParts s (s.moveShutter k r b) := by
  unfold Live.moveShutter
  exact keeps_ite (keeps_trans (keeps_widen (changeShutter_only s k r)) (sillLeavesOpen_only _ _ _))
    (keeps_widen (changeShutter_only s k r))

theorem closeByState_only (s : Live) (k : Nat) (c : CloseCause) : Keeps chainParts s (s.closeByState k c) := by
  have arm : Keeps chainParts s (s.arm k c) := by
    unfold Live.arm
    exact keeps_ite (Keeps.next (moveShutter_only s k _ _) (judge_only _ _)) (moveShutter_only s k _ _)
  unfold Live.closeByState
  split <;> first
    | exact arm
    | exact keeps_ite (keeps_widen (changeShutter_only s k _)) (keeps_refl _ _)
    | exact keeps_refl _ _

theorem closeRequest_only (s : Live) (k : Nat) (c : CloseCause) : Keeps chainParts s (s.closeRequest k c) :=
  keeps_ite (keeps_refl _ _) (closeByState_only s k c)

theorem limitByState_only (s : Live) (k : Nat) (l : Limit) : Keeps chainParts s (s.limitByState k l) := by
  unfold Live.limitByState
  dsimp only
  split <;> first
    | exact keeps_ite (keeps_refl _ _) (moveShutter_only s k _ _)
    | exact keeps_ite (moveShutter_only s k _ _) (keeps_refl _ _)
    | exact keeps_ite (keeps_widen (closeAtLimit_only s k)) (keeps_refl _ _)
    | exact keeps_ite (keeps_widen (changeShutter_only s k _)) (keeps_refl _ _)
    | exact keeps_refl _ _

theorem limitChange_only (s : Live) (k : Nat) (l : Limit) : Keeps chainParts s (s.limitChange k l) :=
  keeps_ite (keeps_refl _ _) (keeps_ite (moveShutter_only s k _ _) (limitByState_only s k l))

theorem shutterModuleLost_only (s : Live) (k : Nat) : Keeps chainParts s (s.shutterModuleLost k) :=
  keeps_ite (moveShutter_only s k _ _) (keeps_refl _ _)

theorem raiseShutter_only (s : Live) (k : Nat) : Keeps chainParts s (s.raiseShutter k) :=
  keeps_ite (moveShutter_only s k _ _) (moveShutter_only s k _ _)

theorem haltShutter_only (s : Live) (k : Nat) : Keeps gearParts s (s.haltShutter k) :=
  Keeps.next (changeShutter_only s k _) (post_only _ _)

end Sys2Proof.Machine
end

