-- ==== Sys2Proof/Laws/Memory.lean ====
section
/-! SUPPORT. Sample memory: a byte written is the byte read, every other byte stands, and every operation keeps the
canonical form. -/

set_option Elab.async false

namespace Sys2Proof.Machine
open Sys2Proof

/-- A larger bound is a stronger one. -/
theorem samplesFrom_weaken {lo hi : Nat} (m : List Host.Cell) (hle : lo ≤ hi) (h : samplesFrom hi m = true) :
    samplesFrom lo m = true := by
  cases m with
  | nil => rfl
  | cons c rest =>
    obtain ⟨k, v⟩ := c
    simp only [samplesFrom, Bool.and_eq_true, decide_eq_true_eq] at h ⊢
    exact ⟨⟨by omega, h.1.2⟩, h.2⟩

/-- Below the least address listed, a memory reads as erased. -/
theorem readSample_below {lo a : Nat} (m : List Host.Cell) (h : samplesFrom lo m = true) (ha : a < lo) :
    readSample m a = Config.erasedSample := by
  induction m generalizing lo with
  | nil => rfl
  | cons c rest ih =>
    obtain ⟨k, v⟩ := c
    simp only [samplesFrom, Bool.and_eq_true, decide_eq_true_eq] at h
    have hk : k ≠ a := by omega
    simp only [readSample, if_neg hk]
    exact ih h.2 (by omega)

theorem writeSample_from {lo : Nat} (m : List Host.Cell) (a : Nat) (x : Byte) (h : samplesFrom lo m = true)
    (ha : lo ≤ a) : samplesFrom lo (writeSample m a x) = true := by
  induction m generalizing lo with
  | nil =>
    simp only [writeSample]
    split
    · rfl
    · simp_all [samplesFrom]
  | cons c rest ih =>
    obtain ⟨k, v⟩ := c
    have h' := h
    simp only [samplesFrom, Bool.and_eq_true, decide_eq_true_eq] at h'
    simp only [writeSample]
    split_ifs with h1 h2 h3 h4
    · exact h
    · simp only [samplesFrom, Bool.and_eq_true, decide_eq_true_eq]
      exact ⟨⟨ha, h2⟩, ⟨by omega, h'.1.2⟩, h'.2⟩
    · exact samplesFrom_weaken rest (by omega) h'.2
    · simp only [samplesFrom, Bool.and_eq_true, decide_eq_true_eq]
      exact ⟨⟨h'.1.1, h4⟩, h'.2⟩
    · simp only [samplesFrom, Bool.and_eq_true, decide_eq_true_eq]
      exact ⟨h'.1, ih h'.2 (by omega)⟩

/-- Writing keeps the canonical form. -/
theorem writeSample_wf (m : List Host.Cell) (a : Nat) (x : Byte) (h : Memory.wf m = true) :
    Memory.wf (writeSample m a x) = true :=
  writeSample_from m a x h (Nat.zero_le a)

/-- Writing a region keeps the canonical form. -/
theorem writeRegion_wf (start length : Nat) (bytes : List Byte) (ptr : Nat) (m : List Host.Cell)
    (h : Memory.wf m = true) : Memory.wf (writeRegion start length bytes ptr m).2 = true := by
  induction bytes generalizing ptr m with
  | nil => exact h
  | cons x rest ih => exact ih _ _ (writeSample_wf m ptr x h)

/-- The bytes of a sample write in flight keep the canonical form. -/
theorem writeSamples_wf (s : State) (n : Nat) (h : Memory.wf s.samples = true) :
    Memory.wf (s.writeSamples n).samples = true := by
  unfold State.writeSamples
  split
  · exact writeRegion_wf _ _ _ _ _ h
  · exact h

/-- The memory right after reset is in canonical form. -/
theorem reset_wf : Memory.wf State.reset.samples = true := by decide

end Sys2Proof.Machine
end

