-- ==== Sys2Proof/Laws/ServiceFrames.lean ====
section
/-! SUPPORT. The frames of the shared operations of the Call Queue, the Ring Sequencer, the Speech Controller, the Closing
Sequencer and the Zone Monitor. -/

set_option Elab.async false

namespace Sys2Proof.Machine
open Sys2Proof

/-! ## The Call Queue and the circuits -/

theorem withCircuit_only (s : Live) (c : Nat) (r : CircuitRecord) : Keeps [.circuits] s (s.withCircuit c r) := by
  exact keeps_of (by intro q hq; cases q <;> simp_all [samePart]) rfl rfl

theorem updateCall_only (s : Live) (key : CallKey) (f : CallRecord → CallRecord) :
    Keeps [.calls] s (s.updateCall key f) := by
  exact keeps_of (by intro q hq; cases q <;> simp_all [samePart]) rfl rfl

/-- A change of the call list itself. -/
theorem calls_only (s : Live) (l : List CallRecord) : Keeps callParts s { s with calls := l } := by
  exact keeps_of (by intro q hq; cases q <;> simp_all [samePart]) rfl rfl

theorem replaceCall_only (s : Live) (a b : CallRecord) : Keeps callParts s (s.replaceCall a b) :=
  keeps_ite (keeps_widen (updateCall_only s _ _)) (calls_only s _)

theorem beginRing_only (s : Live) (c : Nat) (r : CallRecord) : Keeps callParts s (s.beginRing c r) :=
  Keeps.next (Keeps.next (keeps_widen (withCircuit_only s c _)) (writeSounder_only _ _ _))
    (updateCall_only _ _ _)

theorem choose_only (s : Live) (c : Nat) : Keeps callParts s (s.choose c) := by
  unfold Live.choose
  refine keeps_ite (keeps_refl _ _) ?_
  split
  · exact beginRing_only s c _
  · exact keeps_refl _ _

theorem takeMask_only (s : Live) (c : Nat) : Keeps callParts s (s.takeMask c) := by
  unfold Live.takeMask
  extract_lets r
  split
  · exact keeps_refl _ _
  · exact Keeps.next (keeps_widen (withCircuit_only s c _)) (postIf_only _ _ _)

theorem stopRing_only (s : Live) (c : Nat) : Keeps callParts s (s.stopRing c) :=
  keeps_trans (keeps_trans (Keeps.next (keeps_widen (withCircuit_only s c _)) (writeSounder_only _ _ _))
    (takeMask_only _ _)) (choose_only _ _)

theorem preempt_only (s : Live) (c : Nat) (g : Ring) (r : CallRecord) : Keeps callParts s (s.preempt c g r) :=
  keeps_trans (keeps_widen (updateCall_only s _ _)) (beginRing_only _ _ _)

theorem tellCircuit_only (s : Live) (r : CallRecord) : Keeps callParts s (s.tellCircuit r) := by
  unfold Live.tellCircuit
  split
  · exact keeps_ite (preempt_only s _ _ _) (keeps_refl _ _)
  · exact choose_only s _

theorem stopIfRinging_only (s : Live) (c : Nat) (key : CallKey) : Keeps callParts s (s.stopIfRinging c key) := by
  unfold Live.stopIfRinging
  split
  · exact keeps_ite (stopRing_only s c) (keeps_refl _ _)
  · exact keeps_refl _ _

theorem setMask_only (s : Live) (c m : Nat) : Keeps callParts s (s.setMask c m) := by
  unfold Live.setMask
  extract_lets r t
  refine keeps_trans (t := t) (keeps_widen (withCircuit_only s c _)) ?_
  exact keeps_ite (keeps_refl _ _) (keeps_trans (takeMask_only _ _) (choose_only _ _))

theorem indicatorOff_only (s : Live) (key : CallKey) : Keeps callParts s (indicatorOff s key) := by
  unfold indicatorOff
  split
  · exact keeps_widen (writeIndicator_only s _ _)
  · exact keeps_refl _ _

theorem indicatorOn_only (s : Live) (key : CallKey) : Keeps callParts s (indicatorOn s key) := by
  unfold indicatorOn
  split
  · exact keeps_widen (writeIndicator_only s _ _)
  · exact keeps_refl _ _

theorem takeOut_only (s : Live) (r : CallRecord) : Keeps callParts s (s.takeOut r) :=
  keeps_trans (keeps_trans (calls_only s _) (stopIfRinging_only _ _ _)) (indicatorOff_only _ _)

theorem removeCall_only (s : Live) (r : CallRecord) (why : RemoveReason) : Keeps callParts s (s.removeCall r why) :=
  Keeps.next (takeOut_only s r) (post_only _ _)

theorem makeRoom_only (s : Live) (r : CallRecord) : Keeps callParts s (s.makeRoom r).1 := by
  unfold Live.makeRoom
  split
  · exact keeps_refl _ _
  · split
    · exact keeps_refl _ _
    · split
      · exact Keeps.next (takeOut_only s _) (post_only _ _)
      · exact keeps_widen (post_only s _)

theorem join_only (s : Live) (r : CallRecord) : Keeps callParts s (s.join r).1 := by
  unfold Live.join
  dsimp only
  split
  · exact keeps_trans (keeps_trans (Keeps.next (keeps_trans (makeRoom_only s r) (calls_only _ _))
      (post_only _ _)) (indicatorOn_only _ _)) (tellCircuit_only _ _)
  · exact makeRoom_only s r

theorem pressAgain_only (s : Live) (p : Nat) (r : CallRecord) : Keeps callParts s (s.pressAgain p r) := by
  have start := Keeps.next (replaceCall_only s r (woken (pressed r)))
    (post_only _ (.callPressed p (woken (pressed r)).presses (woken (pressed r)).level (woken (pressed r)).state))
  exact keeps_ite (keeps_trans start (choose_only _ _)) start

theorem press_only (s : Live) (p : Nat) : Keeps callParts s (s.press p) := by
  unfold Live.press
  dsimp only
  split
  · split
    · exact pressAgain_only s p _
    · exact join_only s _
  · exact keeps_refl _ _

theorem attend_only (s : Live) (p : Nat) : Keeps callParts s (s.attend p) := by
  unfold Live.attend
  split
  · exact removeCall_only s _ _
  · exact keeps_refl _ _

theorem pushChange_only (s : Live) (p : Nat) (old new : PushState) : Keeps callParts s (s.pushChange p old new) := by
  unfold Live.pushChange
  extract_lets t
  refine keeps_trans (t := t) (keeps_widen (postIf_only s _ _)) ?_
  split
  · exact press_only t p
  · exact attend_only t p
  · exact keeps_refl _ _
  · exact keeps_refl _ _

theorem fireCallEnter_only (s : Live) (c : Nat) : Keeps callParts s (s.fireCallEnter c) := by
  unfold Live.fireCallEnter
  split
  · exact keeps_refl _ _
  · exact join_only s _

theorem fireCallLeave_only (s : Live) (c : Nat) : Keeps callParts s (s.fireCallLeave c) := by
  unfold Live.fireCallLeave
  split
  · exact removeCall_only s _ _
  · exact keeps_refl _ _

theorem programmeCall_only (s : Live) (step c : Nat) : Keeps callParts s (s.programmeCall step c).1 := by
  unfold Live.programmeCall
  split
  · exact keeps_refl _ _
  · exact join_only s _

theorem withdrawCalls_only (s : Live) : Keeps callParts s s.withdrawCalls := by
  refine keeps_foldl _ (fun t r => ?_) _ s
  split
  · exact removeCall_only t _ _
  · exact keeps_refl _ _

/-- A change of the circuits themselves. -/
theorem circuits_only (s : Live) (b : Bank 16 CircuitRecord) : Keeps callParts s { s with circuits := b } :=
  keeps_of (by intro q hq; cases q <;> simp_all [samePart]) rfl rfl

theorem resetCircuits_only (s : Live) : Keeps callParts s s.resetCircuits := by
  unfold Live.resetCircuits
  extract_lets t
  refine keeps_trans (t := t) (keeps_foldl _ (fun t c => keeps_widen (writeSounder_only t c _)) _ s) ?_
  exact circuits_only t _

theorem emptyCalls_only (s : Live) : Keeps callParts s s.emptyCalls :=
  keeps_trans (calls_only s _) (keeps_foldl _ (fun t p => keeps_widen (writeIndicator_only t p _)) _ _)

/-! ## The course of a ring -/

theorem enterPhase_only (s : Live) (c : Nat) (g : Ring) (ph : RingPhase) (pl : RingPlace) :
    Keeps callParts s (s.enterPhase c g ph pl) :=
  Keeps.next (keeps_widen (withCircuit_only s c _)) (writeSounder_only _ _ _)

theorem boundary_only (s : Live) (c : Nat) (g : Ring) : Keeps callParts s (s.boundary c g) := by
  unfold Live.boundary
  extract_lets t
  refine keeps_trans (t := t) (takeMask_only s c) ?_
  split
  · exact keeps_ite (preempt_only t _ _ _) (enterPhase_only t _ _ _ _)
  · exact enterPhase_only t _ _ _ _

theorem ringCompleted_only (s : Live) (r : CallRecord) : Keeps callParts s (s.ringCompleted r) := by
  unfold Live.ringCompleted
  dsimp only
  split
  · exact Keeps.next (Keeps.next (replaceCall_only s _ _) (post_only _ _)) (postIf_only _ _ _)
  · exact Keeps.next (Keeps.next (keeps_trans (calls_only s _) (indicatorOff_only _ _)) (post_only _ _))
      (post_only _ _)

theorem completeRing_only (s : Live) (c : Nat) (g : Ring) : Keeps callParts s (s.completeRing c g) := by
  unfold Live.completeRing
  dsimp only
  split
  · exact keeps_trans (ringCompleted_only s _) (stopRing_only _ _)
  · exact stopRing_only s c

theorem phaseEndStep_only (c : Nat) (s : Live) : Keeps callParts s (phaseEndStep c s) := by
  unfold phaseEndStep
  split
  · exact keeps_refl _ _
  · refine keeps_ite (keeps_refl _ _) ?_
    split
    · exact enterPhase_only s _ _ _ _
    · exact keeps_ite (completeRing_only s _ _) (boundary_only s _ _)
    · exact boundary_only s _ _

theorem reRingStep_only (key : CallKey) (s : Live) : Keeps callParts s (reRingStep key s) := by
  unfold reRingStep
  split
  · exact keeps_refl _ _
  · split
    · exact keeps_ite (keeps_trans (keeps_widen (updateCall_only s _ _)) (choose_only _ _)) (keeps_refl _ _)
    · exact keeps_refl _ _

/-! ## The Speech Controller -/

theorem withPlayer_only (s : Live) (pl : Player) (c : PlayerContext) : Keeps speechParts s (s.withPlayer pl c) :=
  keeps_of (by intro q hq; cases q <;> simp_all [samePart]) (by simp) (by simp)

/-- A change of the Speech Controller's own record. -/
theorem speech_only (s : Live) (x : Speech) : Keeps speechParts s { s with speech := x } := by
  exact keeps_of (by intro q hq; cases q <;> simp_all [samePart]) rfl rfl

theorem withChannel_only (s : Live) (ch : Nat) (c : Channel) : Keeps speechParts s (s.withChannel ch c) :=
  Keeps.next (speech_only s _) (writeChannel_only _ _ _ _ _)

theorem releaseAll_only (s : Live) (pl : Player) : Keeps speechParts s (s.releaseAll pl) :=
  keeps_foldl _ (fun t ch => withChannel_only t ch _) _ s

theorem takeChannel_only (s : Live) (pl : Player) (ch : Nat) : Keeps speechParts s (s.takeChannel pl ch) :=
  keeps_ite (withChannel_only s ch _) (withChannel_only s ch _)

theorem freePlayer_only (s : Live) (pl : Player) : Keeps speechParts s (s.freePlayer pl) :=
  keeps_trans (releaseAll_only s pl) (withPlayer_only _ _ _)

theorem restAfter_only (s : Live) (r : SpeakRequest) : Keeps speechParts s (s.restAfter r) :=
  keeps_ite (speech_only s _) (keeps_refl _ _)

theorem completePlay_only (s : Live) (pl : Player) : Keeps speechParts s (s.completePlay pl) := by
  unfold Live.completePlay
  split
  · exact keeps_trans (Keeps.next (freePlayer_only s pl) (post_only _ _)) (restAfter_only _ _)
  · exact keeps_refl _ _

theorem stopPlay_only (s : Live) (pl : Player) (why : AbandonReason) : Keeps speechParts s (s.stopPlay pl why) := by
  unfold Live.stopPlay
  split
  · exact Keeps.next (freePlayer_only s pl) (post_only _ _)
  · exact keeps_refl _ _

theorem failPlay_only (s : Live) (pl : Player) : Keeps speechParts s (s.failPlay pl) := by
  unfold Live.failPlay
  split
  · exact keeps_trans (stopPlay_only s pl _) (restAfter_only _ _)
  · exact keeps_refl _ _

theorem beginPhrase_only (s : Live) (pl : Player) (r : SpeakRequest) (i ph : Nat) :
    Keeps speechParts s (s.beginPhrase pl r i ph).1 := by
  unfold Live.beginPhrase
  dsimp only
  split
  · exact withPlayer_only s pl _
  · exact Keeps.next (withPlayer_only s pl _) (postIf_only _ _ _)

theorem beginItem_only (s : Live) (pl : Player) (r : SpeakRequest) (i : Nat) (it : Item) :
    Keeps speechParts s (s.beginItem pl r i it).1 := by
  unfold Live.beginItem
  dsimp only
  split
  · exact withPlayer_only s pl _
  · exact withPlayer_only s pl _
  · split
    · exact withPlayer_only s pl _
    · exact withPlayer_only s pl _
  · split
    · exact withPlayer_only s pl _
    · exact beginPhrase_only s pl r i _

theorem runItems_only (fuel : Nat) (pl : Player) (s : Live) : Keeps speechParts s (s.runItems fuel pl) := by
  induction fuel generalizing s with
  | zero => exact keeps_refl _ _
  | succ n ih =>
    unfold Live.runItems
    split
    · split
      · exact completePlay_only s pl
      · dsimp only
        split
        · exact beginItem_only s pl _ _ _
        · exact keeps_trans (beginItem_only s pl _ _ _) (ih _)
    · exact keeps_refl _ _

theorem endItem_only (s : Live) (pl : Player) : Keeps speechParts s (s.endItem pl) :=
  keeps_trans (withPlayer_only s pl _) (runItems_only _ _ _)

theorem route_only (s : Live) (pl : Player) (ch : Nat) : Keeps speechParts s (s.route pl ch) :=
  keeps_ite (withChannel_only s ch _) (keeps_refl _ _)

theorem enterPlaying_only (s : Live) (pl : Player) : Keeps speechParts s (s.enterPlaying pl) :=
  keeps_trans (keeps_trans (withPlayer_only s pl _) (keeps_foldl _ (fun t ch => route_only t pl ch) _ _))
    (runItems_only _ _ _)

theorem checkPlayer_only (s : Live) (pl : Player) : Keeps speechParts s (s.checkPlayer pl) :=
  keeps_ite (keeps_refl _ _) (keeps_ite (failPlay_only s pl)
    (keeps_ite (enterPlaying_only s pl) (keeps_refl _ _)))

theorem takeUp_only (s : Live) (pl : Player) (r : SpeakRequest) : Keeps speechParts s (s.takeUp pl r) :=
  keeps_trans (keeps_trans (keeps_trans (speech_only s _) (withPlayer_only _ pl _))
    (keeps_foldl _ (fun t ch => takeChannel_only t pl ch) _ _)) (checkPlayer_only _ _)

theorem dropChannel_only (s : Live) (pl : Player) (ch : Nat) (why : AmpReason) :
    Keeps speechParts s (s.dropChannel pl ch why) :=
  keeps_trans (Keeps.next (keeps_trans (withPlayer_only s pl _) (withChannel_only _ ch _)) (post_only _ _))
    (checkPlayer_only _ _)

theorem unqueue_only (s : Live) (t : Nat) : Keeps speechParts s (s.unqueue t) := speech_only s _

theorem grantUpTo_only (fuel : Nat) (s : Live) : Keeps speechParts s (s.grantUpTo fuel) := by
  induction fuel generalizing s with
  | zero => exact keeps_refl _ _
  | succ n ih =>
    unfold Live.grantUpTo
    refine keeps_ite ?_ (keeps_refl _ _)
    split
    · exact keeps_trans (keeps_trans (unqueue_only s _) (takeUp_only _ _ _)) (ih _)
    · exact keeps_refl _ _

theorem grants_only (s : Live) : Keeps speechParts s s.grants := grantUpTo_only _ s

theorem preemptPlayer_only (s : Live) (l : List Nat) (pl : Player) : Keeps speechParts s (s.preemptPlayer l pl) :=
  keeps_ite (stopPlay_only s pl _) (keeps_refl _ _)

theorem evacTake_only (s : Live) (k : Nat) : Keeps speechParts s (s.evacTake k) := by
  unfold Live.evacTake
  dsimp only
  refine keeps_trans ?_ (takeUp_only _ _ _)
  refine keeps_trans ?_ (speech_only _ _)
  have two := keeps_trans (preemptPlayer_only s s.speech.evac.channels .a)
    (preemptPlayer_only _ s.speech.evac.channels .b)
  exact keeps_ite (keeps_trans two (stopPlay_only _ _ _)) two

theorem evacBegin_only (s : Live) : Keeps speechParts s s.evacBegin := by
  unfold Live.evacBegin
  split
  · exact evacTake_only s _
  · exact speech_only s _

theorem joinPlay_only (s : Live) (pl : Player) (ch : Nat) : Keeps speechParts s (s.joinPlay pl ch) :=
  keeps_ite (keeps_refl _ s) (keeps_trans (preemptPlayer_only s [ch] (otherPlayer pl)) (takeChannel_only _ _ _))

theorem evacChange_only (s : Live) (pl : Player) : Keeps speechParts s (s.evacChange pl) := by
  unfold Live.evacChange
  dsimp only
  refine keeps_trans ?_ (checkPlayer_only _ _)
  refine keeps_trans ?_ (keeps_foldl _ (fun t ch => joinPlay_only t pl ch) _ _)
  exact keeps_trans (withPlayer_only s pl _)
    (keeps_foldl _ (fun t ch => keeps_ite (keeps_refl _ _) (withChannel_only t ch _)) _ _)

theorem setEvacuation_only (s : Live) (l : List Nat) (z : Option Nat) : Keeps speechParts s (s.setEvacuation l z) :=
  speech_only s _

theorem evacDemand_only (s : Live) (l : List Nat) (z : Option Nat) : Keeps speechParts s (s.evacDemand l z) := by
  unfold Live.evacDemand
  dsimp only
  refine keeps_trans ?_ (grants_only _)
  refine keeps_trans (setEvacuation_only s l z) ?_
  split
  · split
    · exact keeps_trans (stopPlay_only _ _ _) (speech_only _ _)
    · exact speech_only _ _
  · split
    · exact evacBegin_only _
    · exact evacChange_only _ _
    · exact keeps_refl _ _

theorem phraseEndStep_only (m : List Host.Cell) (pl : Player) (s : Live) :
    Keeps speechParts s (phraseEndStep m pl s) :=
  keeps_ite (keeps_trans (keeps_trans (endItem_only s pl) (withPlayer_only _ pl _)) (grants_only _)) (keeps_refl _ s)

theorem ampWaitStep_only (ch : Nat) (s : Live) : Keeps speechParts s (ampWaitStep ch s) := by
  unfold ampWaitStep
  split
  · exact keeps_ite (keeps_trans (dropChannel_only s _ _ _) (grants_only _)) (keeps_refl _ _)
  · exact keeps_refl _ _

theorem ampHoldStep_only (ch : Nat) (s : Live) : Keeps speechParts s (ampHoldStep ch s) :=
  keeps_ite (withChannel_only s ch _) (keeps_refl _ _)

theorem evacRestStep_only (s : Live) : Keeps speechParts s (evacRestStep s) :=
  keeps_ite (keeps_trans (evacBegin_only s) (grants_only _)) (keeps_refl _ _)

theorem readyChange_only (s : Live) (ch : Nat) (b : Bool) : Keeps speechParts s (s.readyChange ch b) := by
  unfold Live.readyChange
  dsimp only
  split
  · exact keeps_ite (keeps_trans (keeps_trans (withChannel_only s ch _) (checkPlayer_only _ _)) (grants_only _))
      (keeps_refl _ _)
  · exact keeps_ite (keeps_refl _ _) (keeps_trans (dropChannel_only s _ _ _) (grants_only _))
  · exact keeps_refl _ _

theorem enqueue_only (s : Live) (r : SpeakRequest) : Keeps speechParts s (s.enqueue r).1 := speech_only s _

theorem enterQueue_only (s : Live) (r : SpeakRequest) : Keeps speechParts s (s.enterQueue r).1 := by
  unfold Live.enterQueue
  dsimp only
  split
  · exact keeps_trans (enqueue_only s r) (grants_only _)
  · split
    · split
      · exact keeps_trans (keeps_trans (Keeps.next (unqueue_only s _) (post_only _ _)) (enqueue_only _ r))
          (grants_only _)
      · exact keeps_widen (post_only s _)
    · exact keeps_refl _ _

theorem withdrawSpeech_only (s : Live) : Keeps speechParts s s.withdrawSpeech :=
  keeps_trans (Keeps.next (speech_only s _) (postAll_only _ _)) (grants_only _)

/-! ## The Closing Sequencer -/

theorem withClosing_only (s : Live) (c : Closing) : Keeps closingParts s (s.withClosing c) := by
  exact keeps_of (by intro q hq; cases q <;> simp_all [samePart]) rfl rfl

theorem executeStep_only (s : Live) (i close : Nat) : Keeps closingParts s (s.executeStep i close).1 := by
  have bell : ∀ (cs : List Nat) (a : Live × Nat), Keeps closingParts a.1
      (cs.foldl (fun a c => ((a.1.programmeCall i c).1, if (a.1.programmeCall i c).2 then a.2 + 1 else a.2)) a).1 := by
    intro cs
    induction cs with
    | nil => exact fun a => keeps_refl _ _
    | cons c rest ih =>
      intro a
      simp only [List.foldl_cons]
      exact keeps_trans (keeps_widen (programmeCall_only a.1 i c))
        (ih ((a.1.programmeCall i c).1, if (a.1.programmeCall i c).2 then a.2 + 1 else a.2))
  unfold Live.executeStep
  dsimp only
  split
  · exact keeps_widen (enterQueue_only s _)
  · exact bell _ (s, 0)
  · exact keeps_widen (requestSweep_only s)
  · exact keeps_widen (requestPark_only s)
  · exact keeps_foldl _ (fun t k => keeps_widen (closeRequest_only t k _)) _ s
  · exact keeps_foldl _ (fun t c => keeps_widen (setMask_only t c _)) _ s

theorem takeStep_only (s : Live) (i close : Nat) (b : Bool) : Keeps closingParts s (s.takeStep i close b).1 := by
  unfold Live.takeStep
  split
  · exact keeps_refl _ _
  · exact executeStep_only s i close

theorem markStep_only (s : Live) (i : Nat) (t : Taken) : Keeps closingParts s (s.markStep i t) := by
  unfold Live.markStep
  dsimp only
  cases t <;> exact Keeps.next (withClosing_only s _) (post_only _ _)

theorem finishRun_only (s : Live) : Keeps closingParts s s.finishRun :=
  Keeps.next (withClosing_only s _) (post_only _ _)

theorem takeDue_only (b : Bool) (fuel : Nat) (s : Live) : Keeps closingParts s (s.takeDue b fuel) := by
  induction fuel generalizing s with
  | zero => exact keeps_refl _ _
  | succ n ih =>
    unfold Live.takeDue
    split
    · refine keeps_ite ?_ (keeps_refl _ _)
      exact keeps_trans (keeps_trans (takeStep_only s _ _ _) (markStep_only _ _ _)) (ih _)
    · exact finishRun_only s
    · exact keeps_refl _ _

theorem suspendClosing_only (s : Live) : Keeps closingParts s s.suspendClosing := by
  unfold Live.suspendClosing
  split
  · exact Keeps.next (Keeps.next (Keeps.next (withClosing_only s _) (withdrawCalls_only _))
      (withdrawSpeech_only _)) (post_only _ _)
  all_goals exact keeps_refl _ _

/-! ## The Zone Monitor -/

theorem withZone_only (s : Live) (z : Nat) (r : ZoneRecord) : Keeps zoneParts s (s.withZone z r) := by
  exact keeps_of (by intro q hq; cases q <;> simp_all [samePart]) rfl rfl

theorem setZone_only (s : Live) (z : Nat) (r : ZoneRecord) : Keeps zoneParts s (s.setZone z r) :=
  Keeps.next (withZone_only s z r) (post_only _ _)

/-- A change of the Shutter Controller's own copy. -/
theorem gear_only (s : Live) (g : ShutterGear) : Keeps zoneParts s { s with gear := g } := by
  exact keeps_of (by intro q hq; cases q <;> simp_all [samePart]) rfl rfl

theorem issue_only (s : Live) (z : Nat) : Keeps chainParts s (s.issue z) := by
  have close := keeps_foldl (fun t k => Live.closeRequest t k .fire) (fun t k => closeRequest_only t k .fire)
    (s.plan.contribution z) s
  exact keeps_ite (keeps_trans close (fireStop_only _)) close

theorem handCircuits_only (s : Live) (l : List Nat) : Keeps callParts s (s.handCircuits l) :=
  keeps_trans (keeps_foldl _ fireCallLeave_only _ s) (keeps_foldl _ fireCallEnter_only _ _)

theorem handSpeech_only (s : Live) (d : Demand) : Keeps speechParts s (s.handSpeech d) :=
  keeps_ite (keeps_refl _ _) (evacDemand_only s _ _)

theorem handDemand_only (s : Live) (d : Demand) : Keeps zoneParts s (s.handDemand d) :=
  Keeps.next (Keeps.next (gear_only s _) (handCircuits_only _ _)) (handSpeech_only _ _)

theorem handAlarm_only (s : Live) (d : Demand) (z : Nat) (b : Bool) : Keeps zoneParts s (s.handAlarm d z b) := by
  have first := Keeps.next (gear_only s { s.gear with fireSet := s.demand.shutters }) (issue_only _ z)
  unfold Live.handAlarm
  dsimp only
  refine Keeps.next (Keeps.next ?_ (handCircuits_only _ _)) (handSpeech_only _ _)
  exact keeps_ite (Keeps.next first (suspendClosing_only _)) first

theorem latch_only (s : Live) (z d : Nat) : Keeps zoneParts s (s.latch z d) :=
  keeps_trans (Keeps.next (Keeps.next (withZone_only s z _) (post_only _ _)) (post_only _ _))
    (handAlarm_only _ _ _ _)

theorem resound_only (s : Live) (z d : Nat) : Keeps zoneParts s (s.resound z d) := by
  have first : Keeps zoneParts s (s.post (.zoneAlarm z d)) := keeps_widen (post_only s _)
  unfold Live.resound
  dsimp only
  exact keeps_ite (keeps_trans (keeps_trans first (setZone_only _ _ _)) (handAlarm_only _ _ _ _)) first

theorem takeLine_only (s : Live) (z : Nat) : Keeps zoneParts s (s.takeLine z) :=
  keeps_ite (keeps_refl _ _) (setZone_only s z _)

theorem detectorChange_only (s : Live) (d : Nat) : Keeps zoneParts s (s.detectorChange d) := by
  unfold Live.detectorChange
  split
  · exact keeps_refl _ _
  · split
    · exact keeps_ite (latch_only s _ _) (takeLine_only s _)
    · exact keeps_ite (latch_only s _ _) (takeLine_only s _)
    · exact keeps_ite (resound_only s _ _) (keeps_refl _ _)
    · exact keeps_refl _ _

theorem restoreZone_only (s : Live) (z : Nat) : Keeps zoneParts s (s.restoreZone z) := by
  unfold Live.restoreZone
  split
  · exact latch_only s z _
  · exact setZone_only s z _

theorem silenceZone_only (s : Live) (z : Nat) : Keeps zoneParts s (s.silenceZone z) :=
  keeps_ite (keeps_refl _ _) (keeps_trans (setZone_only s z _) (handDemand_only _ _))

theorem resetZone_only (s : Live) (z : Nat) : Keeps zoneParts s (s.resetZone z) :=
  keeps_trans (setZone_only s z _) (handDemand_only _ _)

theorem latchAlarmed_only (s : Live) : Keeps zoneParts s s.latchAlarmed := by
  refine keeps_foldl _ (fun t z => ?_) _ s
  split
  · exact keeps_ite (keeps_refl _ _) (latch_only t z _)
  · exact keeps_refl _ _

end Sys2Proof.Machine
end

