-- ==== Sys2Proof/Laws/ScanFrames.lean ====
section
/-! SUPPORT. The frames of a scan, of the end of blanking, and of an adoption. -/

set_option Elab.async false

namespace Sys2Proof.Machine
open Sys2Proof

/-- A change of the field loop's own record. -/
theorem loop_only (s : Live) (l : FieldLoop) : Keeps zoneParts s { s with loop := l } :=
  keeps_of (by intro q hq; cases q <;> simp_all [samePart]) rfl rfl

theorem sampleDetector_only (d : Nat) (x : LineState) (s : Live) : Keeps zoneParts s (sampleDetector d x s) :=
  keeps_ite (loop_only s _) (keeps_trans (loop_only s _) (detectorChange_only _ d))

theorem debouncePush_only (p : Nat) (x : PushState) (s : Live) : Keeps zoneParts s (debouncePush p x s) :=
  keeps_ite (loop_only s _) (Keeps.next (loop_only s _) (pushChange_only _ _ _ _))

theorem firstAfterBlanking_only (p : Nat) (x : PushState) (s : Live) : Keeps zoneParts s (firstAfterBlanking p x s) :=
  keeps_ite (Keeps.next (loop_only s _) (pushChange_only _ _ _ _)) (debouncePush_only p x s)

theorem samplePush_only (p : Nat) (b : Option Nat) (x : PushState) (s : Live) : Keeps zoneParts s (samplePush p b x s) := by
  unfold samplePush
  split
  · exact debouncePush_only p x s
  · exact firstAfterBlanking_only p x s
  · exact keeps_refl _ s

theorem sampleUp_only (k : Nat) (x : Bool) (s : Live) : Keeps zoneParts s (sampleUp k x s) :=
  keeps_ite (loop_only s _) (Keeps.next (loop_only s _) (limitChange_only _ k .up))

theorem sampleDown_only (k : Nat) (x : Bool) (s : Live) : Keeps zoneParts s (sampleDown k x s) :=
  keeps_ite (loop_only s _) (Keeps.next (loop_only s _) (limitChange_only _ k .down))

theorem sampleEdge_only (k : Nat) (x : Bool) (s : Live) : Keeps zoneParts s (sampleEdge k x s) :=
  keeps_ite (Keeps.next (loop_only s _) (edgeAsserted_only _ k)) (loop_only s _)

theorem sampleGear_only (k : Nat) (b : Bool) (x : ShutterSample) (s : Live) : Keeps zoneParts s (sampleGear k b x s) := by
  have limits := keeps_trans (sampleUp_only k x.up s) (sampleDown_only k x.down _)
  exact keeps_ite limits (keeps_trans limits (sampleEdge_only k x.edge _))

theorem sampleReady_only (ch : Nat) (x : Bool) (s : Live) : Keeps zoneParts s (sampleReady ch x s) :=
  keeps_ite (loop_only s _) (Keeps.next (loop_only s _) (readyChange_only _ _ _))

theorem eachPoint_only {α : Type} (f : Nat → α → Live → Live) (h : ∀ i x s, Keeps zoneParts s (f i x s)) (n : Nat)
    (l : List α) (s : Live) : Keeps zoneParts s (eachPoint f n l s) := by
  induction l generalizing n s with
  | nil => exact keeps_refl _ _
  | cons x rest ih => exact keeps_trans (h n x s) (ih _ _)

theorem takeReply_only (s : Live) (first : Nat) (r : ModuleReply) : Keeps zoneParts s (s.takeReply first r) := by
  cases r with
  | detector xs => exact eachPoint_only _ (fun i x s => sampleDetector_only _ x s) 0 xs s
  | call xs =>
    exact keeps_trans (eachPoint_only _ (fun i x s => loop_only s _) 0 xs s)
      (eachPoint_only _ (fun i (x : Option Nat × PushState) s => samplePush_only _ x.1 x.2 s) 0 _ _)
  | shutter xs =>
    exact keeps_trans (eachPoint_only _ (fun i x s => loop_only s _) 0 xs s)
      (eachPoint_only _ (fun i (x : Bool × ShutterSample) s => sampleGear_only _ x.1 x.2 s) 0 _ _)
  | bell => exact keeps_refl _ _
  | audio xs => exact eachPoint_only _ (fun i x s => sampleReady_only _ x s) 0 xs s
  | other code => exact keeps_refl _ _

theorem losePoint_only (s : Live) (k : ModuleKind) (i : Nat) : Keeps zoneParts s (s.losePoint k i) := by
  cases k with
  | detector => exact keeps_ite (loop_only s _) (keeps_trans (loop_only s _) (detectorChange_only _ i))
  | call => exact loop_only s _
  | shutter => exact Keeps.next (loop_only s _) (shutterModuleLost_only _ i)
  | bell => exact keeps_refl _ _
  | audio => exact loop_only s _
  | other code => exact keeps_refl _ _

theorem missReply_only (s : Live) (pos : Nat) (m : ModuleRecord) : Keeps zoneParts s (s.missReply pos m) := by
  have pass : Keeps zoneParts s (s.passBlanking m) := by
    unfold Live.passBlanking
    split
    · exact keeps_foldl _ (fun t p => loop_only t _) _ s
    · exact keeps_foldl _ (fun t p => loop_only t _) _ s
    · exact keeps_refl _ _
  have lose : ∀ t : Live, Keeps zoneParts t (t.loseModule pos m) := fun t =>
    keeps_trans (Keeps.next (loop_only t _) (post_only _ _)) (keeps_foldl _ (fun u i => losePoint_only u _ i) _ _)
  exact keeps_ite (keeps_ite (keeps_trans pass (lose _)) (keeps_trans pass (loop_only _ _))) pass

theorem heedReply_only (s : Live) (pos : Nat) (m : ModuleRecord) (r : ModuleReply) :
    Keeps zoneParts s (s.heedReply pos m r) := by
  unfold Live.heedReply
  dsimp only
  split
  · exact keeps_trans (Keeps.next (loop_only s _) (postIf_only _ _ _)) (takeReply_only _ _ _)
  · exact Keeps.next (loop_only s _) (postIf_only _ _ _)

theorem scanModule_only (s : Live) (pos : Nat) (r : Option ModuleReply) : Keeps zoneParts s (s.scanModule pos r) := by
  have send : ∀ m : ModuleRecord, Keeps zoneParts s (s.sendMessage pos m) := fun m =>
    keeps_widen (sendMessage_only s pos m)
  unfold Live.scanModule
  dsimp only
  split
  · exact keeps_refl _ _
  · split
    · exact keeps_trans (send _) (missReply_only _ pos _)
    · exact keeps_trans (send _) (heedReply_only _ pos _ _)

theorem scanModules_only (s : Live) (rs : List (Option ModuleReply)) : Keeps zoneParts s (s.scanModules rs) :=
  keeps_foldl _ (fun t pos => scanModule_only t pos _) _ s

theorem scanPins_only (s : Live) (p : PinSample) : Keeps zoneParts s (s.scanPins p) := by
  have flap : ∀ (b x : Bool) (t : Live), Keeps zoneParts t (sampleFlap b x t) := fun b x t =>
    keeps_ite (loop_only t _) (Keeps.next (loop_only t _) (flapChange_only _ _ _))
  have slow : ∀ (x : Bool) (t : Live), Keeps zoneParts t (sampleSlow x t) := fun x t =>
    keeps_ite (loop_only t _) (Keeps.next (loop_only t _) (slowChange_only _ _))
  exact keeps_trans (keeps_trans (flap _ _ s) (flap _ _ _)) (slow _ _)

theorem advance_only (s : Live) (m : List Host.Cell) :
    onlyParts [.gear, .circuits, .speech, .chain, .monitor, .portC, .portF] s (s.advance m) := by
  intro q hq; cases q <;> simp_all [samePart, Live.advance]

/-- A scan changes neither the clock, the plan store nor the free values. -/
theorem scanStep_only (m : List Host.Cell) (i : ScanInput) (s : Live) : onlyParts zoneParts s (scanStep m i s) :=
  onlyParts_trans (onlyParts_trans (onlyParts_widen (advance_only s m)) (scanModules_only _ _).parts)
    (scanPins_only _ _).parts

theorem pushBlankingEndStep_only (p : Nat) (x : PushState) (s : Live) : Keeps zoneParts s (pushBlankingEndStep p x s) :=
  keeps_ite (keeps_trans (loop_only s _) (firstAfterBlanking_only p x _)) (keeps_refl _ _)

theorem edgeBlankingEndStep_only (k : Nat) (x : Bool) (s : Live) : Keeps zoneParts s (edgeBlankingEndStep k x s) :=
  keeps_ite (keeps_trans (loop_only s _) (sampleEdge_only k x _)) (keeps_refl _ _)

/-- What an adoption touches. -/
abbrev adoptParts : List Part :=
  [.store, .zones, .gear, .image, .loop, .monitor, .chain, .calls, .circuits, .speech, .closing, .portC, .portF]

/-- A change of the plan store's own record. -/
theorem store_only (s : Live) (x : PlanStore) : Keeps adoptParts s { s with store := x } :=
  keeps_of (by intro q hq; cases q <;> simp_all [samePart]) rfl rfl

theorem adoptPosition_only (s : Live) (old : Plan) : Keeps wearParts s (s.adoptPosition old) := by
  unfold Live.adoptPosition
  dsimp only
  split
  · exact keeps_refl _ _
  · refine Keeps.next (t := _) ?_ (postIf_only _ _ _)
    exact keeps_of (by intro q hq; cases q <;> simp_all [samePart]) rfl rfl

theorem deriveZones_only (s : Live) (keep : Bool) : Keeps zoneParts s (s.deriveZones keep) :=
  keeps_of (by intro q hq; cases q <;> simp_all [samePart, Live.deriveZones]) rfl rfl

/-- After the plan has been copied, an adoption leaves the plan store alone. -/
theorem adopt_after (s : Live) (a : List Nat) :
    Keeps zoneParts { s with store := { s.store with active := s.store.pending, fullClear := a, storeWriting := true } }
      (s.adopt a) := by
  unfold Live.adopt
  dsimp only
  refine keeps_trans ?_ (latchAlarmed_only _)
  refine keeps_trans ?_ (deriveZones_only _ true)
  refine Keeps.next (t := _) ?_ (withClosing_only _ _)
  refine Keeps.next (t := _) ?_ (rejudge_only _)
  refine Keeps.next (t := _) ?_ (adoptPosition_only _ _)
  exact Keeps.next (t := _) (keeps_widen (emptyCalls_only _)) (resetCircuits_only _)

end Sys2Proof.Machine
end

