-- ==== Sys2Proof/WellFormed.lean ====
section
/-! DEFINITION. Which commands are well formed: operands the block's points and ports can carry. A request whose fields
are out of their ranges is well formed, for the part answers it; a row that the sender of a frame cannot bring about is
not. -/

namespace Sys2Proof
open Sys2Proof.Machine

/-- A tick within a scan period (notes/assumptions/3.md). -/
def phaseOk (phase : Nat) : Bool := decide (phase < Config.ticksPerScan)

/-- A reply carries a sample of each of its module's inputs (R2, R3). -/
def ModuleReply.wellFormed : ModuleReply → Bool
  | .detector xs => xs.length == 8
  | .call xs => xs.length == 8
  | .shutter xs => xs.length == 2
  | .audio xs => xs.length == 4
  | .bell => true
  | .other _ => true

def replyOk : Option ModuleReply → Bool
  | none => true
  | some r => r.wellFormed

/-- A scan names at most 40 modules, and at most one SAMPLE DATA's bytes reach the memory in it. -/
def ScanInput.wellFormed (i : ScanInput) : Bool :=
  decide (i.replies.length ≤ Config.modulesMax) && i.replies.all replyOk &&
    decide (i.bytesWritten ≤ Config.sampleDataMax)

/-- A position is enquired of at most three times (R1). -/
def ColdStart.wellFormed (i : ColdStart) : Bool :=
  i.walk.all (fun a => decide (a.length ≤ Config.enquiries)) && i.first.wellFormed && i.first.bytesWritten == 0

/-- A SAMPLE DATA body that fits carries 1 to 192 bytes; any other is a misfit (R22). -/
def sampleBodyOk : Body (List Byte) → Bool
  | .fits bytes => within 1 Config.sampleDataMax bytes.length
  | .misfit => true

/-- A PLAN ENTRY body that fits carries an entry at least (R19). -/
def entryBodyOk : Body EntryFrame → Bool
  | .fits (.entries items) => !items.isEmpty
  | .fits .indivisible => true
  | .misfit => true

/-- SPEAK's number is one byte (R156). -/
def speakBodyOk : Body SpeakFields → Bool
  | .fits f => optWithin 0 255 f.number
  | .misfit => true

/-- Well-formedness of a command. -/
def Instr.wellFormed : Instr → Bool
  | .resetLow _ => true
  | .coldStart i => i.wellFormed
  | .scan i => i.wellFormed
  | .pushBlankingEnd p _ => decide (p < 64)
  | .edgeBlankingEnd k _ => decide (k < 32)
  | .linkPulse phase => phaseOk phase
  | .decelPoint phase => phaseOk phase
  | .stopTargetReached phase => phaseOk phase
  | .sweepEnd phase => phaseOk phase
  | .stepRemainderEnd phase => phaseOk phase
  | .missedIndex phase => phaseOk phase
  | .indexPulse => true
  | .chainSettled => true
  | .stall => true
  | .startWarningEnd => true
  | .warningGongToggle => true
  | .sweepGongTimer => true
  | .secondsTick => true
  | .wearWrite => true
  | .reRing key => key.inRange
  | .closingStepDue => true
  | .shutterWarningExpiry k => decide (k < 32)
  | .holdOffExpiry k => decide (k < 32)
  | .retractExpiry k => decide (k < 32)
  | .pauseExpiry k => decide (k < 32)
  | .descentLimitExpiry k => decide (k < 32)
  | .raiseLimitExpiry k => decide (k < 32)
  | .phaseEnd c => decide (c < 16)
  | .itemTimerExpiry _ => true
  | .phraseEnd _ => true
  | .ampWaitExpiry ch => decide (ch < 8)
  | .ampHoldExpiry ch => decide (ch < 8)
  | .evacuationRestExpiry => true
  | .frameGapTimeout _ => true
  | .frameDiscard _ => true
  | .replySent _ => true
  | .unknownKind _ code => !knownKind code.toNat
  | .unitRead _ _ => true
  | .zoneRead _ _ => true
  | .shutterRead _ _ => true
  | .chainRead _ _ => true
  | .callList _ _ => true
  | .speakList _ _ => true
  | .closingRead _ _ => true
  | .wearRead _ _ => true
  | .wearReadClear _ _ => true
  | .planRead _ _ => true
  | .noticeFetch _ _ => true
  | .planOpen _ _ => true
  | .planEntry _ body => entryBodyOk body
  | .planClose _ _ => true
  | .planAdopt _ _ => true
  | .storeWriteDone _ => true
  | .planDiscard _ _ => true
  | .sampleOpen _ _ => true
  | .sampleData _ body => sampleBodyOk body
  | .sampleWriteDone => true
  | .zoneIsolate _ _ => true
  | .zoneRestore _ _ => true
  | .zoneSilence _ _ => true
  | .zoneReset _ _ => true
  | .shutterLower _ _ => true
  | .shutterRaise _ _ => true
  | .shutterHalt _ _ => true
  | .chainStart _ _ => true
  | .chainStop _ _ => true
  | .chainInspectOn _ _ => true
  | .chainInspectOff _ _ => true
  | .chainStep _ _ => true
  | .callPlace _ _ => true
  | .callClear _ _ => true
  | .callMask _ _ => true
  | .circuitRead _ _ => true
  | .speak _ body => speakBodyOk body
  | .speakCancel _ _ => true
  | .closingBegin _ _ => true
  | .closingPostpone _ _ => true
  | .closingAbort _ _ => true
  | .closingResume _ _ => true
  | .unitRestart _ _ => true
  | .warmRestart => true
  | .frameByte _ _ => true
  | .powerLoss _ => true

end Sys2Proof
end

