-- ==== Sys2Proof/Tests/Slice0.lean ====
section
/-! SUPPORT. The author's own tests: ill-formed commands refused, small worked cases of the manual, and for every
obligation with hypotheses states that meet them. Every expected value is the manual's or worked by hand from it. -/

-- one thread: each kernel evaluation below waits for the theorems before it
set_option Elab.async false

namespace Sys2Proof.Tests
open Sys2Proof Sys2Proof.Machine

/-! ## A small installation -/

/-- The state a command gives passes the check. -/
def runs (i : Instr) (s : State) (f : State → Bool) : Bool :=
  match exec i s with
  | .next t => f t
  | .fault _ => false
  | .refused _ => false

/-- The command ends in this fault. -/
def stops (i : Instr) (s : State) (f : Machine.Fault) : Bool :=
  match exec i s with
  | .next _ => false
  | .fault g => g == f
  | .refused _ => false

/-- L = 64, N = 4, P = 16, landings at 4 and 20 (the empty plan's geometry), with an evacuation script; sill 4 at
landing 1 on the UP run; the zones and shutters of section 5.3's example; a push, three circuits, two phrases, a script
and two closing steps. -/
def plan : Plan := { emptyPlan with
  geometry := { emptyGeometry with evacScript := some 3 }
  sills := emptyPlan.sills.put 4 ⟨true, 1, .up⟩
  zones := (emptyPlan.zones.put 2 ⟨true, [10, 11], [3], [4, 5], [2, 3], [1], some 40⟩).put 3
    ⟨true, [12, 13, 14], [2], [5, 6], [3], [], some 41⟩
  shutters := (((emptyPlan.shutters.put 6 ⟨true, 2, none, 30, 1000, 5⟩).put 7 ⟨true, 2, some 4, 30, 1000, 5⟩).put 8
    ⟨true, 3, none, 30, 1000, 5⟩).put 9 ⟨true, 3, none, 30, 1000, 5⟩
  pushes := emptyPlan.pushes.put 0 ⟨true, 23, 2, 1, some 2⟩
  circuits := (((emptyPlan.circuits.put 1 ⟨true, 0⟩).put 2 ⟨true, 0⟩).put 4 ⟨true, 0⟩).put 5 ⟨true, 0⟩
  phrases := emptyPlan.phrases.put 0 ⟨1000, 160⟩
  scripts := emptyPlan.scripts.put 3 ⟨true, [.silence 100, .chime, .phrase 0, .phrase 9]⟩
  steps := (emptyPlan.steps.put 0 ⟨true, -600, .mask, none, none, some [1], none, some 3⟩).put 1
    ⟨true, 0, .sweep, none, none, none, none, none⟩ }

/-- The modules of the small loop: detectors 0 to 15, pushes 0 to 7, shutters 0 to 9, sounders 0 to 7 with the gongs, and
channels 0 to 3. -/
def modules : List ModuleRecord :=
  [⟨.detector, true, 0, some 0⟩, ⟨.detector, true, 0, some 8⟩, ⟨.call, true, 0, some 0⟩, ⟨.shutter, true, 0, some 0⟩,
    ⟨.shutter, true, 0, some 2⟩, ⟨.shutter, true, 0, some 4⟩, ⟨.shutter, true, 0, some 6⟩, ⟨.shutter, true, 0, some 8⟩,
    ⟨.bell, true, 0, some 0⟩, ⟨.audio, true, 0, some 0⟩]

def opened : GearInput := ⟨.still true, .still false, .still false, none⟩

/-- The installation at rest: every shutter OPEN, every zone NORMAL, the chain PARKED at second 41,200. -/
def rest : Live := { resetLive with
  seconds := 41200
  loop := { FieldLoop.blank with
    modules := modules, gear := Bank.replicate 32 opened, detectors := Bank.replicate 48 (.still .normal) }
  store := ⟨plan, plan.residues, plan, .closed, false, none, true⟩
  zones := Bank.build 16 fun z => .start (plan.zone z).present
  gear := { ShutterGear.start with records := Bank.replicate 32 (.start .opened none) }
  circuits := startCircuits plan
  portC := .start
  portF := .start }

/-- The installation with its running part changed. -/
def on (f : Live → Live) : State := { State.reset with live := f rest }

def base : State := on id

/-- The chain at work. -/
def chainIs (st : ChainState) (d : DriveOutput) (s : Live) : Live :=
  { s with chain := { s.chain with state := st, drive := d }, gear := { s.gear with chainCopy := st } }

def positionIs (c : Nat) (p : Position) (s : Live) : Live :=
  { s with monitor := { s.monitor with count := c, position := p } }

/-- A notice stands in both queues. -/
def heard (t : Live) (n : Note) : Bool :=
  t.portC.notices.any (fun x => x.note = n) && t.portF.notices.any fun x => x.note = n
def told (t : State) (n : Note) : Bool := heard t.live n

/-- A state on which a command runs is a witness that it answers a next state. -/
theorem runs_next {i : Instr} {s : State} {f : State → Bool} (h : runs i s f = true) :
    ∃ t, exec i s = .next t ∧ f t = true := by
  unfold runs at h
  split at h
  · exact ⟨_, ‹_›, h⟩
  · exact absurd h (by decide)
  · exact absurd h (by decide)

/-! ## Well-formedness: one ill-formed command for each check -/

def quiet : PinSample := ⟨false, false, false⟩

theorem test_wf_reply_length : (Instr.scan ⟨[some (.detector [.normal])], quiet, 0⟩).wellFormed = false := by decide
theorem test_wf_too_many_modules : (Instr.scan ⟨List.replicate 41 none, quiet, 0⟩).wellFormed = false := by decide
theorem test_wf_scan_bytes : (Instr.scan ⟨[], quiet, 193⟩).wellFormed = false := by decide
theorem test_wf_four_enquiries :
    (Instr.coldStart ⟨false, [[none, none, none, some .bell]], ⟨[], quiet, 0⟩⟩).wellFormed = false := by decide
theorem test_wf_cold_start_bytes : (Instr.coldStart ⟨false, [], ⟨[], quiet, 1⟩⟩).wellFormed = false := by decide
theorem test_wf_push : (Instr.pushBlankingEnd 64 .idle).wellFormed = false := by decide
theorem test_wf_shutter : (Instr.retractExpiry 32).wellFormed = false := by decide
theorem test_wf_phase : (Instr.linkPulse 100).wellFormed = false := by decide
theorem test_wf_circuit : (Instr.phaseEnd 16).wellFormed = false := by decide
theorem test_wf_channel : (Instr.ampWaitExpiry 8).wellFormed = false := by decide
theorem test_wf_key : (Instr.reRing (.host 0 1)).wellFormed = false := by decide
theorem test_wf_known_kind : (Instr.unknownKind .c 0x30).wellFormed = false := by decide
theorem test_wf_no_entry : (Instr.planEntry .c (.fits (.entries []))).wellFormed = false := by decide
theorem test_wf_sample_length : (Instr.sampleData .c (.fits [])).wellFormed = false := by decide
theorem test_wf_speak_number : (Instr.speak .c (.fits ⟨3, [0], some .general, none, some 256⟩)).wellFormed = false := by decide
theorem test_wf_good : (Instr.linkPulse 99).wellFormed = true := by decide

/-! ## The queue, the words and the layouts -/

/-- No row of the table has bits, so no word spells a command. -/
theorem test_no_word : decodeTableWord 8 0 = none := by decide
theorem test_fetch_word : State.reset.withFetchWord 8 0 = State.reset := rfl
theorem test_step_runs : step { base with pending := [.secondsTick, .indexPulse] } =
    exec .secondsTick { base with pending := [.indexPulse] } := rfl

/-- The frame check of the bytes 31h to 39h, worked from R187's polynomial and start value. -/
theorem test_crc : crc [0x31, 0x32, 0x33, 0x34, 0x35, 0x36, 0x37, 0x38, 0x39] = 0x29B1#16 := by decide +kernel
theorem test_frame_length : (frameBytes [0x01]).length = 5 := by decide +kernel
/-- Section 11.6: a notice record takes 12 bytes and a call-list entry 20. -/
theorem test_notice_bytes : noticeBytes ⟨.zoneAlarm 2 11, 41200, true⟩ =
    [0x21, 0x00, 0x02, 0x81, 11, 0, 0, 0, 0x00, 0x00, 0xA0, 0xF0] := by decide +kernel
theorem test_call_entry_length :
    (callEntryBytes 3 (newCall rest (.push 0) 1 2 (.coded 23) true 1 none)).length = 20 := by decide +kernel

/-! ## Geometry and the demand -/

/-- With no sill every residue of the pitch is clear (R32). -/
theorem test_empty_residues : emptyPlan.residues = List.range 16 := by decide +kernel

/-- Sill 4 at 20 forbids the residues 2 to 6 by the floor and 8 to 12 by the roof (R27). -/
theorem test_residues : plan.residues = [0, 1, 7, 13, 14, 15] := by decide +kernel

/-- At 3,000 hundredths of a link a second and t_dec 800 ms D is 1,200; at 10 it is 4 (R57). -/
theorem test_stop_allowance : stopAllowance 10 800 = 4 := by decide
/-- From count 5 with D = 4 the next count whose residue is clear is 13: residues 9 to 12 are not in A (R57). -/
theorem test_place_stop : Machine.placeStop plan plan.residues 5 10 = ⟨8, 4, 13, 0⟩ := by decide +kernel

/-- Chapter 4, "A stop worked through": L = 480, N = 12, H = 200, C = 28, B = 3, two sills at height 70. -/
def worked : Plan := { emptyPlan with
  geometry := { emptyGeometry with
    loopLength := 480, cars := 12, upRun := 200, landings := [70, 190], carHeight := 28, keepClear := 3 }
  sills := (emptyPlan.sills.put 0 ⟨true, 0, .up⟩).put 1 ⟨true, 0, .down⟩ }

theorem test_worked_residues : worked.residues = [6, 14, 15, 16, 17, 18, 19, 20, 21, 22, 23, 24, 25, 26, 34] := by
  decide +kernel

theorem test_worked_stop : Machine.placeStop worked worked.residues 213 50 = ⟨21, 20, 234, 0⟩ := by decide +kernel

theorem test_worked_clear : worked.sillClear (worked.sill 0) 234 = true ∧ worked.sillClear (worked.sill 1) 234 = true ∧
    worked.sillClear (worked.sill 0) 236 = true ∧ worked.sillClear (worked.sill 1) 236 = false := by decide +kernel

def detectorAt (d : Nat) (x : Debounced LineState) (s : Live) : Live :=
  { s with loop := { s.loop with detectors := s.loop.detectors.put d x } }

/-- A valid reply of every module of the loop with nothing asserted but the UP limits. -/
def quietReplies (eights : List LineState) : List (Option ModuleReply) :=
  [some (.detector (List.replicate 8 .normal)), some (.detector eights), some (.call (List.replicate 8 .idle))] ++
    List.replicate 5 (some (.shutter (List.replicate 2 ⟨true, false, false⟩))) ++
    [some .bell, some (.audio (List.replicate 4 false))]

def running : State := on fun s => positionIs 5 .valid (chainIs .running .run s)

/-- Section 5.3's example, its first row: the fifth ALARM sample of detector 11. -/
theorem test_fire_example :
    runs (.scan ⟨quietReplies [.normal, .normal, .normal, .alarm, .normal, .normal, .normal, .normal], quiet, 0⟩)
      { running with live := detectorAt 11 ⟨.normal, .alarm, 4⟩ running.live } (fun t =>
      t.live.zone 2 == ⟨true, .alarm, false, some 11, some 41200⟩ &&
      t.live.demand == ⟨[6, 7, 8, 9], [1], [4, 5], [2, 3], some 2, some 2⟩ &&
      t.live.chain.state == .held .fire && t.live.chain.drive == .brake &&
      (t.live.calls.map CallRecord.key == [.fire 4, .fire 5]) &&
      t.live.speech.evac.state == .playing && (t.live.shutter 7).state == .armed) = true := by decide +kernel

/-! ## The worked sequence of R4 -/

def samples (xs : List LineState) : LineState :=
  (xs.foldl (Debounced.sample 5) (.still .normal)).value

theorem test_debounce_seventh : samples [.alarm, .alarm, .short, .alarm, .alarm, .alarm, .alarm] = .normal := by decide
theorem test_debounce_eighth : samples [.alarm, .alarm, .short, .alarm, .alarm, .alarm, .alarm, .alarm] = .alarm := by decide

/-! ## Witnesses: the queue and the ports -/

def withPort (p : Port) (r : PortRecord) : State := on fun s => s.withPort p r

theorem witness_IdleAndUnpowered : ({ base with power := .off } : State).power ≠ .on ∧ base.pending = [] ∧
    (∀ x, Instr.secondsTick ≠ .coldStart x) ∧ ∀ b, Instr.secondsTick ≠ .powerLoss b :=
  ⟨by decide, rfl, (fun _ h => by cases h), fun _ h => by cases h⟩

theorem witness_RequestNotTaken : requestOf (.chainStop .f (.fits ())) = some (.f, .chainStop) ∧
    (withPort .f { PortRecord.start with replyPending := true }).power = .on ∧
    (withPort .f { PortRecord.start with replyPending := true }).live.takes .f Kind.chainStop.code = false := by
  decide +kernel

theorem witness_PrivilegedKinds : requestOf (.chainStart .f (.fits ())) = some (.f, .chainStart) ∧
    Kind.onPortF .chainStart = false ∧ base.canTake .f .chainStart := by decide +kernel

/-- Every kind can be taken on both ports of the installation at rest. -/
theorem witness_canTake : (∀ k ∈ allKinds, base.canTake .c k) ∧ ∀ k ∈ allKinds, base.canTake .f k := by decide +kernel

theorem witness_PortsAreIndependent : portOf (.frameByte .c 0xA5) = some .c ∧ Port.f ≠ .c ∧
    ∃ t, exec (.frameByte .c 0xA5) base = .next t ∧ decide ((t.live.port .c).receiver = .receiving []) = true :=
  ⟨rfl, by decide, runs_next (by decide +kernel)⟩

/-! ## Witnesses: a running installation meets every invariant, and its step answers a next state -/

def ticking : State := { running with pending := [.secondsTick] }

theorem witness_step : ∃ t, step ticking = .next t := ⟨_, rfl⟩

/-- A busy installation: zone 2 in ALARM, the chain held, shutter 7 descending, push 0's call ringing on circuit 1, and a
script playing on channel 0. -/
def busyCall : CallRecord := { newCall rest (.push 0) 1 2 (.coded 23) true 1 none with state := .ringing }
def lowCall : CallRecord := newCall rest (.host 5 1) 1 1 (.coded 5) false 0 none

def script : SpeakRequest := ⟨7, 3, [0], .general, none, none, .portC, 41100⟩

def playing : PlayerContext := { PlayerContext.rest with
  phase := .playing, request := some script, sequence := 1, item := some 0, itemTimer := some 100 }

def busyLive : Live := { rest with
  zones := rest.zones.put 2 ⟨true, .alarm, false, some 11, some 41000⟩
  chain := { rest.chain with state := .held .fire }
  gear := { rest.gear with
    records := rest.gear.records.put 7 { ShutterRecord.start .descending none with cause := .fire }
    chainCopy := .held .fire }
  calls := [busyCall, lowCall]
  circuits := rest.circuits.put 1 ⟨some ⟨.push 0, .coded 23, .digit true 1, .on, 0⟩, 0, none⟩
  speech := { rest.speech with
    playerA := playing
    channels := rest.speech.channels.put 0 ⟨true, some .a, some .ready, none, some .a, none⟩ }
  image := { rest.image with
    release := rest.image.release.put 7 true
    warn := rest.image.warn.put 7 true
    sounders := rest.image.sounders.put 1 true
    indicators := rest.image.indicators.put 0 true
    on := rest.image.on.put 0 true
    selA := rest.image.selA.put 0 true } }

def busy : State := { State.reset with live := busyLive, pending := [.secondsTick] }

theorem witness_busy_step : ∃ t, step busy = .next t := ⟨_, rfl⟩

theorem witness_InterlockKept : Interlock ticking.live where
  guarded _ k h := (by decide +kernel : ∀ k, k < 32 → ticking.live.isSill k = true →
      (ticking.live.shutter k).state = .opened) k (Live.isSill_lt h) h
  driven _ := by decide +kernel

theorem witness_ChainItemsKept : ChainItems ticking.live where
  stop _ h := absurd (show (none : Option StopRecord) = some _ from h) (by simp)
  deferred _ h := absurd (show (none : Option StopCause) = some _ from h) (by simp)
  sweep _ h := absurd (show (none : Option Nat) = some _ from h) (by simp)
  carried _ h := absurd (show (none : Option Nat) = some _ from h) (by simp)
  step _ h := absurd (show (none : Option Nat) = some _ from h) (by simp)
  warnTimer _ h := absurd (show (none : Option Nat) = some _ from h) (by simp)
  gongTimer _ h := absurd (show (none : Option Nat) = some _ from h) (by simp)
  stallTimer _ h := absurd (show (none : Option Nat) = some _ from h) (by simp)

theorem witness_AlarmStopsProgrammeKept : busyLive.inAlarm 2 = true ∧ AlarmStopsProgramme busyLive :=
  ⟨by decide +kernel, fun _ _ => by decide +kernel⟩

theorem witness_PortQueueKept : PortQueue busyLive.portC ∧ PortQueue State.reset.live.portF :=
  ⟨⟨by decide, by decide⟩, by decide, by decide⟩

theorem witness_CallOrderKept : CallOrder busyLive.calls where
  room := by decide
  sorted := by decide
  distinct := by decide
  fire r h c k := by
    rcases (by decide : ∀ r ∈ busyLive.calls, r.key = .push 0 ∨ r.key = .host 5 1) r h with g | g <;>
      simp [g] at k
  top r h k := absurd k (Nat.not_le.mpr ((by decide : ∀ r ∈ busyLive.calls, r.level < Config.fireLevel) r h))

theorem witness_GearOutputsFollowState : GearDriven busyLive := fun k h =>
  (by decide +kernel : ∀ k, k < 32 → busyLive.loop.numbered .shutter k = true →
    (busyLive.image.release.read k false, busyLive.image.brake.read k false, busyLive.image.wind.read k false,
      busyLive.image.warn.read k false) = gearOutputs (busyLive.shutter k).state) k (FieldLoop.numbered_lt h) h

theorem witness_SoundersFollow : SoundersFollow busyLive := fun c h =>
  (by decide +kernel : ∀ c, c < 16 → busyLive.loop.numbered .bell c = true →
    busyLive.image.sounders.read c false = ((busyLive.circuit c).ring.map fun r => r.phase == .on).getD false) c
    (FieldLoop.numbered_lt h) h

theorem witness_IndicatorsFollow : IndicatorsFollow busyLive := fun p h =>
  (by decide +kernel : ∀ p, p < 64 → busyLive.loop.numbered .call p = true →
    busyLive.image.indicators.read p false = (busyLive.call (.push p)).isSome) p (FieldLoop.numbered_lt h) h

/-- Channels, checked on the eight channels and the two players. -/
theorem channels_of {s : Live}
    (idle : ∀ pl ∈ [Player.a, .b], (s.player pl).phase = .idle ↔ (s.player pl).request = none)
    (holder : ∀ ch, ch < 8 → ∀ pl ∈ [Player.a, .b], (s.channel ch).holder = some pl →
      ((s.player pl).request.map fun r => r.channels.contains ch) = some true)
    (routed : ∀ ch, ch < 8 → ∀ pl ∈ [Player.a, .b], (s.channel ch).routing = some pl →
      (s.channel ch).holder = some pl ∧ (s.player pl).phase = .playing)
    (selects : ∀ ch, ch < 8 → s.loop.numbered .audio ch = true →
      s.image.selA.read ch false = Machine.selects (s.channel ch).routing .a ∧
        s.image.selB.read ch false = Machine.selects (s.channel ch).routing .b) : Channels s where
  request pl := idle pl (by cases pl <;> simp)
  holder ch pl h := by
    have := holder ch (Live.held_lt h) pl (by cases pl <;> simp) h
    cases g : (s.player pl).request <;> simp_all
  routed ch pl h := routed ch (Live.routed_lt h) pl (by cases pl <;> simp) h
  selects ch h := selects ch (FieldLoop.numbered_lt h) h

theorem witness_ChannelsKept : Channels busyLive :=
  channels_of (by decide +kernel) (by decide +kernel) (by decide +kernel) (by decide +kernel)

theorem witness_CountInLoop : CountInLoop ticking := ⟨by decide +kernel, by decide +kernel⟩

theorem witness_SpeedFollowsRing :
    SpeedFollowsRing { ChainMonitor.start plan .zero with ring := [5000, 5000], speed := 2 } :=
  ⟨by decide, by decide, by decide, by decide⟩

theorem witness_SampleForm : Memory.wf [(3, 7), (9, 1)] = true := by decide
theorem test_erased_not_listed : Memory.wf [(3, 0)] = false := by decide
theorem test_write_erases : writeSample [(3, 7), (9, 1)] 3 0 = [(9, 1)] := by decide

/-! ## Witnesses: the whole-machine rules and the laws of the data -/

theorem witness_PlanChangesOnly : (∃ t, exec .secondsTick base = .next t ∧ decide (t.live.seconds = 41201) = true) ∧
    (∀ p b, Instr.secondsTick ≠ .planAdopt p b) ∧ (∀ x, Instr.secondsTick ≠ .coldStart x) ∧
    (∀ m, Instr.secondsTick ≠ .storeWriteDone m) ∧ (∀ x, Instr.indexPulse ≠ .scan x) ∧
    ∃ t, exec .indexPulse base = .next t ∧ decide (t.live.monitor.position = .valid) = true :=
  ⟨runs_next (by decide +kernel), (fun _ _ h => by cases h), (fun _ h => by cases h), (fun _ h => by cases h),
    (fun _ h => by cases h), runs_next (by decide +kernel)⟩

/-- The chain PARKED and warned for 10 s. -/
def warned (n : Nat) : State := on fun s => { chainIs .warning .brake s with
  chain := { s.chain with state := .warning, warnTimer := some n, gongsOn := true } }

theorem witness_AlarmAndBrakeHold : busyLive.inAlarm 2 = true ∧
    (∃ t, exec .secondsTick busy = .next t ∧ t.live.inAlarm 2 = true) ∧
    (warned 10000).live.chain.drive = .brake ∧ (warned 10000).live.chain.state.driven = false ∧
    ∃ t, exec .startWarningEnd (warned 10000) = .next t ∧ decide (t.live.chain.drive ≠ .brake) = true :=
  ⟨by decide +kernel, runs_next (by decide +kernel), rfl, rfl, runs_next (by decide +kernel)⟩

theorem witness_DebounceRule : LineState.alarm ≠ (Debounced.still LineState.normal).value ∧
    (Debounced.still LineState.normal).run = 0 ∧ samples (List.replicate 4 .alarm) = .normal ∧
    samples (List.replicate 5 .alarm) = .alarm := by decide

/-- An error of −2 links is FFFEh (R37, R189), and a set of two is a count and its elements. -/
theorem test_detail_bytes : (Note.resync (-2)).detail 0 = [0xFF, 0xFE] ∧ byteList [3, 5] = [2, 3, 5] := by decide +kernel

theorem witness_FramesLaidOut : 1 ≤ [(1 : Byte)].length ∧ (List.replicate 200 (0xA5 : Byte)).length ≤ 200 ∧
    frameStatus (frameTail [0x01]) = .whole := by decide +kernel

theorem witness_FullClearSet : plan.geometryOk = true ∧ plan.residues ≠ [] ∧ (plan.sill 4).present = true ∧
    (∃ r ∈ plan.residues, r < plan.pitch) := ⟨by decide +kernel, by decide +kernel, by decide +kernel, 0, by decide +kernel⟩

/-! ## Witnesses: the reads, the ports and the plan store -/

theorem witness_StatusReads : base.canTake .f .zoneRead ∧ base.canTake .c .callMask ∧
    (15 < 16 ∧ 31 < 32 ∧ (base.live.plan.circuit 1).present = true ∧ (base.live.plan.circuit 0).present = false) ∧
    (tableSize .phrases = 128 ∧ tableSize .geometry = 1) := by decide +kernel

/-- ZONE READ, SHUTTER READ and CALL LIST at the ends of their ranges (R93, R119, R137). -/
theorem test_read_ranges :
    runs (.zoneRead .f (.fits (.zone 15))) base (fun t => (t.replyOn .f).map Reply.result = some .done) ∧
    runs (.zoneRead .f (.fits (.zone 16))) base (fun t => (t.replyOn .f).map Reply.result = some .noSuch) ∧
    runs (.shutterRead .f (.fits (.one 32))) base (fun t => (t.replyOn .f).map Reply.result = some .noSuch) ∧
    runs (.callList .c (.fits 31)) base (fun t => t.replyOn .c = some ⟨0x85, .done, .calls 0 []⟩) ∧
    runs (.callList .c (.fits 32)) base (fun t => t.replyOn .c = some ⟨0x85, .noSuch, .none⟩) := by decide +kernel

def worn : State := on fun s => { s with monitor := { s.monitor with wear := { WearCounts.zero with links := 9 } } }

theorem witness_WearReadClear : worn.canTake .c .wearRead ∧ worn.canTake .f .wearRead ∧
    runs (.wearReadClear .c (.fits ())) worn (fun t => t.live.monitor.wear.links = 0 ∧
      (t.replyOn .c).map Reply.result = some .done) ∧
    runs (.wearReadClear .f (.fits ())) worn (fun t => t.live.monitor.wear.links = 9 ∧
      (t.replyOn .f).map Reply.result = some .notPermitted) := by decide +kernel

theorem witness_NoticeFetch : base.canTake .c .noticeFetch ∧ (base.live.port .c).notices = [] ∧
    State.reset.canTake .f .noticeFetch ∧ (State.reset.live.port .f).notices.length = 32 ∧
    runs (.noticeFetch .f (.fits ())) State.reset (fun t => t.live.portF.notices.length = 31 ∧ t.live.portF.lost = false ∧
      t.replyOn .f = some ⟨0x8A, .done, .notice ⟨.started .cold false, 0, true⟩⟩ ∧
      t.live.portC.notices.length = 32) := by decide +kernel

def receiving (bytes : List Byte) (gap : Nat) : State :=
  withPort .f { PortRecord.start with receiver := .receiving bytes, gap := gap }

theorem witness_ByteStream : base.live.listens .f = true ∧ (receiving [2, 1] 31).live.listens .f = true ∧
    frameStatus [2, 1] = .unfinished ∧ frameStatus [0] = .badLength ∧ frameStatus [201] = .badLength ∧
    runs (.frameByte .f 7) (receiving [2, 1] 0) (fun t => t.live.portF.receiver = .receiving [2, 1, 7]) ∧
    runs (.frameGapTimeout .f) (receiving [2, 1] 31) (fun t => t.live.portF.receiver = .hunting) ∧
    runs (.frameGapTimeout .f) (receiving [2, 1] 30) (fun t => t.live.portF.receiver = .receiving [2, 1]) ∧
    runs (.frameDiscard .f) (receiving [201] 0) (fun t => t.live.portF.receiver = .hunting) := by decide +kernel

/-- A byte after a gap of over 30 ms is judged as a hunting byte (R187). -/
theorem witness_LateByte :
    runs (.frameByte .f 0xA5) (receiving [2, 1] 31) (fun t => t.live.portF.receiver = .receiving []) ∧
    runs (.frameByte .f 7) (receiving [2, 1] 31) (fun t => t.live.portF.receiver = .hunting) ∧
    runs (.frameByte .f 7) (receiving [2, 1] 30) (fun t => t.live.portF.receiver = .receiving [2, 1, 7]) := by
  decide +kernel

theorem witness_ReplySent : runs (.replySent .c)
    (withPort .c { PortRecord.start with replyPending := true, reply := some ⟨0x81, .done, .none⟩ })
    (fun t => t.live.portC = .start) := by decide +kernel

theorem witness_UnknownKind : base.live.takes .c (0x7F : Byte).toNat = true ∧ knownKind (0x7F : Byte).toNat = false ∧
    runs (.unknownKind .c 0x7F) base (fun t => t.replyOn .c = some ⟨0xFF, .unknownKind, .none⟩) := by decide +kernel

def restarting : State := { running with live := { running.live with restart := true } }

theorem witness_UnitRestart : base.canTake .c .unitRestart ∧ restarting.live.restart = true ∧
    runs (.unitRestart .c (.fits ())) base (fun t => t.live.restart) ∧
    runs .warmRestart restarting (fun t => t.live.chain.state = .held .restart ∧ t.live.chain.drive = .brake ∧
      t.live.restart = false ∧ t.live.seconds = 41200 ∧
      t.live.portC.notices.head?.map Notice.note = some (.started .warm true)) := by decide +kernel

/-- Zone 2 in ALARM with its circuits 4 and 5 and its channels 2 and 3, the channels' READY as it stands; circuit 1 rings
under a mask, player A holds channel 0, and the indicators of pushes 0 and 1 are lit. -/
def restartingIn (ready : Bool) (k : Option Nat) (zone : ZoneRecord) : State := { State.reset with live := { rest with
  restart := true
  store := { rest.store with active := { plan with geometry := { plan.geometry with evacScript := k } } }
  loop := { rest.loop with ready := Bank.replicate 8 (.still ready) }
  image := { rest.image with indicators := (rest.image.indicators.put 0 true).put 1 true }
  zones := rest.zones.put 2 zone
  calls := [lowCall]
  circuits := rest.circuits.put 1 ⟨some ⟨.host 5 1, .coded 5, .digit false 1, .on, 0⟩, 6, some 4⟩
  speech := { rest.speech with
    playerA := playing
    channels := rest.speech.channels.put 0 ⟨true, some .a, some .ready, none, some .a, none⟩ } } }

/-- What a warm restart makes of a standing demand, of one without a script, and of none (R95, R138, R151, R170); script 3
begins with SILENCE 100, a timed item. -/
theorem witness_UnitRestartDemand :
    (let alarm : ZoneRecord := ⟨true, .alarm, false, some 11, some 41000⟩
     (restartingIn true (some 3) alarm).live.demand = ⟨[6, 7, 8, 9], [1], [4, 5], [2, 3], some 2, some 2⟩ ∧
     ((plan.script 3).items[0]?.bind Item.timed).isSome ∧
     runs .warmRestart (restartingIn true (some 3) alarm) (fun t =>
       t.live.circuit 4 = ⟨some ⟨.fire 4, .fire, .fire, .on, 0⟩, 0, none⟩ ∧ t.live.circuit 1 = ⟨none, 0, none⟩ ∧
       t.live.calls.map CallRecord.key = [.fire 4, .fire 5] ∧ t.live.image.indicators.read 1 false = false ∧
       t.live.channel 0 = ⟨true, none, none, none, none, some 0⟩ ∧ t.live.channel 1 = .rest ∧
       t.live.speech.evac = ⟨.playing, [2, 3], some 2, none⟩ ∧ (t.live.player .a).item = some 0 ∧
       t.live.channel 2 = ⟨true, some .a, some .ready, none, some .a, none⟩) ∧
     runs .warmRestart (restartingIn false (some 3) alarm) (fun t =>
       t.live.speech.evac = ⟨.playing, [2, 3], some 2, none⟩ ∧ (t.live.player .a).phase = .warming ∧
       t.live.channel 3 = ⟨true, some .a, some .awaiting, some 0, none, none⟩) ∧
     runs .warmRestart (restartingIn false none alarm) (fun t =>
       t.live.speech.evac = ⟨.unscripted, [2, 3], some 2, none⟩ ∧ (t.live.player .a).phase = .idle) ∧
     runs .warmRestart (restartingIn true (some 3) (.start true)) (fun t => t.live.calls = [] ∧
       t.live.speech.evac = ⟨.inactive, [], none, none⟩)) := by decide +kernel

def loading (c : Cursor) : State := on fun s => { s with store := { s.store with cursor := c } }

theorem witness_TableLoads : base.canTake .c .planOpen ∧ (loading (.table .pushes 63)).canTake .c .planEntry ∧
    itemEntry .pushes .empty = some (.push emptyPush) ∧ itemEntry .geometry .empty = none ∧
    runs (.planOpen .c (.fits ⟨some .pushes, 63⟩)) base (fun t => t.live.store.cursor = .table .pushes 63) ∧
    runs (.planOpen .c (.fits ⟨some .pushes, 64⟩)) base (fun t => (t.replyOn .c).map Reply.result = some .badValue) ∧
    runs (.planEntry .c (.fits (.entries [.full (.push ⟨true, 99, 6, 15, none⟩)]))) (loading (.table .pushes 63)) (fun t =>
      (t.live.store.pending.push 63).code = 99 ∧ t.replyOn .c = some ⟨0x91, .done, .index 64⟩) ∧
    runs (.planEntry .c (.fits (.entries [.full (.push ⟨true, 100, 6, 15, none⟩)]))) (loading (.table .pushes 63)) (fun t =>
      t.replyOn .c = some ⟨0x91, .badValue, .index 63⟩) ∧
    runs (.planEntry .c (.fits (.entries [.empty]))) (loading (.table .pushes 64)) (fun t =>
      t.replyOn .c = some ⟨0x91, .full, .index 64⟩) ∧
    (∀ f ∈ ([.entries [.empty], .entries [.empty, .empty], .indivisible] : List EntryFrame), ∀ c ∈ [Cursor.closed, .sample 0 1000 160 1000],
      runs (.planEntry .c (.fits f)) (loading c) fun t => t.replyOn .c = some ⟨0x91, .noSuch, .none⟩) := by decide +kernel

/-- A frame of two entries of which the second is refused, or finds the table full, and one of no whole entry (R19). -/
theorem witness_SeveralEntries :
    runs (.planEntry .c (.fits (.entries [.full (.push ⟨true, 99, 6, 15, none⟩), .full (.push ⟨true, 100, 6, 15, none⟩)])))
      (loading (.table .pushes 61)) (fun t => t.replyOn .c = some ⟨0x91, .badValue, .index 62⟩ ∧
        t.live.store.cursor = .table .pushes 62 ∧ (t.live.store.pending.push 61).code = 99) ∧
    runs (.planEntry .c (.fits (.entries [.empty, .empty]))) (loading (.table .pushes 62)) (fun t =>
      t.replyOn .c = some ⟨0x91, .done, .index 64⟩) ∧
    runs (.planEntry .c (.fits (.entries [.empty, .empty]))) (loading (.table .pushes 63)) (fun t =>
      t.replyOn .c = some ⟨0x91, .full, .index 64⟩) ∧
    runs (.planEntry .c (.fits .indivisible)) (loading (.table .pushes 63)) (fun t =>
      (t.replyOn .c).map Reply.result = some .badLength ∧ t.live.store.cursor = .table .pushes 63) := by decide +kernel

theorem witness_PlanCloseDiscard : base.canTake .c .planClose ∧ base.canTake .c .planDiscard ∧
    runs (.planClose .c (.fits ())) (loading (.table .pushes 1)) (fun t => t.live.store.cursor = .closed) ∧
    runs (.planDiscard .c (.fits ())) (loading (.table .pushes 1)) (fun t => t.live.store.cursor = .closed) := by
  decide +kernel

/-- A pending copy that adoption takes: the empty plan with one more link of loop in each pitch. -/
def longer : Plan := { emptyPlan with geometry := { emptyGeometry with loopLength := 68 } }
def adopting (p : Plan) : State := on fun s => { s with store := { s.store with pending := p } }

theorem witness_AdoptionTaken : (adopting longer).canTake .c .planAdopt ∧
    (adopting longer).live.store.pending.firstFailure (adopting longer).live.loop = none ∧ longer.residues ≠ [] ∧
    (adopting longer).live.disquiet = none ∧ (adopting longer).live.store.storeWriting = false ∧
    runs (.planAdopt .c (.fits ())) (adopting longer) (fun t => t.live.store.storeWriting ∧ t.nv.valid = false ∧
      t.nv.plan.geometry.loopLength = 68 ∧ t.live.monitor.count = 0 ∧ t.live.store.fullClear = List.range 17) := by
  decide +kernel

/-- A call standing and a zone in FAULT at an adoption: the list is emptied, the indicators go off, the zones are derived
afresh (R29). -/
theorem witness_AdoptionDerives :
    (adopting longer).live.loop.numbered .call 0 = true ∧
    runs (.planAdopt .c (.fits ())) (let s := adopting { longer with
        circuits := (plan.circuits.put 1 ⟨true, 2⟩).put 6 ⟨true, 0⟩, zones := plan.zones }
      { s with live := detectorAt 13 (.still .short) { s.live with
        calls := [lowCall], zones := s.live.zones.put 2 ⟨true, .isolated, false, none, none⟩
        image := { s.live.image with indicators := s.live.image.indicators.put 0 true } } }) (fun t =>
      t.live.calls = [] ∧ t.live.image.indicators.read 0 false = false ∧ (t.live.circuit 1).mask = 2 ∧
      (t.live.zone 3).state = .fault ∧ (t.live.zone 2).state = .isolated) := by decide +kernel

/-- A plan whose keep-clear bands leave no residue: the roof and floor bands of two sills cover the pitch of 16. -/
def covered : Plan := { emptyPlan with
  geometry := { emptyGeometry with keepClear := 5, carHeight := 9 }, sills := emptyPlan.sills.put 0 ⟨true, 0, .up⟩ }

theorem witness_AdoptionRefused : (adopting { emptyPlan with geometry := { emptyGeometry with cars := 5 } }).live.store.pending.firstFailure
      base.live.loop = some (.geometry, 0) ∧
    covered.firstFailure base.live.loop = none ∧ covered.residues = [] ∧
    runs (.planAdopt .c (.fits ())) (adopting covered) (fun t => t.replyOn .c = some ⟨0x93, .noParkResidue, .none⟩) ∧
    ({ adopting longer with live := { (adopting longer).live with chain := running.live.chain } } : State).live.disquiet
      = some (.chain, 0) := by decide +kernel

theorem witness_StoreWriteDone : runs (.storeWriteDone true)
    (on fun s => { s with store := { s.store with storeWriting := true } })
    (fun t => t.live.store.storeWriting = false ∧ t.nv.valid ∧ told t (.planAdopted true)) := by decide +kernel

theorem witness_SampleOpen : base.canTake .c .sampleOpen ∧ (base.live.plan.phrase 0).length ≠ 0 ∧
    (base.live.plan.phrase 127).length = 0 ∧
    runs (.sampleOpen .c (.fits 0)) base (fun t => t.live.store.cursor = .sample 0 1000 160 1000) ∧
    runs (.sampleOpen .c (.fits 127)) base (fun t => (t.replyOn .c).map Reply.result = some .noSuch) ∧
    runs (.sampleOpen .c (.fits 128)) base (fun t => (t.replyOn .c).map Reply.result = some .badValue) := by decide +kernel

/-- Player B reads phrase 0 from 1,000. -/
def readsPhrase (s : Live) : Live :=
  { s with speech := { s.speech with playerB := { playing with pointer := some 1000, remaining := some 160 } } }
/-- Player B's phrase has ended just before the region, and its PHRASE_END has not come. -/
def ended (s : Live) : Live := s.withPlayer .b { playing with pointer := some 1000, remaining := some 0 }
def writing : State := loading (.sample 0 1000 160 1159)

theorem witness_SampleData : writing.canTake .c .sampleData ∧ writing.live.regionPlaying 1000 160 = false ∧
    (readsPhrase writing.live).regionPlaying 1000 160 = true ∧
    (readsPhrase writing.live).regionPlaying 1001 159 = false ∧ (ended writing.live).regionPlaying 1000 160 = false ∧
    runs (.sampleData .c (.fits [1])) { writing with live := ended writing.live }
      (fun t => t.live.store.sampleWrite = some [1]) ∧
    runs (.sampleData .c (.fits [1])) writing (fun t => t.live.store.sampleWrite = some [1] ∧ t.replyOn .c = none) ∧
    runs (.sampleData .c (.fits (List.replicate 192 7))) writing (fun t => t.replyOn .c = none) ∧
    runs (.sampleData .c (.fits [1])) base (fun t => (t.replyOn .c).map Reply.result = some .noSuch) ∧
    runs (.sampleData .c (.fits [1])) { writing with live := readsPhrase writing.live }
      (fun t => t.live.store.sampleWrite = none) := by decide +kernel

/-- The pointer at the last byte of the region returns to its start (R22). -/
theorem witness_SampleWriteDone : Memory.wf writing.samples = true ∧ 1000 ≤ 1159 ∧ 1159 < 1000 + 160 ∧
    runs .sampleWriteDone { writing with live := { writing.live with store :=
        { writing.live.store with sampleWrite := some [5, 6] } } }
      (fun t => t.samples = [(1000, 6), (1159, 5)] ∧ t.live.store.sampleWrite = none ∧
        (t.replyOn .c).map Reply.fields = some (.pointer 1)) := by decide +kernel

def atSecond (n : Nat) (due : Bool) : State := on fun s => { s with seconds := n, wearDue := due }

theorem witness_Seconds : runs .secondsTick (atSecond 4294967293 false) (fun t => t.live.seconds = 4294967294) ∧
    runs .secondsTick (atSecond 4294967294 false) (fun t => t.live.seconds = 4294967294) ∧
    runs .secondsTick (atSecond 59 false) (fun t => t.live.wearDue) ∧
    runs .wearWrite (atSecond 60 true) (fun t => t.live.wearDue = false ∧ t.nv.lastIsB ∧ t.nv.wearB.isSome) := by
  decide +kernel

/-! ## Witnesses: zones and shutters -/

def zoneIs (z : Nat) (r : ZoneRecord) (s : Live) : Live := { s with zones := s.zones.put z r }
def fireCall : CallRecord := newCall rest (.fire 4) 4 7 .fire false 0 none
def fullList (level : Nat) : List CallRecord :=
  (List.range 32).map fun i => newCall rest (.host (i + 20) 1) 1 level (.coded (i + 20)) false 0 none
def alarmed : ZoneRecord := ⟨true, .alarm, false, some 11, some 41000⟩
def alarmState : State := on (zoneIs 2 alarmed)

theorem witness_ZoneIsolate : base.canTake .c .zoneIsolate ∧ (base.live.plan.zone 2).present = true ∧
    (base.live.plan.zone 15).present = false ∧
    runs (.zoneIsolate .c (.fits 2)) base (fun t => (t.live.zone 2).state = .isolated ∧
      told t (.zoneState 2 .isolated false none)) ∧
    runs (.zoneIsolate .c (.fits 2)) alarmState (fun t => (t.replyOn .c).map Reply.result = some (.busy .state 2)) ∧
    runs (.zoneIsolate .c (.fits 2)) (on (zoneIs 2 ⟨true, .isolated, false, none, none⟩)) (fun t =>
      (t.replyOn .c).map Reply.result = some .done) ∧
    runs (.zoneIsolate .c (.fits 15)) base (fun t => (t.replyOn .c).map Reply.result = some .noSuch) ∧
    runs (.zoneIsolate .c (.fits 16)) base (fun t => (t.replyOn .c).map Reply.result = some .badValue) := by
  decide +kernel

def isolatedWith (x : LineState) : State := on fun s => detectorAt 11 (.still x) (zoneIs 2 ⟨true, .isolated, false, none, none⟩ s)

theorem witness_ZoneRestore : base.canTake .c .zoneRestore ∧
    (isolatedWith .broken).live.alarmedDetector 2 = none ∧ (isolatedWith .alarm).live.alarmedDetector 2 = some 11 ∧
    runs (.zoneRestore .c (.fits 2)) (isolatedWith .broken) (fun t => (t.live.zone 2).state = .fault) ∧
    runs (.zoneRestore .c (.fits 2)) (isolatedWith .alarm) (fun t =>
      t.live.zone 2 = ⟨true, .alarm, false, some 11, some 41200⟩ ∧ told t (.zoneAlarm 2 11)) := by decide +kernel

theorem witness_ZoneSilenceReset : base.canTake .c .zoneSilence ∧ base.canTake .c .zoneReset ∧
    alarmState.live.alarmedDetector 2 = none ∧
    runs (.zoneSilence .c (.fits 2)) alarmState (fun t => (t.live.zone 2).silenced ∧ t.live.demand.circuits = [] ∧
      t.live.demand.shutters = [6, 7, 8, 9]) ∧
    runs (.zoneSilence .c (.fits 2)) (on (zoneIs 2 { alarmed with silenced := true })) (fun t =>
      (t.replyOn .c).map Reply.result = some .done) ∧
    runs (.zoneReset .c (.fits 2)) alarmState (fun t => t.live.zone 2 = ⟨true, .normal, false, none, none⟩ ∧
      t.live.demand.shutters = []) ∧
    runs (.zoneReset .c (.fits 2)) (on fun s => detectorAt 10 (.still .alarm) (zoneIs 2 alarmed s)) (fun t =>
      (t.replyOn .c).map Reply.result = some (.busy .detector 10)) := by decide +kernel

/-- Zone 2 in ALARM, its fire calls standing and ringing on circuits 4 and 5, with another call beside them. -/
def firing : State := on fun s => { zoneIs 2 alarmed s with
  calls := [fireCall, newCall rest (.fire 5) 5 7 .fire false 0 none, lowCall]
  circuits := (s.circuits.put 4 ⟨some ⟨.fire 4, .fire, .fire, .on, 500⟩, 0, none⟩).put 5
    ⟨some ⟨.fire 5, .fire, .fire, .off, 20⟩, 0, none⟩
  speech := { s.speech with evac := ⟨.resting, [2, 3], some 2, some 50⟩ } }

theorem order_firing : CallOrder firing.live.calls where
  room := by decide +kernel
  sorted := by decide +kernel
  distinct := by decide +kernel
  fire r h c k := by
    rcases (by decide +kernel : ∀ r ∈ firing.live.calls, (r.key = .fire 4 ∨ r.key = .fire 5 ∨ r.key = .host 5 1) ∧
        (r.key = .host 5 1 ∨ r.key = .fire r.circuit ∧ r.circuit < 16 ∧ r.level = 7 ∧ r.pattern = .fire)) r h with ⟨g | g | g, i⟩ <;>
      simp_all [Config.fireLevel]
  top r h k := by
    rcases (by decide +kernel : ∀ r ∈ firing.live.calls, r.level < Config.fireLevel ∨ r.key = .fire 4 ∨ r.key = .fire 5)
      r h with g | g | g
    · omega
    · exact ⟨4, g⟩
    · exact ⟨5, g⟩

/-- SILENCE and RESET of the zone: its circuits and channels leave the demand; its shutters leave it with RESET (R84, R85,
R90, R91, R131). -/
theorem witness_DemandWithdrawn : (firing.live.call (.fire 4)).isSome ∧ firing.live.demand.channels = [2, 3] ∧
    runs (.zoneSilence .c (.fits 2)) firing (fun t => t.live.calls = [lowCall] ∧
      (t.live.circuit 4).ring = none ∧ (t.live.circuit 5).ring = none ∧ t.live.gear.fireSet = [6, 7, 8, 9] ∧
      told t (.callRemoved (.fire 4) none 4 7 0 .fireDemand) ∧ t.live.speech.evac = ⟨.inactive, [], none, none⟩) ∧
    runs (.zoneReset .c (.fits 2)) firing (fun t => t.live.calls = [lowCall] ∧ t.live.gear.fireSet = [] ∧
      told t (.callRemoved (.fire 5) none 5 7 0 .fireDemand) ∧ t.live.speech.evac.channels = []) := by decide +kernel

/-- The evacuation entry plays over channels 2 and 3 on player A; zone 3, of channel 3, may stand in ALARM too. -/
def evacuating (both : Bool) : State := { firing with live :=
  { zoneIs 3 (if both then alarmed else .start true) firing.live with speech := { firing.live.speech with
    evac := ⟨.playing, [2, 3], some 2, none⟩
    playerA := { playing with request := some ⟨0, 3, [2, 3], .evacuate, some 2, none, .fireDemand, 41000⟩ }
    channels := (firing.live.speech.channels.put 2 ⟨true, some .a, some .ready, none, some .a, none⟩).put 3
      ⟨true, some .a, some .ready, none, some .a, none⟩ } } }

/-- The set shrinks and the play goes on over what is left of it; the set is empty and the play is stopped (R91). -/
theorem witness_ChannelsWithdrawn : (evacuating true).live.evacPlayer = some .a ∧
    runs (.zoneSilence .c (.fits 2)) (evacuating true) (fun t => t.live.demand.channels = [3] ∧
      t.live.speech.evac = ⟨.playing, [3], some 3, none⟩ ∧ t.live.channel 2 = ⟨true, none, none, none, none, some 0⟩ ∧
      (t.live.channel 3).routing = some .a ∧ t.live.calls.map CallRecord.key = [.fire 5, .host 5 1]) ∧
    runs (.zoneReset .c (.fits 2)) (evacuating false) (fun t => t.live.speech.evac = ⟨.inactive, [], none, none⟩ ∧
      t.live.channel 3 = ⟨true, none, none, none, none, some 0⟩ ∧ (t.live.player .a).phase = .idle ∧
      told t (.speakAbandoned 0 .evacuate .fireDemand .demand (some 0))) := by decide +kernel

def lineIs (d : Nat) (x : LineState) (z : ZoneRecord) : Live := detectorAt d (.still x) (zoneIs 2 z rest)
def calm : ZoneRecord := .start true

/-- Zone 2 lists detectors 10 and 11; shutters 6 to 9 are its own and zone 3's, its circuits 4 and 5. -/
theorem witness_DetectorChange : plan.zoneOf 47 = none ∧ plan.zoneOf 11 = some 2 ∧
    (lineIs 11 .normal calm).lineCondition 2 = .normal ∧ plan.callsFireStop 2 = true ∧
    ((lineIs 11 .broken calm).detectorChange 11).zone 2 = { calm with state := .fault } ∧
    (let t := (lineIs 11 .alarm calm).detectorChange 11
     t.zone 2 = ⟨true, .alarm, false, some 11, some 41200⟩ ∧ t.chain.state = .held .fire ∧
      (t.shutter 9).cause = .fire ∧ (t.call (.fire 5)).isSome ∧ t.speech.evac.channels = [2, 3] ∧
      heard t (.zoneAlarm 2 11)) ∧
    (lineIs 11 .alarm { calm with state := .isolated }).detectorChange 11 =
      lineIs 11 .alarm { calm with state := .isolated } := by decide +kernel

/-- A list full of the host's calls; zone 2 stands in ALARM and detector 12 puts zone 3 in ALARM, whose circuit 6 alone
enters the demand (circuit 5 is there already): the last record is displaced (R123, R131). -/
def fullAt (level : Nat) : Live := { detectorAt 12 (.still .alarm) (zoneIs 2 alarmed rest) with calls := fullList level }

theorem order_full : CallOrder (fullAt 3).calls where
  room := by decide +kernel
  sorted := by decide +kernel
  distinct := by decide +kernel
  fire r h c k := by
    obtain ⟨i, -, rfl⟩ := List.mem_map.mp h
    cases k
  top r h k := absurd k (Nat.not_le.mpr ((by decide +kernel : ∀ r ∈ (fullAt 3).calls, r.level < Config.fireLevel) r h))

theorem witness_FireCallDisplaces : plan.zoneOf 12 = some 3 ∧ (fullAt 3).demand.circuits = [4, 5] ∧
    (fullAt 3).calls.length = 32 ∧ ((fullAt 3).calls.getLast?.map CallRecord.key) = some (.host 51 1) ∧
    (let t := (fullAt 3).detectorChange 12
     t.demand.circuits = [4, 5, 6] ∧ (t.call (.fire 6)).map (fun r => (r.circuit, r.level)) = some (6, 7) ∧
     t.calls.length = 32 ∧ t.call (.host 51 1) = none ∧
     heard t (.callDropped (.host 51 1) (some 51) 1 3 (some 31) .displaced)) := by decide +kernel

theorem witness_DetectorResound :
    (let t := (lineIs 10 .alarm { alarmed with silenced := true }).detectorChange 10
     t.zone 2 = alarmed ∧ (t.call (.fire 4)).isSome ∧ heard t (.zoneAlarm 2 10)) ∧
    (lineIs 10 .alarm alarmed).detectorChange 10 = (lineIs 10 .alarm alarmed).post (.zoneAlarm 2 10) ∧
    (lineIs 10 .short alarmed).detectorChange 10 = lineIs 10 .short alarmed := by decide +kernel

/-- The refusals of the other zone requests (R83 to R86). -/
theorem witness_ZoneRefusals :
    runs (.zoneRestore .c (.fits 16)) base (fun t => (t.replyOn .c).map Reply.result = some .badValue) ∧
    runs (.zoneSilence .c (.fits 15)) base (fun t => (t.replyOn .c).map Reply.result = some .noSuch) ∧
    runs (.zoneRestore .c (.fits 2)) base (fun t => (t.replyOn .c).map Reply.result = some (.busy .state 2)) ∧
    runs (.zoneReset .c (.fits 2)) base (fun t => (t.replyOn .c).map Reply.result = some (.busy .state 2)) := by
  decide +kernel

def shutterIs (k : Nat) (r : ShutterRecord) (s : Live) : Live :=
  { s with gear := { s.gear with records := s.gear.records.put k r } }
def limits (k : Nat) (up down : Bool) (s : Live) : Live :=
  { s with loop := { s.loop with gear := s.loop.gear.put k ⟨.still up, .still down, .still false, none⟩ } }

theorem witness_ShutterLower : base.canTake .c .shutterLower ∧ (base.live.plan.shutter 7).present = true ∧
    (base.live.plan.shutter 31).present = false ∧
    runs (.shutterLower .c (.fits 6)) base (fun t => t.live.shutter 6 = armedRecord .host ∧
      t.live.image.warn.read 6 false ∧ t.live.chain.state = .parked) ∧
    runs (.shutterLower .c (.fits 7)) running (fun t => t.live.shutter 7 = armedRecord .host ∧
      t.live.chain.state = .held .hostEmergency ∧ t.live.chain.drive = .brake) ∧
    runs (.shutterLower .c (.fits 31)) base (fun t => (t.replyOn .c).map Reply.result = some .noSuch) ∧
    runs (.shutterLower .c (.fits 32)) base (fun t => (t.replyOn .c).map Reply.result = some .badValue) := by
  decide +kernel

theorem witness_ShutterLowerClosed : runs (.shutterLower .c (.fits 6)) (on (shutterIs 6 (.start .closed none))) (fun t =>
      (t.replyOn .c).map Reply.fields = some (.shutterState .closed)) ∧
    (limits 6 true true (shutterIs 6 (.start .jammed (some .limits)) rest)).limitsJammed 6 = true := by decide +kernel

/-- A shutter halted is armed again, one descending is left, one jammed on both limits is refused, and RAISE and HALT refuse
what SHUTTER LOWER refuses (R99, R112, R114). -/
theorem witness_ShutterOther :
    runs (.shutterLower .c (.fits 6)) (on (shutterIs 6 (.start .halted none))) (fun t =>
      t.live.shutter 6 = armedRecord .host) ∧
    runs (.shutterLower .c (.fits 6)) (on (shutterIs 6 (.start .descending none))) (fun t =>
      (t.replyOn .c).map Reply.fields = some (.shutterState .descending)) ∧
    runs (.shutterLower .c (.fits 6)) (on fun s => limits 6 true true (shutterIs 6 (.start .jammed (some .limits)) s))
      (fun t => t.live.free = 1) ∧
    runs (.shutterRaise .c (.fits 31)) base (fun t => (t.replyOn .c).map Reply.result = some .noSuch) ∧
    runs (.shutterHalt .c (.fits 32)) base (fun t => (t.replyOn .c).map Reply.result = some .badValue) := by decide +kernel

theorem witness_ShutterRaise : base.canTake .c .shutterRaise ∧ ShutterState.raisable .closed = true ∧
    ShutterState.raisable .opened = false ∧ base.live.gear.fireSet.contains 6 = false ∧
    runs (.shutterRaise .c (.fits 6)) (on fun s => limits 6 false true (shutterIs 6 (.start .closed none) s)) (fun t =>
      (t.live.shutter 6).state = .raising ∧ (t.live.shutter 6).travelTimer = some 0 ∧ t.live.image.wind.read 6 false) ∧
    runs (.shutterRaise .c (.fits 6)) (on (shutterIs 6 (.start .halted none))) (fun t =>
      (t.live.shutter 6).state = .opened) ∧
    ({ rest.gear with fireSet := [6] } : ShutterGear).fireSet.contains 6 = true := by decide +kernel

def descending (cause : CloseCause) : ShutterRecord :=
  { ShutterRecord.start .descending none with cause := cause, travelTimer := some 500 }

theorem witness_ShutterHalt : base.canTake .c .shutterHalt ∧
    runs (.shutterHalt .c (.fits 6)) (on (shutterIs 6 (descending .night))) (fun t =>
      (t.live.shutter 6).state = .halted ∧ t.live.image.brake.read 6 false ∧ told t (.shutterHalted 6 .host)) ∧
    runs (.shutterHalt .c (.fits 6)) (on (shutterIs 6 (descending .fire))) (fun t =>
      (t.live.shutter 6).state = .descending) ∧
    runs (.shutterHalt .c (.fits 6)) (on (shutterIs 6 (.start .halted none))) (fun t =>
      (t.replyOn .c).map Reply.result = some .done) := by decide +kernel

/-- Shutter 6 is plain; shutter 7 stands on sill 4. Its warning has run its 5 s, and its hold-off its 60 s. -/
def armedFor (k : Nat) (hold : Nat) : State := on fun s => limits k false false (shutterIs k
  { armedRecord .fire with warnTimer := some 5000, holdTimer := some hold } s)

theorem witness_ArmedDescends : (armedFor 6 0).live.warnExpired 6 = true ∧ (armedFor 6 0).live.answerFor 6 = none ∧
    ((armedFor 6 0).live.input 6).edgeTaken = false ∧ (armedFor 7 60000).live.answerFor 7 ≠ none ∧
    (armedFor 7 60000).live.clearHolds 7 = false ∧ (armedFor 7 60000).live.holdExpired 7 = true ∧
    runs (.shutterWarningExpiry 6) (armedFor 6 0) (fun t => (t.live.shutter 6).state = .descending ∧
      (t.live.shutter 6).travelTimer = some 0) ∧
    runs (.shutterWarningExpiry 7) (armedFor 7 60000) (fun t => (t.live.shutter 7).state = .descending) ∧
    runs (.holdOffExpiry 7) (armedFor 7 60000) (fun t => (t.live.shutter 7).state = .descending ∧
      (t.live.shutter 7).uncleared ∧ told t (.shutterUncleared 7 .unknown .parked)) ∧
    runs (.holdOffExpiry 7) (armedFor 7 59990) (fun t => (t.live.shutter 7).state = .armed) := by decide +kernel

/-- With its hold-off still running the shutter waits and says so once (R105). -/
theorem witness_ArmedWaits : (armedFor 7 0).live.holdExpired 7 = false ∧
    runs (.shutterWarningExpiry 7) (armedFor 7 0) (fun t => (t.live.shutter 7).state = .armed ∧
      (t.live.shutter 7).waitingPosted ∧ told t (.shutterWaiting 7 .unknown .parked)) ∧
    (let s := armedFor 7 0
     let again := on fun _ => shutterIs 7 { s.live.shutter 7 with waitingPosted := true } s.live
     runs (.shutterWarningExpiry 7) again (fun t => t == again)) := by decide +kernel

/-- DOWN, or the EDGE, stands asserted at the entry to DESCENDING (R106). -/
theorem witness_EntryReads :
    runs (.shutterWarningExpiry 6) (let s := armedFor 6 0; { s with live := limits 6 false true s.live }) (fun t =>
      (t.live.shutter 6).state = .closed ∧ (t.live.shutter 6).holdTimer = none ∧
      t.live.monitor.wear.closures.read 6 0 = 1 ∧ told t (.shutterState 6 .descending .fire false false 0)) ∧
    runs (.holdOffExpiry 7) (let s := armedFor 7 60000
      { s with live := s.live.putGear 7 ⟨.still false, .still false, .still true, none⟩ }) (fun t =>
      (t.live.shutter 7).state = .lifting ∧ (t.live.shutter 7).obstructions = 1 ∧ (t.live.shutter 7).uncleared ∧
      (t.live.shutter 7).travelTimer = some 0 ∧ told t (.shutterObstructed 7 1 .fire)) := by decide +kernel

def timedShutter (st : ShutterState) (travel phase : Option Nat) : State := on fun s => limits 6 false false
  (shutterIs 6 { ShutterRecord.start st none with cause := .host, travelTimer := travel, phaseTimer := phase } s)

theorem witness_ShutterTimers :
    runs (.retractExpiry 6) (timedShutter .lifting none (some 1000)) (fun t => (t.live.shutter 6).state = .paused) ∧
    runs (.retractExpiry 6) (timedShutter .lifting none (some 990)) (fun t => (t.live.shutter 6).state = .lifting) ∧
    runs (.pauseExpiry 6) (timedShutter .paused (some 70) (some 5000)) (fun t =>
      (t.live.shutter 6).state = .descending ∧ (t.live.shutter 6).travelTimer = some 70) ∧
    runs (.descentLimitExpiry 6) (timedShutter .descending (some 30010) none) (fun t =>
      (t.live.shutter 6).state = .jammed ∧ (t.live.shutter 6).jam = some .travel) ∧
    runs (.descentLimitExpiry 6) (timedShutter .descending (some 30000) none) (fun t =>
      (t.live.shutter 6).state = .descending) ∧
    runs (.raiseLimitExpiry 6) (timedShutter .raising (some 60010) none) (fun t =>
      (t.live.shutter 6).jam = some .raise) := by decide +kernel

/-- Shutter 6 in a state, its limits as they stand. -/
def gearAt (st : ShutterState) (cause : CloseCause) (up down : Bool) : Live :=
  limits 6 up down (shutterIs 6 { ShutterRecord.start st none with cause := cause } rest)

def withWarning (n : Nat) (s : Live) : Live :=
  { s with store := { s.store with active := { plan with geometry := { plan.geometry with fireWarning := n } } } }

theorem witness_CloseForFire : plan.sillOf 6 = none ∧ 0 < plan.geometry.fireWarning ∧
    ((gearAt .opened .host true false).closeRequest 6 .fire).shutter 6 = armedRecord .fire ∧
    ((withWarning 0 (gearAt .unplaced .host false false)).closeRequest 6 .fire).shutter 6 =
      { armedRecord .fire with state := .descending, warnTimer := none, travelTimer := some 0 } ∧
    (((gearAt .armed .night false false).closeRequest 6 .fire).shutter 6).holdTimer = some 0 ∧
    ((gearAt .paused .fire false false).closeRequest 6 .fire) = gearAt .paused .fire false false ∧
    ((gearAt .closed .host false true).closeRequest 6 .fire) = gearAt .closed .host false true := by decide +kernel

theorem witness_LimitChange :
    (((gearAt .opened .host false false).limitChange 6 .up).shutter 6).state = .unplaced ∧
    (((gearAt .unplaced .host true false).limitChange 6 .up).shutter 6).state = .opened ∧
    (let t := (gearAt .descending .host false true).limitChange 6 .down
     (t.shutter 6).state = .closed ∧ t.monitor.wear.closures.read 6 0 = 1) ∧
    (((gearAt .lifting .host true false).limitChange 6 .up).shutter 6).phaseTimer = some 0 ∧
    (((gearAt .raising .host true false).limitChange 6 .up).shutter 6).state = .opened ∧
    (((gearAt .halted .host true true).limitChange 6 .up).shutter 6).jam = some .limits ∧
    ((gearAt .armed .fire false false).limitChange 6 .up) = gearAt .armed .fire false false := by decide +kernel

/-- The third obstruction of one closing (R110), and a module lost under an OPEN shutter (R117). -/
def twice (cause : CloseCause) : Live := shutterIs 6 { descending cause with obstructions := 2 } rest

theorem witness_FirstObstruction :
    (let t := (shutterIs 6 (descending .fire) rest).edgeAsserted 6
     t.shutter 6 = { descending .fire with state := .lifting, obstructions := 1, phaseTimer := some 0 } ∧
      heard t (.shutterObstructed 6 1 .fire) ∧ t.monitor.wear.obstructions.read 6 0 = 1) ∧
    (((shutterIs 6 { descending .host with obstructions := 1 } rest).edgeAsserted 6).shutter 6).obstructions = 2 := by
  decide +kernel

theorem witness_ThirdObstruction :
    (let t := (twice .fire).edgeAsserted 6
     (t.shutter 6).forced ∧ (t.shutter 6).state = .descending ∧ heard t (.shutterForced 6)) ∧
    (let t := (twice .host).edgeAsserted 6
     (t.shutter 6).state = .halted ∧ (t.shutter 6).obstructions = 3 ∧ heard t (.shutterHalted 6 .obstruction)) ∧
    (rest.edgeAsserted 6 = rest) ∧ ((rest.shutterModuleLost 6).shutter 6).state = .unplaced := by decide +kernel

/-! ## Witnesses: the chain -/

def chainWith (f : ChainDrive → ChainDrive) (s : Live) : Live := { s with chain := f s.chain }

theorem witness_ChainStart : base.canTake .c .chainStart ∧ ChainState.startable .parked = true ∧
    ChainState.startable .running = false ∧ base.live.sillNotOpen = none ∧ base.live.alarmWithLanding = none ∧
    (on (shutterIs 7 (.start .closed none))).live.sillNotOpen = some 7 ∧
    alarmState.live.alarmWithLanding = some 2 ∧
    runs (.chainStart .c (.fits ())) base (fun t => t.live.chain.state = .warning ∧ t.live.chain.warnTimer = some 0 ∧
      t.live.image.gongs.read 1 false ∧ t.live.image.gongs.read 2 false = false ∧ told t (.chainState .warning)) ∧
    runs (.chainStart .c (.fits ())) (on (shutterIs 7 (.start .closed none))) (fun t =>
      (t.replyOn .c).map Reply.result = some (.busy .shutter 7)) ∧
    runs (.chainStart .c (.fits ())) (on (chainWith fun c => { c with flapBottom := true })) (fun t =>
      (t.replyOn .c).map Reply.result = some (.busy .flap 1)) := by decide +kernel

theorem witness_ChainStartRefused :
    runs (.chainStart .c (.fits ())) (on (chainWith fun c => { c with flapTop := true })) (fun t =>
      (t.replyOn .c).map Reply.result = some (.busy .flap 0)) ∧
    runs (.chainStart .c (.fits ())) alarmState (fun t => (t.replyOn .c).map Reply.result = some (.busy .zone 2)) ∧
    runs (.chainStart .c (.fits ())) running (fun t => (t.replyOn .c).map Reply.result = some (.busy .state 0)) := by
  decide +kernel

/-- CHAIN STEP with a sill shutter not OPEN, and with a flap (R72). -/
theorem witness_StepRefused :
    runs (.chainStep .c (.fits 3)) (on fun s => shutterIs 7 (.start .closed none) (chainIs (.inspection .idle) .brake s))
      (fun t => (t.replyOn .c).map Reply.result = some (.busy .shutter 7)) ∧
    runs (.chainStep .c (.fits 3)) (on fun s => chainWith (fun c => { c with flapTop := true })
      (chainIs (.inspection .idle) .brake s)) (fun t => (t.replyOn .c).map Reply.result = some (.busy .flap 0)) ∧
    runs (.chainStep .c (.fits 3)) (on fun s => chainWith (fun c => { c with flapBottom := true })
      (chainIs (.inspection .idle) .brake s)) (fun t => (t.replyOn .c).map Reply.result = some (.busy .flap 1)) := by
  decide +kernel

def sweeping (left gong : Nat) : State := on fun _ =>
  chainWith (fun c => { c with sweep := some left, gongTimer := some gong }) running.live

theorem witness_WarningAndGongs : (warned 10000).live.chain.state = .warning ∧
    runs .startWarningEnd (warned 10000) (fun t => t.live.chain.state = .running ∧ t.live.chain.drive = .run ∧
      t.live.chain.stallTimer = some 0) ∧
    runs .startWarningEnd (warned 9990) (fun t => t.live.chain.state = .warning) ∧
    runs .warningGongToggle (warned 500) (fun t => t.live.chain.gongsOn = false) ∧
    runs .warningGongToggle (warned 1000) (fun t => t.live.chain.gongsOn) ∧
    runs .sweepGongTimer (sweeping 9 5000) (fun t => t.live.chain.gongsOn ∧ t.live.chain.gongTimer = some 0) ∧
    runs .sweepGongTimer (sweeping 9 500) (fun t => t.live.chain.gongsOn = false) := by decide +kernel

def fast : State := { running with live := { running.live with monitor := { running.live.monitor with speed := 10 } } }
def suspect : State := { running with live := positionIs 5 .suspect running.live }

/-- From 5 at 10 links a second the target is 13, eight links on, and the decel point lies at four links to go (R57). -/
theorem witness_ChainStop : fast.canTake .c .chainStop ∧ fast.canTake .f .chainStop ∧
    runs (.chainStop .f (.fits ())) fast (fun t => t.live.chain.state = .stopping .host .approach ∧
      t.live.chain.stop = some ⟨8, 4, 13, 0⟩ ∧ t.live.chain.drive = .run) ∧
    runs (.chainStop .c (.fits ())) suspect (fun t => t.live.chain.deferred = some .host ∧ told t (.stopDeferred .host)) ∧
    runs (.chainStop .c (.fits ())) (warned 20) (fun t => t.live.chain.state = .parked) ∧
    runs (.chainStop .c (.fits ())) (on fun s => chainWith (fun c => { c with step := some 4 })
      (chainIs (.inspection .creeping) .creep s)) (fun t => t.live.chain.state = .inspection .braked ∧
        t.live.chain.drive = .brake ∧ t.live.portF.notices = []) ∧
    runs (.chainStop .c (.fits ())) base (fun t => (t.replyOn .c).map Reply.result = some .done) := by decide +kernel

theorem witness_Inspection : base.canTake .c .chainInspect ∧ base.canTake .c .chainStep ∧
    runs (.chainInspectOn .c (.fits .named)) base (fun t => t.live.chain.state = .inspection .idle) ∧
    runs (.chainInspectOff .c (.fits .named)) (on (chainIs (.inspection .idle) .brake)) (fun t =>
      t.live.chain.state = .parked) ∧
    runs (.chainInspectOff .c (.fits .named)) base (fun t => (t.replyOn .c).map Reply.result = some .done) ∧
    runs (.chainStep .c (.fits 65)) (on (chainIs (.inspection .idle) .brake)) (fun t =>
      t.live.chain.state = .inspection .creeping ∧ t.live.chain.step = some 64 ∧ t.live.chain.drive = .creep) ∧
    runs (.chainStep .c (.fits 0)) (on (chainIs (.inspection .idle) .brake)) (fun t =>
      (t.replyOn .c).map Reply.result = some .badValue) ∧
    runs (.stepRemainderEnd 3) (on fun s => chainWith (fun c => { c with step := some 1 })
      (chainIs (.inspection .creeping) .creep s)) (fun t => t.live.chain.state = .inspection .braked ∧
        t.live.chain.step = some 0 ∧ t.live.gear.chainCopy = .inspection .creeping ∧ t.live.portF.notices = []) := by
  decide +kernel

def stoppingAt (n : Nat) (ph : StopPhase) (d : DriveOutput) (overrun : Nat) : State := on fun s =>
  chainWith (fun c => { c with stop := some ⟨n, 4, 13, overrun⟩ }) (chainIs (.stopping .host ph) d (positionIs 5 .valid s))

theorem witness_LinkPulse : running.live.monitor.count < running.live.plan.geometry.loopLength ∧
    runs (.linkPulse 0) (on (positionIs 63 .valid)) (fun t => t.live.monitor.count = 0 ∧
      t.live.monitor.wear.links = 1) ∧
    runs (.linkPulse 0) (stoppingAt 8 .approach .run 0) (fun t => t.live.chain.stop = some ⟨7, 4, 13, 0⟩) ∧
    runs (.linkPulse 0) (stoppingAt 0 .braked .brake 65535) (fun t => t.live.chain.stop = some ⟨0, 4, 13, 65535⟩) ∧
    runs (.linkPulse 0) (sweeping 2 0) (fun t => t.live.chain.sweep = some 1 ∧ t.live.chain.state = .running) := by
  decide +kernel

def watching : State := on fun s => { positionIs 3 .valid s with
  monitor := { s.monitor with count := 3, position := .valid, watchArmed := true } }

theorem witness_MissedIndex : watching.live.nextCount = watching.live.plan.geometry.indexTolerance + 2 ∧
    runs (.missedIndex 0) watching (fun t => t.live.monitor.position = .unknown ∧ t.live.monitor.watchArmed = false ∧
      t.live.monitor.count = 4 ∧ told t (.positionLost 4)) := by decide +kernel

theorem witness_StopPulses :
    runs (.decelPoint 0) (stoppingAt 5 .approach .run 0) (fun t => t.live.chain.state = .stopping .host .creeping ∧
      t.live.chain.drive = .creep ∧ t.live.chain.stop = some ⟨4, 4, 13, 0⟩) ∧
    runs (.stopTargetReached 0) (stoppingAt 1 .creeping .creep 0) (fun t =>
      t.live.chain.state = .stopping .host .braked ∧ t.live.chain.drive = .brake) ∧
    runs (.sweepEnd 0) (sweeping 1 0) (fun t => t.live.chain.sweep = none ∧
      t.live.chain.state = .stopping .sweepEnd .creeping) := by decide +kernel

/-- 62 is an error of −2, within the tolerance of 2; 61 is one of −3 (R37). -/
theorem witness_IndexPulse :
    runs .indexPulse (on (positionIs 62 .valid)) (fun t => t.live.monitor.position = .valid ∧
      t.live.monitor.count = 0 ∧ told t (.resync (-2))) ∧
    runs .indexPulse (on (positionIs 61 .valid)) (fun t => t.live.monitor.position = .suspect ∧
      told t (.positionSuspect (-3))) ∧
    runs .indexPulse (on (positionIs 32 .unknown)) (fun t => t.live.monitor.position = .valid ∧
      told t (.positionValid 32)) ∧
    runs .indexPulse (on fun _ => chainWith (fun c => { c with deferred := some .park })
        (positionIs 1 .suspect suspect.live)) (fun t => t.live.monitor.position = .valid ∧
      t.live.chain.deferred = none) := by decide +kernel

def settling (st : ChainState) (n : Nat) (stop : Option StopRecord) : State := on fun s =>
  chainWith (fun c => { c with stop := stop }) { chainIs st .brake s with
    monitor := { s.monitor with settleTimer := some n, count := 13, position := .valid } }

theorem witness_SettleAndStall :
    runs .chainSettled (settling (.stopping .host .braked) 1000 (some ⟨0, 4, 13, 1⟩)) (fun t =>
      t.live.chain.state = .parked ∧ t.live.chain.stop = none ∧ t.live.monitor.settled) ∧
    runs .chainSettled (settling (.stopping .fire .braked) 1000 none) (fun t => t.live.chain.state = .held .fire) ∧
    runs .chainSettled (settling (.inspection .braked) 1000 none) (fun t => t.live.chain.state = .inspection .idle ∧
      told t (.stepDone 13 .valid)) ∧
    runs .chainSettled (settling .parked 990 none) (fun t => t.live.monitor.settled = false) ∧
    runs .stall (on fun s => chainWith (fun c => { c with stallTimer := some 1500 }) (chainIs .running .run s))
      (fun t => t.live.chain.state = .fault ∧ t.live.chain.drive = .brake ∧
        told t (.chainEmergency .stall 0 .run)) := by decide +kernel

/-- The chain at work in a state, valid at count 5 or lost. -/
def atWork (st : ChainState) (d : DriveOutput) (p : Position) : Live := positionIs 5 p (chainIs st d rest)

theorem witness_FireStop :
    (let t := { atWork .running .run .valid with monitor := fast.live.monitor }.fireStop
     t.chain.state = .stopping .fire .approach ∧ t.chain.stop = some ⟨8, 4, 13, 0⟩) ∧
    (let t := (atWork .running .run .suspect).fireStop
     t.chain.drive = .brake ∧ t.chain.state = .held .fire ∧ heard t (.chainEmergency .fire 0 .run)) ∧
    ((atWork (.stopping .host .creeping) .creep .valid).fireStop).chain.state = .stopping .fire .creeping ∧
    ((warned 20).live.fireStop).chain.warnTimer = none ∧
    ((atWork (.inspection .braked) .brake .valid).fireStop).chain.state = .held .fire ∧
    (atWork .fault .brake .valid).fireStop = atWork .fault .brake .valid := by decide +kernel

theorem witness_PinChanges :
    (let t := (atWork .running .run .valid).flapChange true true
     t.chain.drive = .brake ∧ t.chain.state = .held .flap ∧ t.chain.flapBottom ∧ heard t (.chainEmergency .flap 1 .run)) ∧
    ((atWork (.stopping .fire .approach) .run .valid).flapChange false true).chain.state = .held .fire ∧
    ((atWork (.stopping .host .braked) .brake .valid).flapChange false true).chain.state = .held .flap ∧
    ((atWork .running .run .valid).flapChange true false).chain.drive = .run ∧
    (((atWork .running .run .valid).slowChange true).chain.drive = .reduced) ∧
    (((atWork (.stopping .host .approach) .reduced .valid).slowChange false).chain.drive = .run) ∧
    (((atWork (.stopping .host .creeping) .creep .valid).slowChange true).chain.drive = .creep) := by decide +kernel

/-! ## Witnesses: calls and circuits -/

def placing (level : Nat) : CallPlaceFields := ⟨2, level, 7, some .once, some 5⟩

def callsAre (l : List CallRecord) : State := on fun s => { s with calls := l }

theorem witness_CallPlace : base.canTake .f .callPlace ∧ (placing 6).inRange = true ∧ (placing 7).inRange = false ∧
    (base.live.plan.circuit 2).present = true ∧ base.live.call (.host 7 2) = none ∧
    runs (.callPlace .f (.fits (placing 6))) base (fun t =>
      (t.live.call (.host 7 2)).map (fun r => (r.level, r.reRing, r.state)) = some (6, some 10, .ringing) ∧
      t.live.image.sounders.read 2 false ∧ told t (.callEntered (.host 7 2) (some 7) 2 6 0 false)) ∧
    runs (.callPlace .c (.fits (placing 2))) (callsAre (fullList 2)) (fun t =>
      (t.replyOn .c).map Reply.result = some .full ∧ told t (.callDropped (.host 7 2) (some 7) 2 2 none .full)) ∧
    runs (.callPlace .c (.fits (placing 3))) (callsAre (fullList 2)) (fun t =>
      t.live.calls.length = 32 ∧ told t (.callDropped (.host 51 1) (some 51) 1 2 (some 31) .displaced) ∧
      (t.live.call (.host 7 2)).isSome) := by decide +kernel

def standing : CallRecord := { newCall rest (.host 7 2) 2 1 (.coded 7) true 0 none with presses := 0, arrival := 100 }

theorem witness_CallReplace : (callsAre [standing]).live.call (.host 7 2) = some standing ∧
    runs (.callPlace .c (.fits (placing 4))) (callsAre [standing]) (fun t =>
      (t.live.call (.host 7 2)).map (fun r => (r.level, r.arrival)) = some (4, 100) ∧
      (t.replyOn .c).map Reply.fields = some (.place true 0)) := by decide +kernel

theorem witness_CallClear : (callsAre [standing]).canTake .f .callClear ∧ CallKey.inRange (.host 7 2) = true ∧
    CallKey.inRange (.host 100 2) = false ∧ fireCall.pattern = .fire ∧
    runs (.callClear .f (.fits (some (.host 7 2)))) (callsAre [standing]) (fun t => t.live.calls = [] ∧
      told t (.callRemoved (.host 7 2) (some 7) 2 1 0 .clear)) ∧
    runs (.callClear .f (.fits (some (.fire 4)))) (callsAre [fireCall]) (fun t => t.live.calls = [fireCall]) ∧
    runs (.callClear .f (.fits (some (.host 7 3)))) base (fun t => (t.replyOn .f).map Reply.result = some .noSuch) ∧
    runs (.callClear .f (.fits none)) base (fun t => (t.replyOn .f).map Reply.result = some .badValue) ∧
    runs (.callClear .c (.fits (some (.push 0)))) busy (fun t => (t.live.circuit 1).ring.map Ring.key = some (.host 5 1) ∧
      t.live.image.indicators.read 0 false = false) := by decide +kernel

theorem witness_CallMask : base.canTake .c .callMask ∧ (busy.live.circuit 1).ring.isSome = true ∧
    runs (.callMask .c (.fits ⟨1, 6⟩)) base (fun t => t.live.circuit 1 = ⟨none, 6, none⟩ ∧
      told t (.circuitMask 1 6 0)) ∧
    runs (.callMask .c (.fits ⟨1, 6⟩)) busy (fun t => (t.live.circuit 1).pendingMask = some 6 ∧
      (t.live.circuit 1).mask = 0 ∧ (t.replyOn .c).map Reply.fields = some (.masks 0 (some 6))) ∧
    runs (.callMask .c (.fits ⟨1, 7⟩)) base (fun t => (t.replyOn .c).map Reply.result = some .badValue) ∧
    runs (.callMask .c (.fits ⟨15, 6⟩)) base (fun t => (t.replyOn .c).map Reply.result = some .noSuch) ∧
    runs (.callMask .c (.fits ⟨16, 0⟩)) base (fun t => (t.replyOn .c).map Reply.result = some .badValue) := by
  decide +kernel

/-- Circuit 1 rings push 0's code 23 with a phase at a timer reading. -/
def ringingAt (place : RingPlace) (phase : RingPhase) (timer : Nat) (l : List CallRecord) : State := on fun s => { s with
  calls := l, circuits := s.circuits.put 1 ⟨some ⟨.push 0, .coded 23, place, phase, timer⟩, 0, none⟩ }

/-- Code 23 is two strokes, a gap and three strokes (R142). -/
theorem witness_PhaseEnd :
    runs (.phaseEnd 1) (ringingAt (.digit true 1) .on 150 [busyCall]) (fun t =>
      (t.live.circuit 1).ring = some ⟨.push 0, .coded 23, .digit true 1, .off, 0⟩) ∧
    runs (.phaseEnd 1) (ringingAt (.digit true 1) .on 140 [busyCall]) (fun t =>
      (t.live.circuit 1).ring.map Ring.timer = some 140) ∧
    runs (.phaseEnd 1) (ringingAt (.digit true 2) .off 250 [busyCall]) (fun t =>
      (t.live.circuit 1).ring = some ⟨.push 0, .coded 23, .digit true 2, .gap, 0⟩) ∧
    runs (.phaseEnd 1) (ringingAt (.digit true 2) .gap 800 [busyCall]) (fun t =>
      (t.live.circuit 1).ring = some ⟨.push 0, .coded 23, .digit false 1, .on, 0⟩) ∧
    runs (.phaseEnd 1) (ringingAt (.digit true 1) .off 250 [{ lowCall with level := 6 }, busyCall]) (fun t =>
      (t.live.circuit 1).ring.map Ring.key = some (.host 5 1) ∧
      (t.live.call (.push 0)).map CallRecord.state = some .waiting) := by decide +kernel

/-- The third stroke of the units ends the ring: the re-ring time is the plan's 60 s, the escalation the third ring
(R134, R136). -/
theorem witness_RingEnd :
    runs (.phaseEnd 1) (ringingAt (.digit false 3) .off 250 [busyCall]) (fun t =>
      t.live.call (.push 0) = some { busyCall with state := .resting, rings := 1, nextRing := some 41260 } ∧
      (t.live.circuit 1).ring = none) ∧
    runs (.phaseEnd 1) (ringingAt (.digit false 3) .off 250 [{ busyCall with rings := 2 }]) (fun t =>
      (t.live.call (.push 0)).map (fun r => (r.level, r.rings, r.circuit)) = some (3, 0, 2) ∧
      told t (.callEscalated (.push 0) 3 2 1)) ∧
    runs (.phaseEnd 1) (ringingAt (.digit false 3) .off 250 [{ busyCall with needsAck := false }]) (fun t =>
      t.live.calls = [] ∧ told t (.callRemoved (.push 0) (some 23) 1 2 0 .completed)) := by decide +kernel

/-- A pending mask takes effect at the boundary that ends a stroke's gap (R149). -/
theorem witness_PendingMask :
    runs (.phaseEnd 1) (on fun s => { s with
      calls := [busyCall], circuits := s.circuits.put 1 ⟨some ⟨.push 0, .coded 23, .digit true 1, .off, 250⟩, 0, some 6⟩ })
      (fun t => (t.live.circuit 1).mask = 6 ∧ (t.live.circuit 1).pendingMask = none ∧ told t (.circuitMask 1 6 0)) := by
  decide +kernel

def begun (p : Pattern) : Machine.Ring := ⟨.push 0, p, firstStroke p, .on, 0⟩
def lasts (l : List (RingPhase × RingPlace × Nat)) : Nat := (l.map fun x => x.2.2).sum

/-- Section 8.1: one ring of the closing call lasts 13,000 ms (R143); code 10 is one stroke, a gap and ten strokes, code 7
seven strokes (R142). -/
theorem test_courses : lasts (Machine.Ring.course 60 (begun .closing)) = 13000 ∧
    lasts (Machine.Ring.course 60 (begun (.coded 10))) = 400 + 800 + 10 * 400 ∧
    lasts (Machine.Ring.course 60 (begun (.coded 7))) = 7 * 400 ∧
    Machine.Ring.course 2 (begun .fire) = [(.on, .fire, 1000), (.off, .fire, 500)] := by decide +kernel

/-- A fire call takes a circuit that rings another call, and an idle one at mask 6 (R140, R145). -/
theorem witness_FireCall : busyLive.call (.fire 1) = none ∧
    (let t := busyLive.fireCallEnter 1
     t.circuit 1 = ⟨some ⟨.fire 1, .fire, .fire, .on, 0⟩, 0, none⟩ ∧ t.image.sounders.read 1 false ∧
      t.call (.push 0) = some { busyCall with state := .waiting } ∧
      heard t (.callEntered (.fire 1) none 1 7 0 false)) ∧
    (({ rest with circuits := rest.circuits.put 4 ⟨none, 6, none⟩ }.fireCallEnter 4).circuit 4).ring.map Machine.Ring.key =
      some (.fire 4) := by decide +kernel

/-- The list as it stands, with an indicator on for push 0's call. -/
def withCalls (l : List CallRecord) : Live := { rest with
  calls := l, image := { rest.image with indicators := rest.image.indicators.put 0 true } }

theorem witness_PushChanges :
    rest.pushChange 0 .idle .broken = rest.post (.pushLine 0 true) ∧
    rest.pushChange 0 .broken .attend = rest.post (.pushLine 0 false) ∧
    rest.pushChange 5 .idle .press = rest ∧ (plan.push 5).present = false ∧
    (let t := rest.pushChange 0 .idle .press
     t.image.indicators.read 0 false ∧ heard t (.callEntered (.push 0) (some 23) 1 2 0 false)) ∧
    (callsAre (fullList 2)).live.pushChange 0 .idle .press =
      (callsAre (fullList 2)).live.post (.callDropped (.push 0) (some 23) 1 2 none .full) ∧
    (let t := busyLive.pushChange 0 .idle .attend
     t.call (.push 0) = none ∧ t.image.indicators.read 0 false = false ∧
      heard t (.callRemoved (.push 0) (some 23) 1 2 0 .attend)) := by decide +kernel

/-- The third press of one call raises its level by one, the fifteenth is the last counted (R125). -/
theorem witness_PressAgain :
    (let t := (withCalls [{ busyCall with state := .resting, presses := 2, nextRing := some 50000 }]).pushChange 0 .idle .press
     (t.call (.push 0)).map (fun r => (r.presses, r.level, r.state, r.nextRing)) = some (3, 3, .ringing, none) ∧
      heard t (.callPressed 0 3 3 .waiting)) ∧
    (((withCalls [{ busyCall with presses := 15 }]).pushChange 0 .idle .press).call (.push 0)).map CallRecord.level =
      some 2 := by decide +kernel

def resting (n : Nat) : CallRecord := { busyCall with state := .resting, nextRing := some n }

theorem witness_ReRing : (callsAre [resting 41200]).live.call (.push 0) = some (resting 41200) ∧
    runs (.reRing (.push 0)) (callsAre [resting 41200]) (fun t =>
      (t.live.call (.push 0)).map CallRecord.state = some .ringing) ∧
    runs (.reRing (.push 0)) (callsAre [resting 41201]) (fun t => t.live.calls = [resting 41201]) := by decide +kernel

/-! ## Witnesses: speech -/

def asking (cls : SpeakClass) (chs : List Nat) : SpeakFields := ⟨3, chs, some cls, none, some 61⟩

def bothBusy : State := on fun s => { s with speech := { s.speech with
  playerA := playing, playerB := { playing with request := some { script with tag := 8 } } } }

theorem witness_Speak : base.canTake .f .speak ∧ (asking .general [1, 3]).inRange = true ∧
    (asking .evacuate [1]).inRange = false ∧ base.live.loop.numbered .audio 3 = true ∧
    base.live.loop.numbered .audio 4 = false ∧ base.live.tagHeld 1 = false ∧ bothBusy.live.tagHeld 1 = false ∧
    runs (.speak .f (.fits (asking .general [1, 3]))) base (fun t => (t.live.player .a).phase = .warming ∧
      (t.live.channel 3).on ∧ (t.live.channel 3).waitTimer = some 0 ∧ t.live.image.on.read 1 false ∧
      (t.replyOn .f).map Reply.fields = some (.tag 1 none)) ∧
    runs (.speak .f (.fits (asking .general [1, 3]))) bothBusy (fun t =>
      t.live.speech.queue = [⟨1, 3, [1, 3], .general, none, some 60, .portF, 41200⟩] ∧
      (t.replyOn .f).map Reply.fields = some (.tag 1 (some 0))) ∧
    runs (.speak .f (.fits (asking .closing [1]))) base (fun t => (t.replyOn .f).map Reply.result = some .notPermitted) ∧
    runs (.speak .c (.fits (asking .general [4]))) base (fun t => (t.replyOn .c).map Reply.result = some .noSuch) ∧
    runs (.speak .c (.fits (asking .general []))) base (fun t => (t.replyOn .c).map Reply.result = some .badValue) := by
  decide +kernel

def queueOf (n : Nat) : State := { bothBusy with live := { bothBusy.live with speech := { bothBusy.live.speech with
  queue := (List.range n).map fun i => { script with tag := 20 + i }, nextTag := 40 } } }

theorem witness_SpeakQueue :
    runs (.speak .c (.fits (asking .general [1]))) (queueOf 8) (fun t => (t.replyOn .c).map Reply.result = some .full) ∧
    runs (.speak .c (.fits (asking .general [1]))) (queueOf 7) (fun t => t.live.speech.queue.length = 8 ∧
      t.live.speech.nextTag = 41) ∧ tagAfter 65535 = 1 ∧ tagAfter 65534 = 65535 := by decide +kernel

/-- A CLOSING request of port C goes before the GENERAL ones, displaces the last of a full queue, and is FULL in a queue of
its own class (R157). -/
theorem witness_SpeakClosing :
    runs (.speak .c (.fits (asking .closing [1]))) (queueOf 2) (fun t =>
      t.live.speech.queue.map SpeakRequest.tag = [40, 20, 21] ∧
      (t.replyOn .c).map Reply.fields = some (.tag 40 (some 0))) ∧
    runs (.speak .c (.fits (asking .closing [1]))) (queueOf 8) (fun t =>
      t.live.speech.queue.map SpeakRequest.tag = [40, 20, 21, 22, 23, 24, 25, 26] ∧
      told t (.speakDropped 27 .general .portC .displaced)) ∧
    runs (.speak .c (.fits (asking .closing [1]))) (let s := queueOf 8
      { s with live := { s.live with speech := { s.live.speech with
        queue := s.live.speech.queue.map fun x => { x with cls := .closing } } } }) (fun t =>
      (t.replyOn .c).map Reply.result = some .full ∧ told t (.speakDropped 0 .closing .portC .full)) := by decide +kernel

def wants (tag : Nat) (chs : List Nat) : SpeakRequest := { script with tag := tag, channels := chs }
def queued (s : Live) (q : List SpeakRequest) : Live := { s with speech := { s.speech with queue := q } }

/-- Player A plays on channel 0: a request for 0 waits, one for 1 is taken by B, one for 0 and 2 and one for 2 after it wait.
With both players idle the first goes to A and the first that shares nothing with those before it to B (R161). -/
theorem witness_Grants :
    (let t := (queued busyLive [wants 20 [0], wants 21 [1], wants 22 [2]]).grants
     t.speech.queue.map SpeakRequest.tag = [20, 22] ∧ (t.player .b).request.map SpeakRequest.tag = some 21 ∧
      (t.player .b).phase = .warming ∧ (t.channel 1).holder = some .b ∧ t.player .a = playing) ∧
    (let s := queued busyLive [wants 20 [0, 2], wants 21 [2]]
     s.grants = s) ∧
    (let t := (queued rest [wants 20 [1], wants 21 [1, 2], wants 22 [2], wants 23 [3]]).grants
     t.speech.queue.map SpeakRequest.tag = [21, 22] ∧ (t.player .a).request.map SpeakRequest.tag = some 20 ∧
      (t.player .b).request.map SpeakRequest.tag = some 23) := by decide +kernel

theorem witness_SpeakCancel : (queueOf 2).canTake .c .speakCancel ∧ busy.live.playerOf 7 = some .a ∧
    runs (.speakCancel .c (.fits 21)) (queueOf 2) (fun t => t.live.speech.queue.map SpeakRequest.tag = [20] ∧
      told t (.speakAbandoned 21 .general .portC .cancelled none)) ∧
    runs (.speakCancel .f (.fits 21)) (queueOf 2) (fun t => (t.replyOn .f).map Reply.result = some .notPermitted) ∧
    runs (.speakCancel .c (.fits 7)) busy (fun t => (t.live.player .a).phase = .idle ∧
      (t.live.channel 0).holdTimer = some 0 ∧ t.live.image.selA.read 0 true = false ∧
      told t (.speakAbandoned 7 .general .portC .cancelled (some 0))) ∧
    runs (.speakCancel .f (.fits 7)) busy (fun t => (t.live.player .a).phase = .playing) ∧
    runs (.speakCancel .c (.fits 99)) base (fun t => (t.replyOn .c).map Reply.result = some .noSuch) ∧
    runs (.speakCancel .f (.fits 0)) base (fun t => (t.replyOn .f).map Reply.result = some .notPermitted) ∧
    runs (.speakCancel .c (.fits 0)) base (fun t => t.live.free = 1) := by decide +kernel

def playerIs (c : PlayerContext) : State := { busy with live := { busyLive with speech :=
  { busyLive.speech with playerA := c } } }

/-- Item 0 of script 3 is SILENCE 100, item 1 CHIME, item 2 phrase 0, item 3 a phrase that is not recorded. -/
theorem witness_Items :
    runs (.itemTimerExpiry .a) (playerIs playing) (fun t => (t.live.player .a).item = some 1 ∧
      (t.live.player .a).itemTimer = some 0) ∧
    runs (.itemTimerExpiry .a) (playerIs { playing with itemTimer := some 90 }) (fun t =>
      (t.live.player .a).item = some 0) ∧
    runs (.itemTimerExpiry .a) (playerIs { playing with item := some 1, itemTimer := some 1200 }) (fun t =>
      (t.live.player .a).pointer = some 1000 ∧ (t.live.player .a).remaining = some 160) ∧
    runs (.phraseEnd .a) (playerIs { playing with item := some 2, itemTimer := none, remaining := some 0 }) (fun t =>
      (t.live.player .a).phase = .idle ∧ told t (.phraseMissing 7 9 3) ∧ told t (.speakDone 7 .general .portC)) ∧
    runs (.phraseEnd .a) (playerIs { playing with item := some 3, itemTimer := none, remaining := some 0 }) (fun t =>
      (t.live.channel 0).holder = none) ∧
    runs (.phraseEnd .a) (playerIs { playing with item := some 2, itemTimer := none, remaining := some 80 }) (fun t =>
      (t.live.player .a).remaining = some 80) := by decide +kernel

/-- A script of every kind of item: a chime, zone 2's name (phrase 40, of 60 samples), number base 49 (61 is taken as 60),
a repeat of item 0, a chime. -/
def itemPlan : Plan := { plan with
  phrases := (plan.phrases.put 40 ⟨2000, 60⟩).put 109 ⟨3000, 60⟩
  scripts := plan.scripts.put 3 ⟨true, [.chime, .zoneName, .number 50, .again 0, .chime, .phrase 9, .chime]⟩ }

def itemPlaying (i : Nat) (taken : List Nat) (spare : Nat) (number : Option Nat) : State :=
  let s := playerIs { playing with
    request := some { script with context := some 2, number := number }, item := some i, taken := taken, itemTimer := none
    remaining := some 0, spare := spare }
  { s with live := { s.live with store := { s.live.store with active := itemPlan } } }

/-- At the end of a phrase the next phrase begins in what is left of the scan period; a REPEAT is taken once and then
passed; a name or number that names no phrase, and a missing phrase, are passed (R153, R154). -/
theorem witness_NextItems :
    runs (.itemTimerExpiry .a) (let s := itemPlaying 0 [] 0 (some 60)
      { s with live := s.live.withPlayer .a { s.live.player .a with remaining := none, itemTimer := some 1200 } }) (fun t =>
        (t.live.player .a).pointer = some 2000 ∧ (t.live.player .a).remaining = some 60) ∧
    runs (.phraseEnd .a) (itemPlaying 1 [] 20 (some 60)) (fun t => (t.live.player .a).item = some 2 ∧
      (t.live.player .a).pointer = some 3020 ∧ (t.live.player .a).remaining = some 40 ∧
      (t.live.player .a).sound.length = 20) ∧
    runs (.phraseEnd .a) (itemPlaying 2 [] 20 none) (fun t => (t.live.player .a).item = some 0 ∧
      (t.live.player .a).taken = [3] ∧ (t.live.player .a).itemTimer = some 0) ∧
    runs (.phraseEnd .a) (itemPlaying 2 [3] 20 none) (fun t => (t.live.player .a).item = some 4) ∧
    runs (.phraseEnd .a) (itemPlaying 4 [] 20 none) (fun t => (t.live.player .a).item = some 6 ∧
      told t (.phraseMissing 7 9 5)) := by decide +kernel

/-- The next phrase lies beyond sample memory, and PHRASE_END faults (notes/assumptions/31.md). -/
theorem witness_PhraseEndFault : stops (.phraseEnd .a) (let s := itemPlaying 1 [] 20 (some 60)
    { s with live := { s.live with store := { s.live.store with active := { itemPlan with
      phrases := itemPlan.phrases.put 109 ⟨1048560, 60⟩ } } } }) .sampleAddress = true := by decide +kernel

def channelIs (c : Channel) (ph : PlayerPhase) : State := on fun s => { s with speech := { s.speech with
  playerA := { playing with phase := ph, item := none, itemTimer := none }, channels := s.speech.channels.put 0 c } }

theorem witness_AmpWait :
    runs (.ampWaitExpiry 0) (channelIs ⟨true, some .a, some .awaiting, some 2000, none, none⟩ .warming) (fun t =>
      t.live.channel 0 = ⟨true, none, none, none, none, some 0⟩ ∧ told t (.ampNotReady 0 7 .timeout) ∧
      (t.live.player .a).phase = .idle ∧ told t (.speakAbandoned 7 .general .portC .amplifier none)) ∧
    runs (.ampWaitExpiry 0) (channelIs ⟨true, some .a, some .awaiting, some 1990, none, none⟩ .warming) (fun t =>
      (t.live.channel 0).holder = some .a) ∧
    runs (.ampHoldExpiry 0) (channelIs ⟨true, none, none, none, none, some 30000⟩ .idle) (fun t =>
      t.live.channel 0 = .rest) ∧
    runs (.ampHoldExpiry 0) (channelIs ⟨true, none, none, none, none, some 29990⟩ .idle) (fun t =>
      (t.live.channel 0).on) := by decide +kernel

def evacResting (n : Nat) (k : Option Nat) : State := on fun s => { s with
  store := { s.store with active := { plan with geometry := { plan.geometry with evacScript := k } } }
  speech := { s.speech with evac := ⟨.resting, [2, 3], some 2, some n⟩ } }

theorem witness_EvacRest :
    runs .evacuationRestExpiry (evacResting 30000 (some 3)) (fun t => t.live.speech.evac.state = .playing ∧
      (t.live.player .a).phase = .warming ∧ (t.live.channel 2).holder = some .a) ∧
    runs .evacuationRestExpiry (evacResting 29990 (some 3)) (fun t => t.live.speech.evac.state = .resting) ∧
    runs .evacuationRestExpiry (evacResting 30000 none) (fun t => t.live.speech.evac.state = .unscripted) := by
  decide +kernel

theorem witness_Ready :
    (let t := (channelIs ⟨true, some .a, some .awaiting, some 90, none, none⟩ .warming).live.readyChange 0 true
     (t.player .a).phase = .playing ∧ (t.player .a).item = some 0 ∧
      t.channel 0 = ⟨true, some .a, some .ready, none, some .a, none⟩) ∧
    (let t := (channelIs ⟨true, some .a, some .awaiting, some 90, none, none⟩ .playing).live.readyChange 0 true
     t.channel 0 = ⟨true, some .a, some .ready, none, some .a, none⟩) ∧
    (let t := busyLive.readyChange 0 false
     t.channel 0 = ⟨true, none, none, none, none, some 0⟩ ∧ (t.player .a).phase = .idle ∧
      heard t (.ampNotReady 0 7 .lost)) ∧
    rest.readyChange 0 true = rest ∧ busyLive.readyChange 0 true = busyLive := by decide +kernel

/-- Two channels of one play await READY; channel 1 becomes ready and the play stays WARMING. -/
theorem witness_StillWarming :
    (let s := { busyLive with speech := { busyLive.speech with
       playerA := { playing with phase := .warming, item := none, itemTimer := none }
       channels := (busyLive.speech.channels.put 0 ⟨true, some .a, some .awaiting, some 0, none, none⟩).put 1
         ⟨true, some .a, some .awaiting, some 0, none, none⟩ } }
     (s.readyChange 1 true).channel 1 = ⟨true, some .a, some .ready, none, none, none⟩ ∧
       ((s.readyChange 1 true).player .a).phase = .warming) = true := by decide +kernel

/-- The evacuation entry plays on player A over channel 0; player B plays on channel 1, and channel 2 has been dropped. -/
def evacPlaying : Live := { busyLive with speech := { busyLive.speech with
  evac := ⟨.playing, [0, 2], some 2, none⟩
  playerA := { playing with
    request := some ⟨0, 3, [0, 2], .evacuate, some 2, none, .fireDemand, 41000⟩, dropped := [2], sequence := 2 }
  playerB := { playing with request := some { script with tag := 8, channels := [1] } }
  channels := busyLive.speech.channels.put 1 ⟨true, some .b, some .ready, none, some .b, none⟩ } }

theorem witness_EvacChange : evacPlaying.evacPlayer = some .a ∧
    (let t := evacPlaying.evacDemand [0, 2, 3] (some 3)
     (t.player .a).request.map SpeakRequest.context = some (some 3) ∧ (t.channel 3).holder = some .a ∧
      (t.channel 2).holder = none ∧ (t.player .b).phase = .playing) ∧
    (let t := evacPlaying.evacDemand [0, 1] (some 2)
     (t.channel 1).holder = some .a ∧ (t.player .b).phase = .idle ∧ (t.player .a).dropped = [] ∧
      heard t (.speakAbandoned 8 .general .portC .preempted (some 0))) ∧
    (let t := evacPlaying.evacDemand [] none
     t.speech.evac.state = .inactive ∧ (t.player .a).phase = .idle ∧ (t.player .a).dropped = [] ∧
      (t.channel 0).holdTimer = some 0) := by decide +kernel

/-- The entry rests over channels 2 and 3, both among player A's dropped channels; 2 leaves the set (R163). -/
theorem witness_DroppedLeaves :
    (let s := (evacResting 20 (some 3)).live
     let s := { s with speech := { s.speech with playerA := { s.speech.playerA with dropped := [2, 3] } } }
     ((s.evacDemand [3] none).player .a).dropped = [3] ∧ ((s.evacDemand [] none).player .a).dropped = []) = true := by
  decide +kernel

theorem witness_EvacBegins :
    ((rest.evacDemand [2, 3] (some 2)).player .a).phase = .warming ∧
    ((evacResting 20 (some 3)).live.evacDemand [2] none).speech.evac = ⟨.resting, [2], none, some 20⟩ ∧
    ((evacResting 20 (some 3)).live.evacDemand [] none).speech.evac = ⟨.inactive, [], none, none⟩ ∧
    (({ rest with store := (evacResting 20 none).live.store }).evacDemand [2] none).speech.evac.state = .unscripted := by
  decide +kernel

/-- Player A plays tag 7 on channel 0 and player B a request of a class on channel 1, granted later. -/
def bothPlay (c : SpeakClass) : Live := { busyLive with
  speech := { busyLive.speech with
    playerB := { playing with request := some { script with tag := 8, channels := [1], cls := c }, sequence := 2 }
    channels := busyLive.speech.channels.put 1 ⟨true, some .b, some .ready, none, some .b, none⟩ }
  image := { busyLive.image with on := busyLive.image.on.put 1 true, selB := busyLive.image.selB.put 1 true } }

theorem witness_BothPlay : Channels (bothPlay .general) :=
  channels_of (by decide +kernel) (by decide +kernel) (by decide +kernel) (by decide +kernel)

/-- The entry begins over channel 0, which player A holds; over channel 2 with both players at work, the one of the lower
class is stopped, and of one class the later grant (R162). -/
theorem witness_EvacPreempts :
    (let t := busyLive.evacDemand [0, 2] (some 2)
     heard t (.speakAbandoned 7 .general .portC .preempted (some 0)) ∧ (t.player .a).phase = .warming ∧
      (t.player .a).request.map SpeakRequest.cls = some .evacuate ∧ (t.channel 0).holder = some .a) ∧
    heard ((bothPlay .closing).evacDemand [2] none) (.speakAbandoned 7 .general .portC .preempted (some 0)) ∧
    (let t := (bothPlay .general).evacDemand [2] none
     heard t (.speakAbandoned 8 .general .portC .preempted (some 0)) ∧ (t.player .b).phase = .warming ∧
      t.player .a = playing ∧ t.channel 1 = ⟨true, none, none, none, none, some 0⟩) := by decide +kernel

theorem witness_SpeakQueueKept : SpeakQueue (queueOf 8).live where
  room := by decide
  queued := by decide
  order := by decide
  distinct := by decide
  apart pl r h := by
    cases pl <;> cases h <;> decide
  range := by decide
  next := by decide

/-! ## Witnesses: the closing programme -/

def closingIs (st : ProgrammeState) (close : Option Nat) (at_ : Option Nat) (m0 m1 : Mark) : State := on fun s => { s with
  closing := ⟨st, close, at_, ((Bank.replicate 24 none).put 0 (some m0)).put 1 (some m1)⟩ }

theorem witness_ClosingBegin : base.canTake .c .closingBegin ∧ base.live.lowestAlarm = none ∧
    alarmState.live.lowestAlarm = some 2 ∧ (base.live.plan.step 0).present = true ∧
    runs (.closingBegin .c (.fits 7200)) base (fun t => t.live.closing.state = .running ∧
      t.live.closing.closeInstant = some 48400 ∧ t.live.closing.pointer = some 0 ∧
      t.live.closing.mark 1 = some .pending ∧ told t (.programmeState .running (some 48400) .begin)) ∧
    runs (.closingBegin .c (.fits 59)) base (fun t => (t.replyOn .c).map Reply.result = some .badValue) ∧
    runs (.closingBegin .c (.fits 7201)) base (fun t => (t.replyOn .c).map Reply.result = some .badValue) ∧
    runs (.closingBegin .c (.fits 60)) State.reset (fun t => (t.replyOn .c).map Reply.result = some .noSuch) ∧
    runs (.closingBegin .c (.fits 60)) alarmState (fun t => (t.replyOn .c).map Reply.result = some (.busy .zone 2)) ∧
    runs (.closingBegin .c (.fits 60)) (closingIs .running (some 9) none .pending .pending) (fun t => t.live.free = 1) := by
  decide +kernel

theorem witness_ClosingPostpone :
    runs (.closingPostpone .c (.fits 3600)) (closingIs .running (some 50000) (some 0) .pending .pending) (fun t =>
      t.live.closing.closeInstant = some 53600 ∧ told t (.programmeState .running (some 53600) .postpone)) ∧
    runs (.closingPostpone .c (.fits 60)) base (fun t => t.live.free = 1) ∧
    runs (.closingPostpone .c (.fits 59)) base (fun t => (t.replyOn .c).map Reply.result = some .badValue) ∧
    runs (.closingPostpone .c (.fits 3601)) base (fun t => (t.replyOn .c).map Reply.result = some .badValue) ∧
    (closingIs .running (some 50000) (some 0) .pending .pending).live.nightClosed = none := by decide +kernel

/-- Step 1 as a NIGHT-CLOSE step that has been executed. -/
def nightDone : State :=
  let s := closingIs .running (some 50000) (some 0) .pending .executed
  { s with live := { s.live with store := { s.live.store with
    active := { plan with steps := plan.steps.put 1 ⟨true, 0, .nightClose, none, none, none, some [2], none⟩ } } } }

theorem witness_PostponeNightClose : nightDone.live.nightClosed = some 1 ∧
    runs (.closingPostpone .c (.fits 60)) nightDone (fun t =>
      (t.replyOn .c).map Reply.result = some (.busy .nightClose 1)) := by decide +kernel

theorem witness_ClosingAbortResume :
    runs (.closingAbort .c (.fits ())) (closingIs .suspended (some 50000) (some 0) .pending .pending) (fun t =>
      t.live.closing.state = .idle ∧ told t (.programmeState .idle none .abort)) ∧
    runs (.closingAbort .c (.fits ())) base (fun t => t.live.free = 1) ∧
    runs (.closingResume .c (.fits ())) (closingIs .suspended (some 50000) (some 0) .pending .pending) (fun t =>
      t.live.closing.state = .running ∧ told t (.programmeState .running (some 50000) .resume)) ∧
    runs (.closingResume .c (.fits ())) base (fun t => t.live.free = 1) ∧
    runs (.closingResume .c (.fits ())) { alarmState with live := { alarmState.live with
        closing := { alarmState.live.closing with state := .suspended } } } (fun t =>
      (t.replyOn .c).map Reply.result = some (.busy .zone 2)) := by decide +kernel

/-- Step 0 is due 600 s before the close: a MASK step to level 3 on circuit 1; step 1 a SWEEP that finds the chain
PARKED. -/
theorem witness_StepDue :
    runs .closingStepDue (closingIs .running (some 41800) (some 0) .pending .pending) (fun t =>
      t.live.closing.mark 0 = some .executed ∧ (t.live.circuit 1).mask = 3 ∧ t.live.closing.pointer = some 1 ∧
      told t (.programmeStep 0 .mask (.level 3))) ∧
    runs .closingStepDue (closingIs .running (some 41801) (some 0) .pending .pending) (fun t =>
      t.live.closing.mark 0 = some .pending) ∧
    runs .closingStepDue (closingIs .running (some 41200) (some 1) .executed .pending) (fun t =>
      t.live.closing.state = .idle ∧ told t (.programmeDone 2 0)) := by decide +kernel

/-- The pointed step is a SWEEP that finds the chain in FAULT, and is skipped (R175). -/
theorem witness_StepSkipped :
    runs .closingStepDue (let s := closingIs .running (some 41200) (some 1) .executed .pending
      { s with live := chainIs .fault .brake s.live }) (fun t =>
        t.live.closing.mark 1 = some .skipped ∧ told t (.stepSkipped 1 .sweep (.chain .fault)) ∧
        t.live.closing.state = .idle ∧ told t (.programmeDone 1 1)) := by decide +kernel

/-- The unit with step 1 of another kind. -/
def stepIs (e : StepEntry) (s : Live) : Live :=
  { s with store := { s.store with active := { plan with steps := plan.steps.put 1 e } } }

def announceStep : StepEntry := ⟨true, 0, .announce, some 3, some [1], none, none, none⟩
def bellStep : StepEntry := ⟨true, 0, .bell, none, none, some [4, 2], none, none⟩
def nightStep : StepEntry := ⟨true, 0, .nightClose, none, none, none, some [3], none⟩

/-- 90 s to the close are spoken as two minutes (R173). -/
theorem witness_Announce :
    (let r := (stepIs announceStep (queueOf 2).live).executeStep 1 41290
     r.1.speech.queue.head? = some ⟨40, 3, [1], .closing, none, some 2, .programme 1, 41200⟩ ∧
      r.1.speech.queue.length = 3 ∧ r.2 = .executed (.tag 40)) ∧
    (let r := (stepIs announceStep (queueOf 8).live).executeStep 1 41200
     heard r.1 (.speakDropped 27 .general .portC .displaced) ∧ r.1.speech.queue.length = 8) ∧
    (let s := stepIs announceStep (queueOf 8).live
     let closing := fun x : SpeakRequest => { x with cls := .closing }
     let full : Live := { s with speech := { s.speech with queue := s.speech.queue.map closing } }
     full.executeStep 1 41200 = (full.post (.speakDropped 0 .closing (.programme 1) .full), .executed (.tag 0))) := by
  decide +kernel

theorem witness_BellAndNight :
    (let r := (stepIs bellStep rest).executeStep 1 41200
     r.1.calls.map CallRecord.key = [.programme 1 2, .programme 1 4] ∧ r.2 = .executed (.calls 2)) ∧
    (let r := (stepIs nightStep rest).executeStep 1 41200
     r.1.shutter 9 = armedRecord .night ∧ (r.1.shutter 7).state = .opened ∧ r.2 = .executed (.requests 2)) ∧
    (let s := limits 9 true true (shutterIs 9 (.start .jammed (some .limits)) rest)
     ((stepIs nightStep s).executeStep 1 41200).1.shutter 9 = .start .jammed (some .limits)) := by decide +kernel

/-- A MASK step at a circuit that rings leaves its level pending (R149, R177), and a late BELL is skipped in the catch-up of
CLOSING RESUME alone (R179). -/
theorem witness_MaskAndLate :
    (busyLive.executeStep 0 41200).1.circuit 1 = { busyLive.circuit 1 with pendingMask := some 3 } ∧
    (rest.executeStep 0 41200).1.circuit 1 = ⟨none, 3, none⟩ ∧
    (stepIs bellStep rest).takeStep 1 41199 true = (stepIs bellStep rest, .skipped .late) ∧
    ((stepIs bellStep rest).takeStep 1 41200 true).2 = .executed (.calls 2) ∧
    runs (.closingResume .c (.fits ())) (let s := closingIs .suspended (some 41199) (some 1) .executed .pending
      { s with live := stepIs bellStep s.live }) (fun t => t.live.closing.mark 1 = some .skipped ∧
        told t (.stepSkipped 1 .bell .late)) := by decide +kernel

def sweepStep : StepEntry := ⟨true, 0, .sweep, none, none, none, none, none⟩
def parkStep : StepEntry := ⟨true, 0, .park, none, none, none, none, none⟩

/-- SWEEP and PARK by the chain's state (R67, R69, R175); the empty plan's loop is of 64 links and it
sweeps two loops (R32). -/
theorem witness_SweepAndPark :
    (let r := (stepIs sweepStep running.live).executeStep 1 41200
     r.1.chain.sweep = some 128 ∧ r.1.chain.gongsOn ∧ r.2 = .executed (.chain .running)) ∧
    ((stepIs sweepStep (sweeping 9 20).live).executeStep 1 41200).1.chain.gongTimer = some 20 ∧
    (let r := (stepIs sweepStep rest).executeStep 1 41200
     r.1.chain.state = .warning ∧ r.1.chain.carriedLoops = some 2 ∧ r.2 = .executed (.chain .warning)) ∧
    (let s := stepIs sweepStep (shutterIs 7 (.start .closed none) rest)
     s.executeStep 1 41200 = (s, .skipped (.chain .parked))) ∧
    (let r := (stepIs parkStep (sweeping 9 20).live).executeStep 1 41200
     r.1.chain.stop = some ⟨2, 1, 7, 0⟩ ∧ r.1.chain.sweep = none ∧ r.1.chain.gongsOn = false ∧
      r.2 = .executed (.chain (.stopping .park .approach))) ∧
    ((stepIs parkStep suspect.live).executeStep 1 41200).1.chain.deferred = some .park ∧
    (stepIs parkStep rest).executeStep 1 41200 = (stepIs parkStep rest, .executed (.chain .parked)) ∧
    (let s := stepIs parkStep (warned 20).live
     s.executeStep 1 41200 = (s, .skipped (.chain .warning))) := by decide +kernel

/-- A BEGIN of 60 s finds step 0, a BELL at 600 s before the close, late and skips it; its own MASK step it executes
(R179). -/
theorem witness_BeginLate :
    runs (.closingBegin .c (.fits 60)) base (fun t => t.live.closing.mark 0 = some .executed ∧
      told t (.programmeStep 0 .mask (.level 3))) ∧
    runs (.closingBegin .c (.fits 60)) (on fun s => { s with store := { s.store with
        active := { plan with steps := plan.steps.put 0 { bellStep with offset := -600 } } } }) (fun t =>
      t.live.closing.mark 0 = some .skipped ∧ told t (.stepSkipped 0 .bell .late) ∧
      t.live.closing.mark 1 = some .pending) := by decide +kernel

/-- A programme call and an announcement are withdrawn at the suspension (R182). -/
theorem witness_Suspend :
    (let s := (closingIs .running (some 50000) (some 1) .executed .pending).live
     let busy : Live := { s with
       calls := [newCall rest (.programme 0 2) 2 5 .closing false 0 none]
       speech := { bothBusy.live.speech with queue := [{ script with cls := .closing, tag := 20 }] } }
     let t := busy.suspendClosing
     t.closing.state = .suspended ∧ t.calls = [] ∧ t.speech.queue = [] ∧
      heard t (.programmeState .suspended (some 50000) .fire)) ∧ rest.suspendClosing = rest := by decide +kernel

/-! ## Witnesses: the scan, the pins and the supply -/

/-- One detector module with two replies missed, then found again (R10, R11). -/
def oneModule (present : Bool) (missed : Nat) : State := on fun s =>
  { s with loop := { s.loop with modules := [⟨.detector, present, missed, some 0⟩] } }

theorem witness_Scan : base.live.scanInMemory = true ∧
    runs (.scan ⟨[], quiet, 0⟩) (oneModule true 2) (fun t =>
      t.live.loop.modules = [⟨.detector, false, 3, some 0⟩] ∧ told t (.moduleLost 0 .detector) ∧
      t.live.detector 0 = .broken) ∧
    runs (.scan ⟨[some .bell], quiet, 0⟩) (oneModule true 1) (fun t =>
      t.live.loop.modules = [⟨.detector, true, 2, some 0⟩]) ∧
    runs (.scan ⟨[some (.detector (List.replicate 8 .normal))], quiet, 0⟩) (oneModule false 3) (fun t =>
      t.live.loop.modules = [⟨.detector, true, 0, some 0⟩] ∧ told t (.moduleFound 0 .detector)) := by decide +kernel

/-- The loop of one CALL module at second 41,200, push 0 blanked, its message last sent with every indicator off. -/
def callLoop (present : Bool) (missed : Nat) (blank : Option Nat) : State := on fun s => { s with
  loop := { s.loop with
    modules := [⟨.call, present, missed, some 0⟩]
    pushes := s.loop.pushes.put 0 ⟨⟨.idle, .press, 2⟩, blank⟩ }
  image := { s.image with indicators := s.image.indicators.put 3 true } }

def presses : List PushState := .press :: List.replicate 7 .idle

/-- The message carries the image; a blanked sample is discarded with the run at 0; an unblanked third PRESS is handed on; a
lost module's push takes its lost value (R3, R8, R10). -/
theorem witness_ScanSends :
    runs (.scan ⟨[some (.call presses)], quiet, 0⟩) (callLoop true 0 (some 2)) (fun t =>
      t.live.loop.sent.read 0 none = some (.call [false, false, false, true, false, false, false, false]) ∧
      t.live.pushInput 0 = ⟨⟨.idle, .press, 0⟩, some 1⟩) ∧
    runs (.scan ⟨[], quiet, 0⟩) (callLoop true 0 (some 2)) (fun t => t.live.pushInput 0 = ⟨⟨.idle, .press, 0⟩, some 1⟩) ∧
    runs (.scan ⟨[some (.call presses)], quiet, 0⟩) (callLoop true 0 none) (fun t =>
      (t.live.call (.push 0)).isSome ∧ t.live.image.indicators.read 0 false ∧ (t.live.pushInput 0).blank = some 5 ∧
      t.live.loop.sent.read 0 none = some (.call [false, false, false, true, false, false, false, false])) ∧
    runs (.scan ⟨[], quiet, 0⟩) (callLoop true 2 (some 2)) (fun t => t.live.pushInput 0 = ⟨.still .idle, none⟩) := by
  decide +kernel

/-- An indicator changed at a lost module blanks nothing (R11), and BRAKE going asserted blanks the EDGE for 3 scans, its
count standing until the next scan (R9). -/
theorem witness_Writes :
    (((callLoop false 3 none).live.writeIndicator 0 true).pushInput 0) = ⟨⟨.idle, .press, 2⟩, none⟩ ∧
    (((callLoop true 0 none).live.writeIndicator 0 true).pushInput 0) = ⟨⟨.idle, .press, 2⟩, some 5⟩ ∧
    ((rest.writeGear 6 .halted).input 6).blank = some 3 ∧ ((rest.writeGear 6 .raising).input 6).blank = none := by
  decide +kernel

def edgeLoop (missed : Nat) (blank : Option Nat) : State := on fun s => { s with
  loop := { s.loop with
    modules := [⟨.shutter, true, missed, some 6⟩]
    gear := s.loop.gear.put 6 ⟨.still true, .still false, ⟨false, true, 2⟩, blank⟩ } }

/-- The EDGE under blanking, and a shutter whose module is lost (R9, R10, R117). -/
theorem witness_ScanGear :
    runs (.scan ⟨[some (.shutter (List.replicate 2 ⟨true, false, true⟩))], quiet, 0⟩) (edgeLoop 0 (some 1)) (fun t =>
      t.live.input 6 = ⟨⟨true, true, 0⟩, ⟨false, false, 0⟩, ⟨false, true, 0⟩, some 0⟩) ∧
    runs (.scan ⟨[], quiet, 0⟩) (edgeLoop 2 (some 1)) (fun t => t.live.input 6 = opened ∧
      (t.live.shutter 6).state = .unplaced) := by decide +kernel

/-- The fifth agreeing sample of a detector line is handed on, the fourth is not (R4, R6). -/
theorem witness_Samples :
    sampleDetector 11 .alarm (detectorAt 11 ⟨.normal, .alarm, 4⟩ rest) =
      ((detectorAt 11 ⟨.normal, .alarm, 4⟩ rest).putDetector 11 (.still .alarm)).detectorChange 11 ∧
    sampleDetector 11 .alarm (detectorAt 11 ⟨.normal, .alarm, 3⟩ rest) = detectorAt 11 ⟨.normal, .alarm, 4⟩ rest := by
  decide +kernel

/-- The third agreeing sample of an unblanked push, limit or EDGE is handed on, the second is not (R4, R7, R9). -/
theorem witness_Contacts :
    (let s := (callLoop true 0 none).live
     samplePush 0 none .press s = (s.putPush 0 ⟨.still .press, none⟩).pushChange 0 .idle .press ∧
      samplePush 0 none .attend s = s.putPush 0 ⟨⟨.idle, .attend, 1⟩, none⟩ ∧
      samplePush 0 (some 1) .press s = s) ∧
    (let s := shutterIs 6 (descending .host) (edgeLoop 0 none).live
     let up := s.putGear 6 ⟨.still true, ⟨false, true, 2⟩, ⟨false, true, 2⟩, none⟩
     sampleEdge 6 true s = (s.putGear 6 ⟨.still true, .still false, .still true, none⟩).edgeAsserted 6 ∧
      (sampleEdge 6 true s).shutter 6 =
        { descending .host with state := .lifting, obstructions := 1, phaseTimer := some 0 } ∧
      sampleDown 6 true up = (up.putGear 6 ⟨.still true, .still true, ⟨false, true, 2⟩, none⟩).limitChange 6 .down ∧
      sampleUp 6 false s = s.putGear 6 ⟨⟨true, false, 1⟩, .still false, ⟨false, true, 2⟩, none⟩) := by decide +kernel

/-- A player at the end of sample memory with more to read (section 9.1). -/
def beyond : State := on fun s => { s with speech := { s.speech with
  playerB := { playing with pointer := some 1048570, remaining := some 160 } } }

theorem witness_ScanFault : beyond.live.scanInMemory = false ∧ State.reset.live.loop.modules = [] ∧
    runs (.scan ⟨[], quiet, 0⟩) State.reset (fun t => t.live.monitor.settleTimer = some 10) := by decide +kernel

/-- Timers of every block below, one scan short of, and at their limits: shutters 0 to 5 in DESCENDING, RAISING, LIFTING,
PAUSED, ARMED for the night and OPEN. -/
def timed (short : Nat) : Live :=
  let gear (st : ShutterState) (night : Bool) (travel phase : Option Nat) : ShutterRecord :=
    { ShutterRecord.start st none with
      warnTimer := some (5000 - short), holdTimer := some (60000 - short), warnNight := night
      travelTimer := travel, phaseTimer := phase }
  { rest with
    store := { rest.store with active := { plan with
      shutters := Bank.replicate 32 ⟨true, 2, none, 30, 1000, 5⟩
      geometry := { plan.geometry with
        fireWarning := 5, nightWarning := 5, holdOff := 60, startWarning := 10, stallTime := 2000, evacRepeat := 30 } } }
    gear := { rest.gear with records := Bank.build 32 fun k => match k with
      | 0 => gear .descending true (some (30010 - short)) none
      | 1 => gear .raising false (some (60010 - short)) none
      | 2 => gear .lifting false (some 9000) (some (1000 - short))
      | 3 => gear .paused false (some 9000) (some (5000 - short))
      | 4 => gear .armed true none none
      | _ => .start .opened none }
    circuits := (rest.circuits.put 0 ⟨some ⟨.push 0, .coded 23, .digit true 1, .on, 150 - short⟩, 2, some 4⟩).put 15
      ⟨some ⟨.fire 15, .fire, .fire, .off, 500 - short⟩, 0, none⟩
    speech := { rest.speech with
      playerA := { playing with itemTimer := some (5000 - short) }
      evac := ⟨.resting, [2, 3], some 2, some (30000 - short)⟩
      channels := (rest.speech.channels.put 0 ⟨true, some .a, some .awaiting, some (2000 - short), none, none⟩).put 7
        ⟨true, none, none, none, none, some (30000 - short)⟩ }
    chain := { rest.chain with
      warnTimer := some (10000 - short), stallTimer := some (2000 - short), gongTimer := some (5000 - short) }
    monitor := { rest.monitor with settleTimer := some (1000 - short), intervalTimer := some (65535 - 10 * short) }
    portC := { rest.portC with gap := 40 - short }
    portF := { rest.portF with gap := 40 - short } }

/-- One scan short of a limit a timer comes to it, and there it stands; a timer not at its limit runs 10 ms, the interval
timer 100 ticks. -/
theorem witness_TimersStand : (timed 0).advance [] = timed 0 ∧ (timed 10).advance [] = timed 0 ∧
    (timed 20).advance [] = timed 10 ∧ (timed 3).advance [] = timed 0 := by decide +kernel

/-- A phrase puts out 80 samples in a scan, or what is left of it (R152). -/
theorem witness_SamplesPutOut :
    (let s := (readsPhrase rest).advance [(1000, 7), (1079, 9)]
     (s.player .b).pointer = some 1080 ∧ (s.player .b).remaining = some 80 ∧ (s.player .b).spare = 0 ∧
     (s.player .b).sound = 7 :: List.replicate 78 Config.erasedSample ++ [9]) ∧
    (let s := (rest.withPlayer .b { playing with pointer := some 1100, remaining := some 60 }).advance []
     (s.player .b).pointer = some 1160 ∧ (s.player .b).remaining = some 0 ∧ (s.player .b).spare = 20 ∧
     (s.player .b).sound.length = 60) := by decide +kernel

def pushIs (blank : Option Nat) : State := on fun s =>
  { s with loop := { s.loop with pushes := s.loop.pushes.put 0 ⟨.still .idle, blank⟩ } }

theorem witness_PushBlanking : ((pushIs (some 0)).live.pushInput 0).blank = some 0 ∧
    (base.live.pushInput 63).blank ≠ some 0 ∧
    runs (.pushBlankingEnd 0 .press) (pushIs (some 0)) (fun t => (t.live.pushInput 0).line.value = .press ∧
      (t.live.call (.push 0)).map (fun r => (r.level, r.presses, r.circuit)) = some (2, 1, 1)) ∧
    runs (.pushBlankingEnd 0 .idle) (pushIs (some 0)) (fun t => (t.live.pushInput 0).blank = none) ∧
    runs (.pushBlankingEnd 0 .press) (pushIs (some 1)) (fun t => t.live.calls = []) := by decide +kernel

def edgeIs (blank : Option Nat) : State := on fun s =>
  let s := shutterIs 6 (descending .host) s
  { s with loop := { s.loop with gear := s.loop.gear.put 6 ⟨.still false, .still false, .still false, blank⟩ } }

/-- The first sample after blanking begins the count, the debounced state standing (R9). -/
theorem witness_EdgeBlanking :
    runs (.edgeBlankingEnd 6 true) (edgeIs (some 0)) (fun t => (t.live.shutter 6).state = .descending ∧
      t.live.input 6 = ⟨.still false, .still false, ⟨false, true, 1⟩, none⟩) ∧
    runs (.edgeBlankingEnd 6 false) (edgeIs (some 0)) (fun t => t.live.input 6 =
      ⟨.still false, .still false, .still false, none⟩) ∧
    runs (.edgeBlankingEnd 6 true) (edgeIs (some 1)) (fun t => t == edgeIs (some 1)) := by decide +kernel

theorem witness_Power : running.power = .on ∧
    runs (.resetLow false) running (fun t => t.power = .resetLow ∧ t.live.chain.drive = .brake) ∧
    runs (.resetLow true) running (fun t => t.nv.wearA = none) ∧
    runs (.powerLoss false) running (fun t => t.power = .off) ∧
    runs (.powerLoss true) { base with power := .off } (fun t => t.power = .off) := by decide +kernel

/-- Two modules answer, one of them at the third enquiry; the third position does not (R1). -/
def walked : ColdStart := ⟨true, [[none, none, some .bell], [some .detector], [none, none, none]],
  ⟨[some .bell, some (.detector (List.replicate 8 .normal))], quiet, 0⟩⟩

theorem witness_ColdStart :
    runs (.coldStart walked) { running with power := .off } (fun t => t.power = .on ∧ t.live.seconds = 0 ∧
      t.live.loop.modules = [⟨.bell, true, 0, some 0⟩, ⟨.detector, true, 0, some 0⟩] ∧ t.live.rateIsHigh ∧
      t.live.detector 7 = .normal ∧ t.live.detector 8 = .broken ∧ t.live.chain.drive = .brake) = true := by
  decide +kernel

/-- A store that holds the plan, a wear record of 9 links in place A, a flap tripped, detector 11 in ALARM: the zone latches,
the chain is held and the masks are the plan's (R47, R75, R94, R151). -/
theorem witness_ColdStartInFire :
    runs (.coldStart ⟨false, [[some .detector], [some .detector]], ⟨[some (.detector (List.replicate 8 .normal)),
        some (.detector [.normal, .normal, .normal, .alarm, .normal, .normal, .normal, .normal])], ⟨true, false, false⟩, 0⟩⟩)
      { running with power := .off, nv := { running.nv with
        plan := { plan with circuits := plan.circuits.put 1 ⟨true, 4⟩ }, valid := true
        wearA := some ⟨{ WearCounts.zero with links := 9 }, 3⟩ } } (fun t =>
      t.live.zone 2 = ⟨true, .alarm, false, some 11, some 0⟩ ∧ t.live.zone 3 = ⟨true, .normal, false, none, none⟩ ∧
      t.live.chain.state = .held .fire ∧ t.live.chain.flapTop ∧ (t.live.circuit 1).mask = 4 ∧
      t.live.monitor.wear.links = 9) = true := by decide +kernel

/-- The state right after reset is what a cold start makes of an empty loop and blank memories
(notes/assumptions/6.md). -/
theorem test_reset_is_cold_start :
    runs (.coldStart ⟨false, [], ⟨[], quiet, 0⟩⟩) State.reset (fun t => t == State.reset) = true := by decide +kernel

end Sys2Proof.Tests
end

/-! # What a part without supply takes, and the law of debouncing -/

namespace Sys2Proof.Machine

/-- Outside supply and RESET a meaning is not run (R14, R31). -/
theorem whenOn_of_not_on {s : State} (h : s.power ≠ .on) (out : Out) : whenOn s out = .next s := if_neg h

/-- Settles O2. -/
theorem idleAndUnpowered : Obligations.IdleAndUnpowered := by
  refine ⟨fun s h => by simp [step, h], fun i s hp hc hl => ?_⟩
  cases i with
  | coldStart x => exact absurd rfl (hc x)
  | powerLoss b => exact absurd rfl (hl b)
  | _ => exact whenOn_of_not_on hp _

/-! ## Debouncing (R4) -/

section Debounce
variable {α : Type} [DecidableEq α] {n k : Nat} {d : Debounced α} {x : α}

/-- A sample of the state an input holds starts its count again. -/
theorem Debounced.sample_value (n : Nat) (d : Debounced α) : d.sample n d.value = { d with run := 0 } := if_pos rfl

/-- Another sample, short of the figure, lengthens the run toward it or begins one. -/
theorem Debounced.sample_counts {r : Nat} (hx : x ≠ d.value) (hr : (if x = d.candidate then d.run + 1 else 1) = r)
    (hn : r < n) : d.sample n x = ⟨d.value, x, r⟩ := by
  simp only [Debounced.sample, if_neg hx, hr, if_neg (Nat.not_le.mpr hn)]

/-- The sample that completes the figure changes the state. -/
theorem Debounced.sample_changes {r : Nat} (hx : x ≠ d.value) (hr : (if x = d.candidate then d.run + 1 else 1) = r)
    (hn : n ≤ r) : d.sample n x = .still x := by
  simp only [Debounced.sample, if_neg hx, hr, if_pos hn, Debounced.still]

/-- `k` equal samples on an input that holds their state leave it there. -/
theorem Debounced.value_of_samples_held (h : d.value = x) :
    ((List.replicate k x).foldl (Debounced.sample n) d).value = x := by
  induction k generalizing d with
  | zero => exact h
  | succ k ih =>
    subst h
    rw [List.replicate_succ, List.foldl_cons, Debounced.sample_value]
    exact ih rfl

/-- `k` further equal samples change the state exactly where they bring the run toward them to the figure. -/
theorem Debounced.value_of_samples_run (hx : x ≠ d.value) (hc : d.candidate = x) (hn : d.run < n) :
    ((List.replicate k x).foldl (Debounced.sample n) d).value = if d.run + k < n then d.value else x := by
  induction k generalizing d with
  | zero => simp [hn]
  | succ k ih =>
    rw [List.replicate_succ, List.foldl_cons]
    have count : (if x = d.candidate then d.run + 1 else 1) = d.run + 1 := if_pos hc.symm
    by_cases last : n ≤ d.run + 1
    · rw [Debounced.sample_changes hx count last, Debounced.value_of_samples_held (x := x) rfl,
        if_neg (by omega)]
    · rw [Debounced.sample_counts hx count (by omega), ih (d := ⟨d.value, x, d.run + 1⟩) hx rfl (Nat.lt_of_not_le last)]
      simp only [Nat.add_assoc, Nat.add_comm 1]

end Debounce

/-- Settles O23, by induction on the samples after the first, which begins the run. -/
theorem debounceRule : Obligations.DebounceRule := by
  intro α _ n k d x hn hx fresh
  refine ⟨?_, by rw [Debounced.sample_value], by rw [Debounced.sample_value]⟩
  have count : (if x = d.candidate then d.run + 1 else 1) = 1 := by
    rcases fresh with run | other
    · simp [run]
    · exact if_neg (Ne.symm other)
  cases k with
  | zero => simp [Nat.pos_of_ne_zero (Nat.ne_of_gt hn)]
  | succ k =>
    rw [List.replicate_succ, List.foldl_cons]
    by_cases one : n ≤ 1
    · rw [Debounced.sample_changes hx count one, Debounced.value_of_samples_held (x := x) rfl,
        if_neg (by omega)]
    · rw [Debounced.sample_counts hx count (by omega),
        Debounced.value_of_samples_run (d := ⟨d.value, x, 1⟩) hx rfl (Nat.lt_of_not_le one)]
      simp only [Nat.add_comm]

end Sys2Proof.Machine

/-! # What the blocks' operations leave of the Field Scanner's record

The operations of the chain are followed once for any relation that their parts keep (`ChainRule`). The relation
`Stands` says that the Field Scanner's record stands but for the blanking that an output change begins (R8, R9); every
operation below a scan's own sampling keeps it. -/

namespace Sys2Proof.Machine

/-! ## Relations that the chain's operations keep -/

/-- A relation between the running part before and after an operation, kept where the field loop and the shutter records
stand, by judging a shutter, and by one operation after another. -/
structure ChainRule (R : Live → Live → Prop) : Prop where
  same : ∀ {s t : Live}, t.seconds = s.seconds → t.loop = s.loop → t.gear.records = s.gear.records → R s t
  judge : ∀ (s : Live) (k : Nat), R s (s.judge k)
  trans : ∀ {s t u : Live}, R s t → R t u → R s u

namespace ChainRule
variable {R : Live → Live → Prop} (h : ChainRule R)
include h

theorem refl (s : Live) : R s s := h.same rfl rfl rfl

/-- An operation after a change that leaves the field loop and the shutter records. -/
theorem after {s t u : Live} (htu : R t u) (hs : t.seconds = s.seconds) (hl : t.loop = s.loop)
    (hg : t.gear.records = s.gear.records) : R s u := h.trans (h.same hs hl hg) htu

omit h in
theorem either {s t u : Live} {c : Prop} [Decidable c] (ht : R s t) (hu : R s u) : R s (if c then t else u) := by
  split
  · exact ht
  · exact hu

theorem foldl {α : Type} (f : Live → α → Live) (hf : ∀ s x, R s (f s x)) (l : List α) (s : Live) : R s (l.foldl f s) := by
  induction l generalizing s with
  | nil => exact h.refl s
  | cons x rest ih => exact h.trans (hf s x) (ih _)

theorem post (s : Live) (n : Note) : R s (s.post n) := h.same rfl rfl rfl

theorem postIf (s : Live) (b : Bool) (n : Note) : R s (s.postIf b n) := either (h.post s n) (h.refl s)

theorem raiseWear (s : Live) (e : WearEvent) : R s (s.raiseWear e) :=
  either (h.refl s) (h.after (h.postIf _ _ _) rfl rfl rfl)

theorem writeGongs (s : Live) (on : Bool) : R s (s.writeGongs on) := h.same rfl rfl rfl

/-- A change of the Chain Drive Controller's own record. -/
theorem chain (s : Live) (c : ChainDrive) : R s { s with chain := c } := h.same rfl rfl rfl

theorem judgeWhere (s : Live) (which : Nat → Bool) : R s (s.judgeWhere which) :=
  h.foldl _ (fun s k => either (h.judge s k) (h.refl s)) _ s

theorem judgeSills (s : Live) : R s s.judgeSills := h.judgeWhere s _

theorem takeChainState (s : Live) : R s s.takeChainState :=
  either (h.refl s) (h.after (h.judgeSills _) rfl rfl rfl)

theorem takeAnswer (s : Live) (i : Nat) (a : SillAnswer) : R s (s.takeAnswer i a) :=
  h.after (h.judgeWhere _ _) rfl rfl rfl

theorem rejudgeSill (s : Live) (i : Nat) : R s (s.rejudgeSill i) :=
  either (h.refl s) (h.after (h.takeAnswer _ i _) rfl rfl rfl)

theorem rejudge (s : Live) : R s s.rejudge := h.foldl _ h.rejudgeSill _ s

theorem driveTo (s : Live) (d : DriveOutput) : R s (s.driveTo d) :=
  either (h.refl s) (either (h.same rfl rfl rfl) (either (h.after (h.rejudge _) rfl rfl rfl) (h.chain s _)))

theorem setChain (s : Live) (st : ChainState) : R s (s.setChain st) :=
  either (h.refl s) (h.trans (h.chain s _) (h.post _ _))

theorem enterChain (s : Live) (st : ChainState) : R s (s.enterChain st) :=
  h.trans (h.setChain s st) (h.takeChainState _)

theorem brakeStep (s : Live) : R s s.brakeStep := h.trans (h.driveTo s _) (h.chain _ _)

theorem endSweep (s : Live) : R s s.endSweep :=
  either (h.trans (h.chain s _) (h.writeGongs _ _)) (h.refl s)

theorem placeStop (s : Live) (c : StopCause) : R s (s.placeStop c) :=
  h.trans (h.chain s _) (either (h.enterChain _ _) (h.trans (h.driveTo _ _) (h.enterChain _ _)))

theorem requestStop (s : Live) (c : StopCause) : R s (s.requestStop c) :=
  h.trans (h.endSweep s)
    (either (h.placeStop _ _) (either (h.refl _) (h.trans (h.chain _ _) (h.post _ _))))

theorem placeDeferred (s : Live) : R s s.placeDeferred := by
  unfold Live.placeDeferred
  split
  · exact either (h.trans (h.endSweep s) (h.placeStop _ _)) (h.refl s)
  · exact h.refl s

theorem emergency (s : Live) (r : EmergencyReason) (i : Nat) (st : ChainState) : R s (s.emergency r i st) :=
  h.trans (h.trans (h.trans (h.trans (h.trans (h.trans (h.endSweep s) (h.chain _ _)) (h.driveTo _ _)) (h.setChain _ _))
    (h.raiseWear _ _)) (h.post _ _)) (h.takeChainState _)

theorem endWarning (s : Live) (st : ChainState) : R s (s.endWarning st) :=
  h.trans (h.trans (h.chain s _) (h.writeGongs _ _)) (h.enterChain _ _)

theorem dropTo (s : Live) (st : ChainState) : R s (s.dropTo st) := h.trans (h.chain s _) (h.enterChain _ _)

theorem fireStop (s : Live) : R s s.fireStop := by
  unfold Live.fireStop
  split
  case h_1 => exact either (h.trans (h.endSweep s) (h.placeStop _ _)) (h.emergency s _ _ _)
  case h_3 => exact h.endWarning s _
  case h_4 => exact h.emergency s _ _ _
  case h_5 => exact h.dropTo s _
  case h_9 => exact h.refl s
  all_goals exact h.enterChain s _

theorem flapTrip (s : Live) (i : Nat) : R s (s.flapTrip i) := by
  unfold Live.flapTrip
  split
  case h_4 => exact h.dropTo s _
  case h_5 => exact h.endWarning s _
  case h_7 => exact h.dropTo s _
  case h_1 | h_2 | h_3 | h_6 => exact h.emergency s _ _ _
  all_goals exact h.refl s

theorem sillLeavesOpen (s : Live) (k : Nat) (b : Bool) : R s (s.sillLeavesOpen k b) := by
  unfold Live.sillLeavesOpen
  split
  case h_5 => exact h.endWarning s _
  case h_1 | h_2 | h_3 | h_6 => exact h.emergency s _ _ _
  all_goals exact h.refl s

theorem flapChange (s : Live) (b x : Bool) : R s (s.flapChange b x) :=
  have start := h.trans (h.chain s (if b then { s.chain with flapBottom := x } else { s.chain with flapTop := x }))
    (h.post _ (.flapChange b x))
  either (h.trans start (h.flapTrip _ _)) start

theorem slowChange (s : Live) (x : Bool) : R s (s.slowChange x) := by
  unfold Live.slowChange
  dsimp only
  split
  case h_3 => exact h.chain s _
  all_goals exact h.trans (h.chain s _) (h.driveTo _ _)

theorem enterWarning (s : Live) (l : Option Nat) : R s (s.enterWarning l) :=
  h.trans (h.trans (h.chain s _) (h.writeGongs _ _)) (h.enterChain _ _)

theorem beginSweep (s : Live) (n : Nat) : R s (s.beginSweep n) := h.trans (h.chain s _) (h.writeGongs _ _)

theorem startWarningEndStep (s : Live) : R s (startWarningEndStep s) := by
  unfold Machine.startWarningEndStep
  refine either ?_ (h.refl s)
  extract_lets loops t u v
  have warned : R s u := h.trans (h.chain s _) (h.writeGongs _ _)
  have run : R s v := h.trans (h.trans warned (h.driveTo _ _)) (h.enterChain _ _)
  clear_value loops
  cases loops with
  | none => exact run
  | some n => exact h.trans run (h.beginSweep _ n)

theorem warningGongStep (s : Live) : R s (warningGongStep s) := by
  unfold Machine.warningGongStep
  split
  · exact either (h.refl s) (h.writeGongs s _)
  · exact h.refl s

theorem sweepGongStep (s : Live) : R s (sweepGongStep s) := by
  unfold Machine.sweepGongStep
  split
  · exact either (h.trans (h.chain s _) (h.writeGongs _ _)) (either (h.writeGongs s _) (h.refl s))
  · exact h.refl s

theorem stopChain (s : Live) : R s s.stopChain := by
  unfold Live.stopChain
  split
  · exact either (h.refl s) (h.requestStop s _)
  · exact h.endWarning s _
  · exact h.trans (h.chain s _) (h.brakeStep _)
  · exact h.refl s

theorem requestSweep (s : Live) : R s s.requestSweep.1 := by
  unfold Live.requestSweep
  dsimp only
  split
  · split_ifs
    · exact h.refl s
    · exact h.chain s _
    · exact h.beginSweep s _
  · split_ifs
    · exact h.enterWarning s _
    · exact h.refl s
  · exact h.chain s _
  · exact h.refl s

theorem requestPark (s : Live) : R s s.requestPark.1 := by
  unfold Live.requestPark
  split
  · split_ifs
    · exact h.refl s
    · exact h.requestStop s _
  · exact h.refl s
  · exact h.refl s

theorem clearSweep (s : Live) : R s s.clearSweep := by
  unfold Live.clearSweep
  split
  · exact h.endSweep s
  · exact h.chain s _
  · exact h.refl s

theorem stopPulse (s : Live) (c : StopCause) (ph : StopPhase) (r : StopRecord) : R s (s.stopPulse c ph r) :=
  h.trans (h.chain s _) (either (h.trans (h.driveTo _ _) (h.enterChain _ _))
    (either (h.trans (h.driveTo _ _) (h.enterChain _ _)) (h.refl _)))

theorem drivePulse (s : Live) : R s s.drivePulse := by
  unfold Live.drivePulse
  dsimp only
  have start : R s (if s.chain.drive = .brake then s else { s with chain := { s.chain with stallTimer := some 0 } }) :=
    either (h.refl s) (h.chain s _)
  refine h.trans start ?_
  generalize (if s.chain.drive = .brake then s else { s with chain := { s.chain with stallTimer := some 0 } }) = t
  split
  · split
    · exact either (h.requestStop t _) (h.chain t _)
    · exact h.refl t
  · split
    · exact h.chain t _
    · exact h.refl t
  · split
    · exact h.stopPulse t _ _ _
    · exact h.refl t
  · split
    · exact either (h.trans (h.chain t _) (h.brakeStep _)) (h.chain t _)
    · exact h.refl t
  · exact h.refl t

theorem monitorPulse (s : Live) (phase : Nat) : R s (s.monitorPulse phase) := by
  have counted : R s s.advanceCount := h.after (h.raiseWear _ _) rfl rfl rfl
  have indexed : R s.advanceCount s.advanceCount.loseIndex :=
    either (h.after (h.post _ _) rfl rfl rfl) (h.refl _)
  have timed : ∀ t : Live, R t (t.feedTimers phase) := fun t =>
    either (h.after (h.postIf _ _ _) rfl rfl rfl) (h.same rfl rfl rfl)
  have judged := h.trans (h.trans (h.trans counted indexed) (timed _)) (h.rejudge _)
  exact either (h.trans judged (h.judgeSills _)) judged

theorem pulse (phase : Nat) (s : Live) : R s (pulse phase s) := h.trans (h.monitorPulse s phase) (h.drivePulse _)

theorem monitorIndex (s : Live) : R s s.monitorIndex := by
  unfold Live.monitorIndex
  dsimp only
  refine h.trans (h.raiseWear s .index) ?_
  split
  · exact h.after (h.post _ _) rfl rfl rfl
  · exact h.same rfl rfl rfl

theorem indexStep (s : Live) : R s (indexStep s) :=
  have start := h.trans (h.monitorIndex s) (h.rejudge _)
  either start (h.trans start (h.placeDeferred _))

theorem settleDrive (s : Live) : R s s.settleDrive := by
  unfold Live.settleDrive
  split
  · exact h.trans (h.trans (h.trans (h.chain s _) (h.setChain _ _)) (h.postIf _ _ _)) (h.takeChainState _)
  · exact h.trans (h.trans (h.trans (h.chain s _) (h.setChain _ _)) (h.post _ _)) (h.takeChainState _)
  · exact h.refl s

theorem chainSettledStep (s : Live) : R s (chainSettledStep s) := by
  unfold Machine.chainSettledStep
  refine either ?_ (h.refl s)
  extract_lets m t
  have settled : R s t := h.same rfl rfl rfl
  exact h.trans (h.trans (h.trans settled (h.rejudge _)) (h.settleDrive _)) (h.judgeSills _)

theorem stallStep (s : Live) : R s (stallStep s) := either (h.emergency s _ _ _) (h.refl s)

end ChainRule
end Sys2Proof.Machine

namespace Sys2Proof.Machine

/-! ## The Field Scanner's record stands but for blanking that begins -/

/-- Blanking stands as it was, or begins for `n` scans where a present module carries the point (R8, R9). -/
def BlankStands (present : Bool) (n : Nat) (before after : Option Nat) : Prop :=
  after = before ∨ present = true ∧ after = some n

theorem BlankStands.refl (b : Bool) (n : Nat) (x : Option Nat) : BlankStands b n x x := .inl rfl

theorem BlankStands.trans {b : Bool} {n : Nat} {x y z : Option Nat} (h : BlankStands b n x y)
    (g : BlankStands b n y z) : BlankStands b n x z := by
  rcases g with rfl | begun
  · exact h
  · exact .inr begun

/-- The second counter and the Field Scanner's record stand, but for the blanking an output change begins. -/
structure Stands (s t : Live) : Prop where
  seconds : t.seconds = s.seconds
  modules : t.loop.modules = s.loop.modules
  sent : t.loop.sent = s.loop.sent
  detectors : t.loop.detectors = s.loop.detectors
  ready : t.loop.ready = s.loop.ready
  flapTop : t.loop.flapTop = s.loop.flapTop
  flapBottom : t.loop.flapBottom = s.loop.flapBottom
  slow : t.loop.slow = s.loop.slow
  line : ∀ p, (t.pushInput p).line = (s.pushInput p).line
  pushBlank : ∀ p, BlankStands (s.loop.presentAt .call p) 5 (s.pushInput p).blank (t.pushInput p).blank
  up : ∀ k, (t.input k).up = (s.input k).up
  down : ∀ k, (t.input k).down = (s.input k).down
  edge : ∀ k, (t.input k).edge = (s.input k).edge
  edgeBlank : ∀ k, BlankStands (s.loop.presentAt .shutter k) 3 (s.input k).blank (t.input k).blank

theorem stands_of_loop {s t : Live} (hs : t.seconds = s.seconds) (hl : t.loop = s.loop) : Stands s t := by
  constructor <;> simp [hs, hl, Live.pushInput, Live.input, BlankStands]

theorem stands_refl (s : Live) : Stands s s := stands_of_loop rfl rfl

theorem Stands.presentAt {s t : Live} (h : Stands s t) (k : ModuleKind) (i : Nat) :
    t.loop.presentAt k i = s.loop.presentAt k i := by
  simp only [FieldLoop.presentAt, h.modules]

theorem Stands.trans {s t u : Live} (h : Stands s t) (g : Stands t u) : Stands s u where
  seconds := g.seconds.trans h.seconds
  modules := g.modules.trans h.modules
  sent := g.sent.trans h.sent
  detectors := g.detectors.trans h.detectors
  ready := g.ready.trans h.ready
  flapTop := g.flapTop.trans h.flapTop
  flapBottom := g.flapBottom.trans h.flapBottom
  slow := g.slow.trans h.slow
  line := fun p => (g.line p).trans (h.line p)
  pushBlank := fun p => (h.pushBlank p).trans (h.presentAt .call p ▸ g.pushBlank p)
  up := fun k => (g.up k).trans (h.up k)
  down := fun k => (g.down k).trans (h.down k)
  edge := fun k => (g.edge k).trans (h.edge k)
  edgeBlank := fun k => (h.edgeBlank k).trans (h.presentAt .shutter k ▸ g.edgeBlank k)

theorem stands_ite {s t u : Live} {c : Prop} [Decidable c] (ht : Stands s t) (hu : Stands s u) :
    Stands s (if c then t else u) := by
  split
  · exact ht
  · exact hu

theorem stands_foldl {α : Type} (f : Live → α → Live) (hf : ∀ s x, Stands s (f s x)) (l : List α) (s : Live) :
    Stands s (l.foldl f s) := by
  induction l generalizing s with
  | nil => exact stands_refl s
  | cons x rest ih => exact (hf s x).trans (ih _)

/-- An operation whose frame holds neither the clock nor the field loop. -/
theorem Keeps.stands {ps : List Part} {s t : Live} (h : Keeps ps s t)
    (hp : Part.clock ∉ ps ∧ Part.loop ∉ ps := by decide) : Stands s t :=
  stands_of_loop (h.parts .clock hp.1).1 (h.parts .loop hp.2)

/-- An operation after a change that leaves the field loop. -/
theorem Stands.after {s t u : Live} (h : Stands t u) (hs : t.seconds = s.seconds) (hl : t.loop = s.loop) : Stands s u :=
  (stands_of_loop hs hl).trans h

/-! ### Notices and outputs -/

theorem post_stands (s : Live) (n : Note) : Stands s (s.post n) := stands_of_loop rfl rfl

theorem postIf_stands (s : Live) (b : Bool) (n : Note) : Stands s (s.postIf b n) := (postIf_only s b n).stands

/-- A record put back with other blanking alone reads, at every number, as it did but for that blanking. -/
theorem Bank.read_put_modify {n : Nat} {α β : Type} (b : Bank n α) (i j : Nat) (d x : α) (g : α → β)
    (h : g x = g (b.read i d)) : g ((b.put i x).read j d) = g (b.read j d) := by
  by_cases hij : i = j
  · subst hij
    by_cases hi : i < n
    · rw [Bank.read_put_same _ _ _ _ hi, h]
    · rw [Bank.put_beyond _ _ _ (by omega)]
  · rw [Bank.read_put_other _ _ _ _ _ hij]

theorem Bank.read_put_cases {n : Nat} {α : Type} (b : Bank n α) (i j : Nat) (d x : α) :
    (b.put i x).read j d = b.read j d ∨ i = j ∧ (b.put i x).read j d = x := by
  by_cases hij : i = j
  · subst hij
    by_cases hi : i < n
    · exact .inr ⟨rfl, Bank.read_put_same _ _ _ _ hi⟩
    · exact .inl (by rw [Bank.put_beyond _ _ _ (by omega)])
  · exact .inl (Bank.read_put_other _ _ _ _ _ hij)

theorem blankPush_stands (s : Live) (p : Nat) : Stands s (s.blankPush p) := by
  unfold Live.blankPush
  split
  case isFalse => exact stands_refl s
  case isTrue present =>
    refine { stands_refl s with line := fun q => ?_, pushBlank := fun q => ?_ }
    · exact Bank.read_put_modify s.loop.pushes p q _ _ PushInput.line rfl
    · rcases Bank.read_put_cases s.loop.pushes p q ⟨.still .idle, none⟩
        { s.pushInput p with blank := some Config.pushBlanking } with other | ⟨rfl, this⟩
      · exact .inl (congrArg PushInput.blank other)
      · exact .inr ⟨present, congrArg PushInput.blank this⟩

theorem blankEdge_stands (s : Live) (k : Nat) : Stands s (s.blankEdge k) := by
  unfold Live.blankEdge
  split
  case isFalse => exact stands_refl s
  case isTrue present =>
    refine { stands_refl s with up := fun q => ?_, down := fun q => ?_, edge := fun q => ?_, edgeBlank := fun q => ?_ }
    · exact Bank.read_put_modify s.loop.gear k q _ _ GearInput.up rfl
    · exact Bank.read_put_modify s.loop.gear k q _ _ GearInput.down rfl
    · exact Bank.read_put_modify s.loop.gear k q _ _ GearInput.edge rfl
    · rcases Bank.read_put_cases s.loop.gear k q ⟨.still false, .still false, .still false, none⟩
        { s.input k with blank := some Config.edgeBlanking } with other | ⟨rfl, this⟩
      · exact .inl (congrArg GearInput.blank other)
      · exact .inr ⟨present, congrArg GearInput.blank this⟩

theorem writeIndicator_stands (s : Live) (p : Nat) (on : Bool) : Stands s (s.writeIndicator p on) :=
  stands_ite ((blankPush_stands _ p).after rfl rfl) (stands_refl s)

theorem writeGear_stands (s : Live) (k : Nat) (st : ShutterState) : Stands s (s.writeGear k st) :=
  stands_ite (stands_ite ((blankEdge_stands _ k).after rfl rfl) (stands_of_loop rfl rfl)) (stands_refl s)

/-! ### Shutters and the chain -/

theorem changeShutter_stands (s : Live) (k : Nat) (r : ShutterRecord) : Stands s (s.changeShutter k r) :=
  have wrote : Stands s (if (s.shutter k).state = r.state then s.withShutter k r
      else (s.withShutter k r).writeGear k r.state) :=
    stands_ite (withShutter_only s k r).stands ((writeGear_stands _ k _).after rfl rfl)
  wrote.trans (postIf_stands _ _ _)

theorem closeAtLimit_stands (s : Live) (k : Nat) : Stands s (s.closeAtLimit k) :=
  (changeShutter_stands s k _).trans (raiseWear_only _ _).stands

theorem thirdObstruction_stands (s : Live) (k : Nat) : Stands s (s.thirdObstruction k) :=
  stands_ite (stands_of_loop rfl rfl) ((changeShutter_stands s k _).trans (post_stands _ _))

theorem obstruct_stands (s : Live) (k : Nat) : Stands s (s.obstruct k) := by
  unfold Live.obstruct
  extract_lets r n t
  have counted : Stands s t :=
    ((withShutter_only s k n).stands.trans (raiseWear_only _ _).stands).trans (post_stands _ _)
  exact counted.trans (stands_ite (changeShutter_stands t k _) (thirdObstruction_stands t k))

theorem enterDescending_stands (s : Live) (k : Nat) (r : ShutterRecord) : Stands s (s.enterDescending k r) :=
  (changeShutter_stands s k _).trans
    (stands_ite (closeAtLimit_stands _ k) (stands_ite (obstruct_stands _ k) (stands_refl _)))

theorem judge_stands (s : Live) (k : Nat) : Stands s (s.judge k) :=
  stands_ite
    (stands_ite (enterDescending_stands s k _)
      (stands_ite ((post_stands s _).trans (enterDescending_stands _ k _))
        (stands_ite (stands_refl s) (stands_of_loop rfl rfl))))
    (stands_refl s)

/-- Every operation of the chain keeps the Field Scanner's record. -/
theorem stands_chainRule : ChainRule Stands where
  same := fun hs hl _ => stands_of_loop hs hl
  judge := judge_stands
  trans := Stands.trans

theorem moveShutter_stands (s : Live) (k : Nat) (r : ShutterRecord) (b : Bool) : Stands s (s.moveShutter k r b) :=
  stands_ite ((changeShutter_stands s k r).trans (stands_chainRule.sillLeavesOpen _ k b)) (changeShutter_stands s k r)

theorem arm_stands (s : Live) (k : Nat) (c : CloseCause) : Stands s (s.arm k c) :=
  stands_ite ((moveShutter_stands s k _ _).trans (judge_stands _ k)) (moveShutter_stands s k _ _)

theorem closeByState_stands (s : Live) (k : Nat) (c : CloseCause) : Stands s (s.closeByState k c) := by
  unfold Live.closeByState
  split
  case h_10 => exact stands_refl s
  case h_1 | h_2 | h_3 | h_4 | h_5 => exact arm_stands s k c
  all_goals exact stands_ite (changeShutter_stands s k _) (stands_refl s)

theorem closeRequest_stands (s : Live) (k : Nat) (c : CloseCause) : Stands s (s.closeRequest k c) :=
  stands_ite (stands_refl s) (closeByState_stands s k c)

theorem limitByState_stands (s : Live) (k : Nat) (l : Limit) : Stands s (s.limitByState k l) := by
  unfold Live.limitByState
  dsimp only
  split
  case h_1 | h_2 => exact stands_ite (stands_refl s) (moveShutter_stands s k _ _)
  case h_3 => exact stands_ite (moveShutter_stands s k _ _) (stands_refl s)
  case h_4 => exact stands_ite (closeAtLimit_stands s k) (stands_refl s)
  case h_5 | h_6 => exact stands_ite (changeShutter_stands s k _) (stands_refl s)
  all_goals exact stands_refl s

theorem limitChange_stands (s : Live) (k : Nat) (l : Limit) : Stands s (s.limitChange k l) :=
  stands_ite (stands_refl s) (stands_ite (moveShutter_stands s k _ _) (limitByState_stands s k l))

theorem shutterModuleLost_stands (s : Live) (k : Nat) : Stands s (s.shutterModuleLost k) :=
  stands_ite (moveShutter_stands s k _ _) (stands_refl s)

theorem edgeAsserted_stands (s : Live) (k : Nat) : Stands s (s.edgeAsserted k) :=
  stands_ite (obstruct_stands s k) (stands_refl s)

theorem raiseShutter_stands (s : Live) (k : Nat) : Stands s (s.raiseShutter k) :=
  stands_ite (moveShutter_stands s k _ _) (moveShutter_stands s k _ _)

theorem haltShutter_stands (s : Live) (k : Nat) : Stands s (s.haltShutter k) :=
  (changeShutter_stands s k _).trans (post_stands _ _)

/-! ### The Call Queue and the circuits -/

/-- A change of the call list itself. -/
theorem calls_stands (s : Live) (l : List CallRecord) : Stands s { s with calls := l } := stands_of_loop rfl rfl

theorem replaceCall_stands (s : Live) (a b : CallRecord) : Stands s (s.replaceCall a b) :=
  stands_ite (stands_of_loop rfl rfl) (stands_of_loop rfl rfl)

theorem beginRing_stands (s : Live) (c : Nat) (r : CallRecord) : Stands s (s.beginRing c r) :=
  ((withCircuit_only s c _).stands.trans (writeSounder_only _ _ _).stands).trans (updateCall_only _ _ _).stands

theorem choose_stands (s : Live) (c : Nat) : Stands s (s.choose c) := by
  refine stands_ite (stands_refl s) ?_
  split
  · exact beginRing_stands s c _
  · exact stands_refl s

theorem takeMask_stands (s : Live) (c : Nat) : Stands s (s.takeMask c) := by
  unfold Live.takeMask
  dsimp only
  split
  · exact stands_refl s
  · exact (withCircuit_only s c _).stands.trans (postIf_stands _ _ _)

theorem stopRing_stands (s : Live) (c : Nat) : Stands s (s.stopRing c) :=
  (((withCircuit_only s c _).stands.trans (writeSounder_only _ _ _).stands).trans (takeMask_stands _ c)).trans
    (choose_stands _ c)

theorem preempt_stands (s : Live) (c : Nat) (g : Ring) (r : CallRecord) : Stands s (s.preempt c g r) :=
  (updateCall_only s _ _).stands.trans (beginRing_stands _ c r)

theorem tellCircuit_stands (s : Live) (r : CallRecord) : Stands s (s.tellCircuit r) := by
  unfold Live.tellCircuit
  split
  · exact stands_ite (preempt_stands s _ _ _) (stands_refl s)
  · exact choose_stands s _

theorem stopIfRinging_stands (s : Live) (c : Nat) (key : CallKey) : Stands s (s.stopIfRinging c key) := by
  unfold Live.stopIfRinging
  split
  · exact stands_ite (stopRing_stands s c) (stands_refl s)
  · exact stands_refl s

theorem setMask_stands (s : Live) (c m : Nat) : Stands s (s.setMask c m) :=
  (withCircuit_only s c _).stands.trans
    (stands_ite (stands_refl _) ((takeMask_stands _ c).trans (choose_stands _ c)))

theorem indicatorOff_stands (s : Live) (key : CallKey) : Stands s (indicatorOff s key) := by
  unfold indicatorOff
  split
  · exact writeIndicator_stands s _ _
  · exact stands_refl s

theorem indicatorOn_stands (s : Live) (key : CallKey) : Stands s (indicatorOn s key) := by
  unfold indicatorOn
  split
  · exact writeIndicator_stands s _ _
  · exact stands_refl s

theorem takeOut_stands (s : Live) (r : CallRecord) : Stands s (s.takeOut r) :=
  ((calls_stands s _).trans (stopIfRinging_stands _ r.circuit r.key)).trans (indicatorOff_stands _ r.key)

theorem removeCall_stands (s : Live) (r : CallRecord) (why : RemoveReason) : Stands s (s.removeCall r why) :=
  (takeOut_stands s r).trans (post_stands _ _)

theorem makeRoom_stands (s : Live) (r : CallRecord) : Stands s (s.makeRoom r).1 := by
  unfold Live.makeRoom
  split
  · exact stands_refl s
  · split
    · exact stands_refl s
    · split
      · exact (takeOut_stands s _).trans (post_stands _ _)
      · exact post_stands s _

theorem join_stands (s : Live) (r : CallRecord) : Stands s (s.join r).1 := by
  unfold Live.join
  dsimp only
  split
  · exact ((((makeRoom_stands s r).trans (calls_stands _ _)).trans (post_stands _ _)).trans (indicatorOn_stands _ _)).trans
      (tellCircuit_stands _ r)
  · exact makeRoom_stands s r

theorem pressAgain_stands (s : Live) (p : Nat) (r : CallRecord) : Stands s (s.pressAgain p r) := by
  unfold Live.pressAgain
  extract_lets n t
  have told : Stands s t := (replaceCall_stands s r n).trans (post_stands _ _)
  exact stands_ite (told.trans (choose_stands t _)) told

theorem press_stands (s : Live) (p : Nat) : Stands s (s.press p) := by
  unfold Live.press
  refine stands_ite ?_ (stands_refl s)
  split
  · exact pressAgain_stands s p _
  · exact join_stands s _

theorem attend_stands (s : Live) (p : Nat) : Stands s (s.attend p) := by
  unfold Live.attend
  split
  · exact removeCall_stands s _ _
  · exact stands_refl s

theorem pushChange_stands (s : Live) (p : Nat) (old new : PushState) : Stands s (s.pushChange p old new) := by
  unfold Live.pushChange
  extract_lets t
  have told : Stands s t := postIf_stands s _ _
  refine told.trans ?_
  split
  · exact press_stands _ p
  · exact attend_stands _ p
  all_goals exact stands_refl _

theorem fireCallEnter_stands (s : Live) (c : Nat) : Stands s (s.fireCallEnter c) := by
  unfold Live.fireCallEnter
  split
  · exact stands_refl s
  · exact join_stands s _

theorem fireCallLeave_stands (s : Live) (c : Nat) : Stands s (s.fireCallLeave c) := by
  unfold Live.fireCallLeave
  split
  · exact removeCall_stands s _ _
  · exact stands_refl s

theorem programmeCall_stands (s : Live) (step c : Nat) : Stands s (s.programmeCall step c).1 := by
  unfold Live.programmeCall
  split
  · exact stands_refl s
  · exact join_stands s _

theorem withdrawCalls_stands (s : Live) : Stands s s.withdrawCalls := by
  refine stands_foldl _ (fun t r => ?_) _ s
  split
  · exact removeCall_stands t _ _
  · exact stands_refl t

/-- A change of the circuits themselves. -/
theorem circuits_stands (s : Live) (b : Bank 16 CircuitRecord) : Stands s { s with circuits := b } :=
  stands_of_loop rfl rfl

theorem resetCircuits_stands (s : Live) : Stands s s.resetCircuits := by
  unfold Live.resetCircuits
  extract_lets t
  have silenced : Stands s t := stands_foldl _ (fun t c => (writeSounder_only t c _).stands) _ s
  exact silenced.trans (circuits_stands t _)

theorem emptyCalls_stands (s : Live) : Stands s s.emptyCalls :=
  (calls_stands s []).trans (stands_foldl _ (fun t p => writeIndicator_stands t p false) _ _)

/-! ### The course of a ring -/

theorem enterPhase_stands (s : Live) (c : Nat) (g : Ring) (ph : RingPhase) (pl : RingPlace) :
    Stands s (s.enterPhase c g ph pl) :=
  (withCircuit_only s c _).stands.trans (writeSounder_only _ _ _).stands

theorem boundary_stands (s : Live) (c : Nat) (g : Ring) : Stands s (s.boundary c g) := by
  unfold Live.boundary
  extract_lets t
  refine (takeMask_stands s c : Stands s t).trans ?_
  split
  · exact stands_ite (preempt_stands _ _ _ _) (enterPhase_stands _ _ _ _ _)
  · exact enterPhase_stands _ _ _ _ _

theorem ringCompleted_stands (s : Live) (r : CallRecord) : Stands s (s.ringCompleted r) := by
  unfold Live.ringCompleted
  dsimp only
  split
  · exact ((replaceCall_stands s _ _).trans (post_stands _ _)).trans (postIf_stands _ _ _)
  · exact (((calls_stands s _).trans (indicatorOff_stands _ _)).trans (post_stands _ _)).trans (post_stands _ _)

theorem completeRing_stands (s : Live) (c : Nat) (g : Ring) : Stands s (s.completeRing c g) := by
  unfold Live.completeRing
  dsimp only
  split
  · exact (ringCompleted_stands s _).trans (stopRing_stands _ c)
  · exact stopRing_stands s c

theorem phaseEndStep_stands (c : Nat) (s : Live) : Stands s (phaseEndStep c s) := by
  unfold phaseEndStep
  split
  · exact stands_refl s
  · refine stands_ite (stands_refl s) ?_
    split
    · exact enterPhase_stands s _ _ _ _
    · exact stands_ite (completeRing_stands s _ _) (boundary_stands s _ _)
    · exact boundary_stands s _ _

theorem reRingStep_stands (key : CallKey) (s : Live) : Stands s (reRingStep key s) := by
  unfold reRingStep
  split
  · exact stands_refl s
  · split
    · exact stands_ite ((updateCall_only s _ _).stands.trans (choose_stands _ _)) (stands_refl s)
    · exact stands_refl s

/-! ### The Closing Sequencer -/

theorem bell_stands (s : Live) (i : Nat) (e : StepEntry) : Stands s (s.bell i e).1 := by
  have calls : ∀ (cs : List Nat) (a : Live × Nat), Stands a.1
      (cs.foldl (fun a c => ((a.1.programmeCall i c).1, if (a.1.programmeCall i c).2 then a.2 + 1 else a.2)) a).1 := by
    intro cs
    induction cs with
    | nil => exact fun a => stands_refl _
    | cons c rest ih =>
      exact fun a => (programmeCall_stands a.1 i c).trans
        (ih ((a.1.programmeCall i c).1, if (a.1.programmeCall i c).2 then a.2 + 1 else a.2))
  exact calls _ (s, 0)

theorem executeStep_stands (s : Live) (i close : Nat) : Stands s (s.executeStep i close).1 := by
  unfold Live.executeStep
  dsimp only
  split
  · exact (enterQueue_only s _).stands
  · exact bell_stands s i _
  · exact stands_chainRule.requestSweep s
  · exact stands_chainRule.requestPark s
  · exact stands_foldl _ (fun t k => closeRequest_stands t k _) _ s
  · exact stands_foldl _ (fun t c => setMask_stands t c _) _ s

theorem takeStep_stands (s : Live) (i close : Nat) (b : Bool) : Stands s (s.takeStep i close b).1 := by
  unfold Live.takeStep
  split
  · exact stands_refl s
  · exact executeStep_stands s i close

theorem markStep_stands (s : Live) (i : Nat) (t : Taken) : Stands s (s.markStep i t) := by
  cases t <;> exact stands_of_loop rfl rfl

theorem takeDue_stands (b : Bool) (fuel : Nat) (s : Live) : Stands s (s.takeDue b fuel) := by
  induction fuel generalizing s with
  | zero => exact stands_refl s
  | succ n ih =>
    unfold Live.takeDue
    split
    · exact stands_ite (((takeStep_stands s _ _ _).trans (markStep_stands _ _ _)).trans (ih _)) (stands_refl s)
    · exact stands_of_loop rfl rfl
    · exact stands_refl s

theorem withClosing_stands (s : Live) (c : Closing) : Stands s (s.withClosing c) := stands_of_loop rfl rfl

theorem postProgramme_stands (s : Live) (why : ProgrammeReason) : Stands s (s.postProgramme why) := post_stands s _

theorem suspendClosing_stands (s : Live) : Stands s s.suspendClosing := by
  unfold Live.suspendClosing
  split
  · exact (((withClosing_stands s _).trans (withdrawCalls_stands _)).trans (withdrawSpeech_only _).stands).trans
      (post_stands _ _)
  all_goals exact stands_refl s

/-! ### The Zone Monitor -/

theorem setZone_stands (s : Live) (z : Nat) (r : ZoneRecord) : Stands s (s.setZone z r) := stands_of_loop rfl rfl

theorem issue_stands (s : Live) (z : Nat) : Stands s (s.issue z) :=
  have closed := stands_foldl (fun t k => Live.closeRequest t k .fire) (fun t k => closeRequest_stands t k .fire)
    (s.plan.contribution z) s
  stands_ite (closed.trans (stands_chainRule.fireStop _)) closed

theorem handCircuits_stands (s : Live) (l : List Nat) : Stands s (s.handCircuits l) :=
  (stands_foldl _ fireCallLeave_stands _ s).trans (stands_foldl _ fireCallEnter_stands _ _)

theorem handSpeech_stands (s : Live) (d : Demand) : Stands s (s.handSpeech d) := (handSpeech_only s d).stands

/-- A change of the Shutter Controller's own copy. -/
theorem gear_stands (s : Live) (g : ShutterGear) : Stands s { s with gear := g } := stands_of_loop rfl rfl

theorem handDemand_stands (s : Live) (d : Demand) : Stands s (s.handDemand d) :=
  ((gear_stands s _).trans (handCircuits_stands _ d.circuits)).trans (handSpeech_stands _ d)

theorem handAlarm_stands (s : Live) (d : Demand) (z : Nat) (b : Bool) : Stands s (s.handAlarm d z b) := by
  unfold Live.handAlarm
  extract_lets g t u v
  have issued : Stands s u := (issue_stands t z).after rfl rfl
  have suspended : Stands s v := stands_ite (issued.trans (suspendClosing_stands u)) issued
  exact (suspended.trans (handCircuits_stands _ _)).trans (handSpeech_stands _ _)

theorem latch_stands (s : Live) (z d : Nat) : Stands s (s.latch z d) := (handAlarm_stands _ _ z true).after rfl rfl

theorem resound_stands (s : Live) (z d : Nat) : Stands s (s.resound z d) :=
  have told : Stands s (s.post (.zoneAlarm z d)) := post_stands s _
  stands_ite (told.trans ((handAlarm_stands _ _ z false).after rfl rfl)) told

theorem takeLine_stands (s : Live) (z : Nat) : Stands s (s.takeLine z) :=
  stands_ite (stands_refl s) (setZone_stands s z _)

theorem detectorChange_stands (s : Live) (d : Nat) : Stands s (s.detectorChange d) := by
  unfold Live.detectorChange
  split
  · exact stands_refl s
  · split
    case h_4 => exact stands_refl s
    case h_3 => exact stands_ite (resound_stands s _ _) (stands_refl s)
    all_goals exact stands_ite (latch_stands s _ _) (takeLine_stands s _)

theorem restoreZone_stands (s : Live) (z : Nat) : Stands s (s.restoreZone z) := by
  unfold Live.restoreZone
  split
  · exact latch_stands s z _
  · exact setZone_stands s z _

theorem silenceZone_stands (s : Live) (z : Nat) : Stands s (s.silenceZone z) :=
  stands_ite (stands_refl s) ((setZone_stands s z _).trans (handDemand_stands _ _))

theorem resetZone_stands (s : Live) (z : Nat) : Stands s (s.resetZone z) :=
  (setZone_stands s z _).trans (handDemand_stands _ _)

theorem latchAlarmed_stands (s : Live) : Stands s s.latchAlarmed := by
  refine stands_foldl _ (fun t z => ?_) _ s
  split
  · exact stands_ite (stands_refl t) (latch_stands t z _)
  · exact stands_refl t

theorem readyChange_stands (s : Live) (ch : Nat) (b : Bool) : Stands s (s.readyChange ch b) :=
  (readyChange_only s ch b).stands

/-! ### The restart and an adoption -/

theorem restartChain_stands (s : Live) : Stands s s.restartChain := by
  unfold Live.restartChain
  extract_lets moving holds c t u
  have cleared : Stands s t := stands_of_loop rfl rfl
  have braked : Stands s u :=
    stands_ite ((cleared.trans (stands_chainRule.driveTo _ _)).trans (raiseWear_only _ _).stands) cleared
  exact stands_ite (braked.trans (stands_chainRule.enterChain _ _)) braked

/-- A change of the Speech Controller's own record. -/
theorem speech_stands (s : Live) (x : Speech) : Stands s { s with speech := x } := stands_of_loop rfl rfl

theorem restartSpeech_stands (s : Live) : Stands s s.restartSpeech :=
  ((((freePlayer_only s .a).stands.trans (freePlayer_only _ .b).stands).trans
    (speech_stands _ _)).trans (speech_stands _ _)).trans (speech_stands _ _)

theorem rehand_stands (s : Live) : Stands s s.rehand :=
  (stands_foldl _ fireCallEnter_stands _ s).trans (evacDemand_only _ _ _).stands

theorem warmRestart_stands (s : Live) : Stands s s.warmRestart := by
  unfold Live.warmRestart
  extract_lets t u c v w
  have started : Stands s v := stands_of_loop rfl rfl
  have emptied : Stands s w := (((started.trans (restartChain_stands v)).trans (emptyCalls_stands _)).trans
    (resetCircuits_stands _)).trans (restartSpeech_stands _)
  exact (emptied.trans (withClosing_stands _ _)).trans (rehand_stands _)

theorem deriveZones_stands (s : Live) (keep : Bool) : Stands s (s.deriveZones keep) := stands_of_loop rfl rfl

theorem adoptPosition_stands (s : Live) (old : Plan) : Stands s (s.adoptPosition old) := by
  unfold Live.adoptPosition
  dsimp only
  split
  · exact stands_refl s
  · exact (postIf_stands _ _ _).after rfl rfl

theorem adopt_stands (s : Live) (a : List Nat) : Stands s (s.adopt a) := by
  unfold Live.adopt
  extract_lets old c t u v
  have taken : Stands s t := stands_of_loop rfl rfl
  have emptied : Stands s u := (taken.trans (emptyCalls_stands t)).trans (resetCircuits_stands _)
  have judged : Stands s v := (emptied.trans (adoptPosition_stands _ _)).trans (stands_chainRule.rejudge _)
  exact ((judged.trans (withClosing_stands v _)).trans (deriveZones_stands _ true)).trans (latchAlarmed_stands _)

end Sys2Proof.Machine

/-! # The scan: what it does to the module list and the messages, whatever the samples bring about -/

namespace Sys2Proof.Machine

/-! ## Notices that have been offered -/

theorem post_offered (s : Live) (n : Note) : (s.post n).offered n := by
  intro p
  cases p <;> simp only [Live.port, Live.post_portC, Live.post_portF, Live.post_seconds, PortRecord.take] <;> split
  all_goals simp

/-- A notice once offered has been offered after every operation that leaves the clock. -/
theorem Keeps.offered {ps : List Part} {s t : Live} {n : Note} (h : Keeps ps s t) (hn : s.offered n)
    (hc : Part.clock ∉ ps := by decide) : t.offered n := fun p => by
  obtain ⟨pre, lost⟩ := h.notices p
  rw [(h.parts .clock hc).1]
  exact (hn p).imp (pre.subset ·) lost

/-! ## Samples leave the module list and the messages -/

/-- The module list and the messages sent stand. -/
def ListStands (s t : Live) : Prop := t.loop.modules = s.loop.modules ∧ t.loop.sent = s.loop.sent

theorem listStands_refl (s : Live) : ListStands s s := ⟨rfl, rfl⟩

theorem ListStands.trans {s t u : Live} (h : ListStands s t) (g : ListStands t u) : ListStands s u :=
  ⟨g.1.trans h.1, g.2.trans h.2⟩

theorem Stands.list {s t : Live} (h : Stands s t) : ListStands s t := ⟨h.modules, h.sent⟩

theorem listStands_ite {s t u : Live} {c : Prop} [Decidable c] (ht : ListStands s t) (hu : ListStands s u) :
    ListStands s (if c then t else u) := by
  split
  · exact ht
  · exact hu

/-- A change of a detector line, of a push line, of a shutter's inputs or of a READY, and what the change is handed to. -/
theorem Stands.listAfter {s t u : Live} (h : Stands t u) (hl : ListStands s t) : ListStands s u := hl.trans h.list

theorem putPush_list (s : Live) (p : Nat) (i : PushInput) : ListStands s (s.putPush p i) := ⟨rfl, rfl⟩

theorem putGear_list (s : Live) (k : Nat) (i : GearInput) : ListStands s (s.putGear k i) := ⟨rfl, rfl⟩

theorem sampleDetector_list (d : Nat) (x : LineState) (s : Live) : ListStands s (sampleDetector d x s) :=
  listStands_ite ⟨rfl, rfl⟩ ((detectorChange_stands _ d).listAfter ⟨rfl, rfl⟩)

theorem debouncePush_list (p : Nat) (x : PushState) (s : Live) : ListStands s (debouncePush p x s) :=
  listStands_ite ⟨rfl, rfl⟩ ((pushChange_stands _ p _ _).listAfter ⟨rfl, rfl⟩)

theorem firstAfterBlanking_list (p : Nat) (x : PushState) (s : Live) : ListStands s (firstAfterBlanking p x s) :=
  listStands_ite ((pushChange_stands _ p _ _).listAfter ⟨rfl, rfl⟩) (debouncePush_list p x s)

theorem samplePush_list (p : Nat) (b : Option Nat) (x : PushState) (s : Live) : ListStands s (samplePush p b x s) := by
  unfold samplePush
  split
  · exact debouncePush_list p x s
  · exact firstAfterBlanking_list p x s
  · exact listStands_refl s

theorem sampleUp_list (k : Nat) (x : Bool) (s : Live) : ListStands s (sampleUp k x s) :=
  listStands_ite ⟨rfl, rfl⟩ ((limitChange_stands _ k .up).listAfter ⟨rfl, rfl⟩)

theorem sampleDown_list (k : Nat) (x : Bool) (s : Live) : ListStands s (sampleDown k x s) :=
  listStands_ite ⟨rfl, rfl⟩ ((limitChange_stands _ k .down).listAfter ⟨rfl, rfl⟩)

theorem sampleEdge_list (k : Nat) (x : Bool) (s : Live) : ListStands s (sampleEdge k x s) :=
  listStands_ite ((edgeAsserted_stands _ k).listAfter ⟨rfl, rfl⟩) ⟨rfl, rfl⟩

theorem sampleGear_list (k : Nat) (b : Bool) (x : ShutterSample) (s : Live) : ListStands s (sampleGear k b x s) :=
  have limits := (sampleUp_list k x.up s).trans (sampleDown_list k x.down _)
  listStands_ite limits (limits.trans (sampleEdge_list k x.edge _))

theorem sampleReady_list (ch : Nat) (x : Bool) (s : Live) : ListStands s (sampleReady ch x s) :=
  listStands_ite ⟨rfl, rfl⟩ ((readyChange_stands _ ch _).listAfter ⟨rfl, rfl⟩)

theorem eachPoint_list {α : Type} (f : Nat → α → Live → Live) (h : ∀ i x s, ListStands s (f i x s)) (n : Nat)
    (l : List α) (s : Live) : ListStands s (eachPoint f n l s) := by
  induction l generalizing n s with
  | nil => exact listStands_refl s
  | cons x rest ih => exact (h n x s).trans (ih _ _)

theorem foldl_list {α : Type} (f : Live → α → Live) (h : ∀ s x, ListStands s (f s x)) (l : List α) (s : Live) :
    ListStands s (l.foldl f s) := by
  induction l generalizing s with
  | nil => exact listStands_refl s
  | cons x rest ih => exact (h s x).trans (ih _)

theorem takeReply_list (s : Live) (first : Nat) (r : ModuleReply) : ListStands s (s.takeReply first r) := by
  cases r with
  | detector xs => exact eachPoint_list _ (fun i x s => sampleDetector_list _ x s) 0 xs s
  | call xs =>
    exact (eachPoint_list _ (fun _ _ s => putPush_list s _ _) 0 xs s).trans
      (eachPoint_list _ (fun i (x : Option Nat × PushState) s => samplePush_list _ x.1 x.2 s) 0 _ _)
  | shutter xs =>
    exact (eachPoint_list _ (fun _ _ s => putGear_list s _ _) 0 xs s).trans
      (eachPoint_list _ (fun i (x : Bool × ShutterSample) s => sampleGear_list _ x.1 x.2 s) 0 _ _)
  | audio xs => exact eachPoint_list _ (fun i x s => sampleReady_list _ x s) 0 xs s
  | bell | other code => exact listStands_refl s

theorem losePoint_list (s : Live) (k : ModuleKind) (i : Nat) : ListStands s (s.losePoint k i) := by
  cases k with
  | detector => exact listStands_ite ⟨rfl, rfl⟩ ((detectorChange_stands _ i).listAfter ⟨rfl, rfl⟩)
  | shutter => exact (shutterModuleLost_stands _ i).listAfter ⟨rfl, rfl⟩
  | call | audio | bell | other code => exact ⟨rfl, rfl⟩

theorem passBlanking_list (s : Live) (m : ModuleRecord) : ListStands s (s.passBlanking m) := by
  unfold Live.passBlanking
  split
  · exact foldl_list _ (fun s p => putPush_list s p _) _ s
  · exact foldl_list _ (fun s k => putGear_list s k _) _ s
  · exact listStands_refl s

/-! ## The exchange with one module -/

/-- The record of a module after a scan in which it gave this valid reply, or none (R3, R10, R11). -/
def ModuleRecord.answered (m : ModuleRecord) : Option ModuleReply → ModuleRecord
  | some _ => { m with present := true, missed := 0 }
  | none =>
    if m.present then
      if Config.missedLimit ≤ m.missed + 1 then { m with present := false, missed := Config.missedLimit }
      else { m with missed := m.missed + 1 }
    else m

theorem ModuleRecord.answered_numbering (m : ModuleRecord) (r : Option ModuleReply) :
    (m.answered r).kind = m.kind ∧ (m.answered r).first = m.first := by
  unfold ModuleRecord.answered
  split
  · exact ⟨rfl, rfl⟩
  · split_ifs <;> exact ⟨rfl, rfl⟩

theorem missReply_list (s : Live) (pos : Nat) (m : ModuleRecord) (h : s.loop.modules[pos]? = some m) :
    (s.missReply pos m).loop.modules = s.loop.modules.set pos (m.answered none) ∧
      (s.missReply pos m).loop.sent = s.loop.sent := by
  obtain ⟨passM, passS⟩ := passBlanking_list s m
  unfold Live.missReply ModuleRecord.answered
  dsimp only
  split_ifs
  · obtain ⟨loseM, loseS⟩ := foldl_list (fun s i => s.losePoint m.kind i) (fun s i => losePoint_list s m.kind i) m.points
      ((((s.passBlanking m).withModule pos { m with present := false, missed := Config.missedLimit }).post
        (.moduleLost pos m.kind)))
    exact ⟨loseM.trans (by simp [passM]), loseS.trans (by simp [passS])⟩
  · simp [passM, passS]
  · have stays : s.loop.modules.set pos m = s.loop.modules := List.ext_getElem? fun i => by
      rw [List.getElem?_set]
      split_ifs with hi hl
      · exact hi ▸ h.symm
      · rw [← hi, List.getElem?_eq_none (Nat.le_of_not_lt hl)]
      · rfl
    exact ⟨passM.trans stays.symm, passS⟩

theorem heedReply_list (s : Live) (pos : Nat) (m : ModuleRecord) (r : ModuleReply) :
    (s.heedReply pos m r).loop.modules = s.loop.modules.set pos (m.answered (some r)) ∧
      (s.heedReply pos m r).loop.sent = s.loop.sent := by
  unfold Live.heedReply
  extract_lets t
  have found : t.loop.modules = s.loop.modules.set pos (m.answered (some r)) ∧ t.loop.sent = s.loop.sent := by
    unfold t Live.postIf
    split <;> exact ⟨rfl, rfl⟩
  split
  · obtain ⟨sampledM, sampledS⟩ := takeReply_list t _ r
    exact ⟨sampledM.trans found.1, sampledS.trans found.2⟩
  · exact found

/-- The exchange with a module judges its record by its reply and sends it the image as it stands (R3, R10 to R12). -/
theorem scanModule_list {s : Live} {pos : Nat} {m : ModuleRecord} (r : Option ModuleReply)
    (h : s.loop.modules[pos]? = some m) :
    (s.scanModule pos r).loop.modules = s.loop.modules.set pos (m.answered (m.valid r)) ∧
      (s.scanModule pos r).loop.sent = s.loop.sent.put pos (some (s.image.messageTo m)) := by
  have sent : (s.sendMessage pos m).loop.modules[pos]? = some m := h
  unfold Live.scanModule
  simp only [h]
  cases m.valid r with
  | none => exact missReply_list _ pos m sent
  | some x => exact heedReply_list _ pos m x

theorem scanModule_beyond {s : Live} {pos : Nat} (r : Option ModuleReply) (h : s.loop.modules[pos]? = none) :
    s.scanModule pos r = s := by
  unfold Live.scanModule
  simp only [h]

theorem scanModule_moduleFound {s : Live} {pos : Nat} {m : ModuleRecord} {r : ModuleReply}
    (h : s.loop.modules[pos]? = some m) (hr : replyKind r = m.kind) (lost : m.present = false) :
    (s.scanModule pos (some r)).offered (.moduleFound pos m.kind) := by
  unfold Live.scanModule
  simp only [h, ModuleRecord.valid, hr, if_true, Live.heedReply, lost, Bool.not_false, Live.postIf]
  split
  · exact (takeReply_only _ _ r).offered (post_offered _ _)
  · exact post_offered _ _

theorem scanModule_moduleLost {s : Live} {pos : Nat} {m : ModuleRecord} {r : Option ModuleReply}
    (h : s.loop.modules[pos]? = some m) (hr : m.valid r = none) (present : m.present = true) (third : 2 ≤ m.missed) :
    (s.scanModule pos r).offered (.moduleLost pos m.kind) := by
  unfold Live.scanModule
  simp only [h, hr, Live.missReply, present, if_true, if_pos (show Config.missedLimit ≤ m.missed + 1 from by
    simp only [Config.missedLimit]; omega), Live.loseModule]
  exact (keeps_foldl _ (fun t i => losePoint_only t m.kind i) _ _).offered (post_offered _ _)

/-! ## The exchanges of a scan in their order -/

/-- The running part once the modules before position `n` have had their exchange. -/
def Live.scanBefore (s : Live) (replies : List (Option ModuleReply)) (n : Nat) : Live :=
  (List.range n).foldl (fun u pos => u.scanModule pos (replies.getD pos none)) s

theorem scanBefore_succ (s : Live) (replies : List (Option ModuleReply)) (n : Nat) :
    s.scanBefore replies (n + 1) = (s.scanBefore replies n).scanModule n (replies.getD n none) := by
  simp only [Live.scanBefore, List.range_succ, List.foldl_append, List.foldl_cons, List.foldl_nil]

theorem scanBefore_only (s : Live) (replies : List (Option ModuleReply)) (n k : Nat) :
    Keeps zoneParts (s.scanBefore replies n) (s.scanBefore replies (n + k)) := by
  induction k with
  | zero => exact keeps_refl _ _
  | succ k ih => exact keeps_trans ih (scanBefore_succ s replies (n + k) ▸ scanModule_only _ _ _)

/-- The modules before position `n` have been judged by their replies, the others stand. -/
theorem scanBefore_modules (s : Live) (replies : List (Option ModuleReply)) (n q : Nat) :
    (s.scanBefore replies n).loop.modules[q]? =
      s.loop.modules[q]?.map fun m => if q < n then m.answered (m.valid (replies.getD q none)) else m := by
  induction n generalizing q with
  | zero => simp [Live.scanBefore]
  | succ n ih =>
    rw [scanBefore_succ]
    cases hm : s.loop.modules[n]? with
    | none =>
      rw [scanModule_beyond _ (by rw [ih n, hm]; rfl), ih q]
      by_cases hq : q = n
      · rw [hq, hm]; rfl
      · simp only [show q < n + 1 ↔ q < n by omega]
    | some m =>
      have turn : (s.scanBefore replies n).loop.modules[n]? = some m := by rw [ih n, hm]; simp
      rw [(scanModule_list _ turn).1, List.getElem?_set]
      by_cases hq : n = q
      · subst hq
        have inside : n < (s.scanBefore replies n).loop.modules.length := (List.getElem?_eq_some_iff.mp turn).1
        simp [hm, inside]
      · simp only [if_neg hq, ih q, show q < n + 1 ↔ q < n by omega]

/-- The message to the module at a position carries the image as it stood when its turn came (R3, R12). -/
theorem scanBefore_sent {s : Live} (replies : List (Option ModuleReply)) {n pos : Nat} {m : ModuleRecord}
    (hp : pos < 40) (hm : s.loop.modules[pos]? = some m) (hn : pos < n) :
    (s.scanBefore replies n).loop.sent.read pos none = some ((s.scanBefore replies pos).image.messageTo m) := by
  induction n with
  | zero => omega
  | succ n ih =>
    rw [scanBefore_succ]
    cases turn : (s.scanBefore replies n).loop.modules[n]? with
    | none =>
      have later : pos < n := by
        rcases Nat.lt_or_eq_of_le (Nat.le_of_lt_succ hn) with later | rfl
        · exact later
        · simp [scanBefore_modules, hm] at turn
      rw [scanModule_beyond _ turn, ih later]
    | some x =>
      rw [(scanModule_list _ turn).2]
      by_cases hq : n = pos
      · subst hq
        have : x = m := by simpa [scanBefore_modules, hm] using turn.symm
        rw [Bank.read_put_same _ _ _ _ hp, this]
      · rw [Bank.read_put_other _ _ _ _ _ hq, ih (by omega)]

theorem scanModules_eq (s : Live) (replies : List (Option ModuleReply)) :
    s.scanModules replies = s.scanBefore replies s.loop.modules.length := rfl

/-! ## The chain pins and the whole scan -/

theorem sampleFlap_list (b x : Bool) (s : Live) : ListStands s (sampleFlap b x s) := by
  cases b <;> exact listStands_ite ⟨rfl, rfl⟩ ((stands_chainRule.flapChange _ _ _).listAfter ⟨rfl, rfl⟩)

theorem sampleSlow_list (x : Bool) (s : Live) : ListStands s (sampleSlow x s) :=
  listStands_ite ⟨rfl, rfl⟩ ((stands_chainRule.slowChange _ _).listAfter ⟨rfl, rfl⟩)

theorem scanPins_list (s : Live) (p : PinSample) : ListStands s (s.scanPins p) :=
  ((sampleFlap_list _ _ s).trans (sampleFlap_list _ _ _)).trans (sampleSlow_list _ _)

/-- Samples of the states the pins hold reach no block. -/
theorem scanPins_same {s : Live} {p : PinSample} (ht : p.flapTop = s.loop.flapTop.value)
    (hb : p.flapBottom = s.loop.flapBottom.value) (hs : p.slow = s.loop.slow.value) :
    s.scanPins p = { s with loop := { s.loop with
      flapTop := { s.loop.flapTop with run := 0 }
      flapBottom := { s.loop.flapBottom with run := 0 }
      slow := { s.loop.slow with run := 0 } } } := by
  simp [Live.scanPins, sampleFlap, sampleSlow, ht, hb, hs, Debounced.sample_value]

/-- The module list after a scan: each record judged by its reply (R3, R10, R11). -/
theorem scanStep_modules (cells : List Host.Cell) (i : ScanInput) (s : Live) (q : Nat) :
    (scanStep cells i s).loop.modules[q]? =
      s.loop.modules[q]?.map fun m => m.answered (m.valid (i.replies.getD q none)) := by
  unfold scanStep
  rw [(scanPins_list _ _).1, scanModules_eq, scanBefore_modules]
  change s.loop.modules[q]?.map (fun m => if q < s.loop.modules.length then _ else m) = _
  cases hm : s.loop.modules[q]? with
  | none => rfl
  | some m => simp [(List.getElem?_eq_some_iff.mp hm).1]

/-- A scan keeps the kinds and the numbering of the modules (R2). -/
theorem scanStep_numbering (cells : List Host.Cell) (i : ScanInput) (s : Live) :
    (scanStep cells i s).loop.modules.map (fun m => (m.kind, m.first)) =
      s.loop.modules.map fun m => (m.kind, m.first) := by
  apply List.ext_getElem?
  intro q
  rw [List.getElem?_map, List.getElem?_map, scanStep_modules]
  cases s.loop.modules[q]? with
  | none => rfl
  | some m =>
    obtain ⟨kind, first⟩ := m.answered_numbering (m.valid (i.replies.getD q none))
    simp only [Option.map_some, kind, first]

end Sys2Proof.Machine

/-! # What only its own command changes

Every command but the scan, the ends of blanking, SECONDS_TICK, SAMPLE_WRITE_DONE and COLD_START keeps `Stands`, through the
handler of its request or the operation of its row. -/

namespace Sys2Proof.Machine

/-! ## Taking a request -/

theorem withPort_stands (s : Live) (p : Port) (r : PortRecord) : Stands s (s.withPort p r) :=
  stands_of_loop (by simp) (by simp)

/-- A change of the plan store's own record. -/
theorem store_stands (s : Live) (x : PlanStore) : Stands s { s with store := x } := stands_of_loop rfl rfl

/-- A BUSY refusal draws free values and changes nothing else. -/
theorem free_stands (s : Live) (n : Nat) : Stands s { s with free := n } := stands_of_loop rfl rfl

theorem breakLoad_stands (s : Live) (p : Port) (b : Cursor → Bool) : Stands s (s.breakLoad p b) :=
  stands_ite (store_stands s _) (stands_refl s)

theorem takeFrame_stands (s : Live) (p : Port) : Stands s (s.takeFrame p) := withPort_stands s p _

theorem putReply_stands (s : Live) (p : Port) (k : Nat) (r : Result) (f : Fields) : Stands s (s.putReply p k r f) :=
  withPort_stands s p _

/-- A request whose handler keeps the Field Scanner's record keeps it. -/
theorem takeRequest_stands (p : Port) (k : Kind) (b : Cursor → Bool) (fit : Bool) {h : Live → Handled}
    (hh : ∀ s, Stands s (h s).1) (s : Live) : Stands s (takeRequest p k b fit h s) := by
  unfold takeRequest
  refine stands_ite ?_ (stands_refl s)
  extract_lets t
  have taken : Stands s t := (takeFrame_stands s p).trans (breakLoad_stands _ p b)
  refine taken.trans (stands_ite (putReply_stands _ _ _ _ _) (stands_ite (putReply_stands _ _ _ _ _) ?_))
  unfold Live.putHandled
  split
  · exact (hh t).trans (putReply_stands _ _ _ _ _)
  · exact hh t

section Bodies
variable {α : Type} {h : α → Live → Handled}

theorem onBody_stands (body : Body α) (hh : ∀ a s, Stands s (h a s).1) (s : Live) : Stands s (onBody body h s).1 := by
  cases body with
  | fits a => exact hh a s
  | misfit => exact stands_refl s

theorem breakingRequest_stands (p : Port) (k : Kind) (body : Body α) (hh : ∀ a s, Stands s (h a s).1) (s : Live) :
    Stands s (breakingRequest p k body h s) :=
  takeRequest_stands p k _ _ (onBody_stands body hh) s

theorem readRequest_stands (p : Port) (k : Kind) (body : Body α) (read : α → Live → Result × Fields) (s : Live) :
    Stands s (readRequest p k body read s) :=
  takeRequest_stands p k _ _ (onBody_stands body fun _ s => stands_refl s) s

end Bodies

/-! ## The handlers of the requests -/

theorem onZone_stands {h : Live → Handled} (hh : ∀ s, Stands s (h s).1) (z : Nat) (s : Live) :
    Stands s (onZone z h s).1 := by
  unfold onZone
  split_ifs
  · exact stands_refl s
  · exact hh s
  · exact stands_refl s

theorem onShutter_stands {h : Live → Handled} (hh : ∀ s, Stands s (h s).1) (k : Nat) (s : Live) :
    Stands s (onShutter k h s).1 := by
  unfold onShutter
  split_ifs
  · exact stands_refl s
  · exact hh s
  · exact stands_refl s

theorem onRowCode_stands {h : Live → Handled} (hh : ∀ s, Stands s (h s).1) (code : RowCode) (s : Live) :
    Stands s (onRowCode h code s).1 := by
  cases code with
  | named => exact hh s
  | unnamed => exact stands_refl s

theorem zoneIsolate_stands (z : Nat) (s : Live) : Stands s (zoneIsolate z s).1 := by
  unfold zoneIsolate
  split
  · exact setZone_stands s z _
  · exact setZone_stands s z _
  all_goals exact stands_refl s

theorem zoneRestore_stands (z : Nat) (s : Live) : Stands s (zoneRestore z s).1 := by
  unfold zoneRestore
  split
  · exact restoreZone_stands s z
  all_goals exact stands_refl s

theorem zoneSilence_stands (z : Nat) (s : Live) : Stands s (zoneSilence z s).1 := by
  unfold zoneSilence
  split
  · exact silenceZone_stands s z
  all_goals exact stands_refl s

theorem zoneReset_stands (z : Nat) (s : Live) : Stands s (zoneReset z s).1 := by
  unfold zoneReset
  split
  · split
    · exact stands_refl s
    · exact resetZone_stands s z
  all_goals exact stands_refl s

theorem shutterLower_stands (k : Nat) (s : Live) : Stands s (shutterLower k s).1 := by
  unfold shutterLower
  split
  · exact free_stands s _
  · exact closeByState_stands s k _

theorem shutterRaise_stands (k : Nat) (s : Live) : Stands s (shutterRaise k s).1 := by
  unfold shutterRaise
  split_ifs
  case neg => exact raiseShutter_stands s k
  all_goals exact free_stands s _

theorem shutterHalt_stands (k : Nat) (s : Live) : Stands s (shutterHalt k s).1 := by
  unfold shutterHalt
  split
  case h_5 => exact haltShutter_stands s k
  case h_6 => exact stands_refl s
  case h_1 | h_2 | h_3 | h_4 =>
    split
    · exact free_stands s _
    · exact haltShutter_stands s k
  all_goals exact free_stands s _

theorem chainStart_stands (s : Live) : Stands s (chainStart s).1 := by
  unfold chainStart
  split
  · split
    · exact stands_refl s
    · exact stands_chainRule.enterWarning s none
  · exact stands_refl s

theorem inspectOn_stands (s : Live) : Stands s (inspectOn s).1 := by
  unfold inspectOn
  split
  · split
    · exact stands_refl s
    · exact stands_chainRule.enterChain s _
  · exact stands_refl s

theorem inspectOff_stands (s : Live) : Stands s (inspectOff s).1 := by
  unfold inspectOff
  split
  · exact stands_chainRule.enterChain s _
  all_goals exact stands_refl s

theorem chainStep_stands (n : Nat) (s : Live) : Stands s (chainStep n s).1 := by
  unfold chainStep
  split_ifs
  · exact stands_refl s
  · split
    · exact stands_refl s
    · exact ((stands_chainRule.chain s _).trans (stands_chainRule.driveTo _ .creep)).trans
        (stands_chainRule.enterChain _ _)
  · exact stands_refl s

theorem replacePlaced_stands (s : Live) (old : CallRecord) (f : CallPlaceFields) : Stands s (s.replacePlaced old f) := by
  unfold Live.replacePlaced
  extract_lets c r t u
  have replaced : Stands s t := replaceCall_stands s old r
  have told : Stands t u := stands_ite (stopIfRinging_stands t _ _) (choose_stands t _)
  exact (replaced.trans told).trans (post_stands _ _)

theorem callPlace_stands (f : CallPlaceFields) (s : Live) : Stands s (callPlace f s).1 := by
  unfold callPlace
  split_ifs
  · exact stands_refl s
  · exact stands_refl s
  · split
    · exact replacePlaced_stands s _ f
    · dsimp only
      split_ifs
      · exact join_stands s _
      · exact join_stands s _

theorem callClear_stands (f : Option CallKey) (s : Live) : Stands s (callClear f s).1 := by
  unfold callClear
  split
  · exact stands_refl s
  · split_ifs
    · exact stands_refl s
    · split
      · exact stands_refl s
      · split_ifs
        · exact free_stands s _
        · exact removeCall_stands s _ _

theorem callMask_stands (f : CallMaskFields) (s : Live) : Stands s (callMask f s).1 := by
  unfold callMask
  split_ifs
  · exact stands_refl s
  · exact setMask_stands s _ _
  · exact stands_refl s

theorem speak_stands (p : Port) (f : SpeakFields) (s : Live) : Stands s (speak p f s).1 := by
  unfold speak
  split_ifs
  case neg =>
    extract_lets r e
    have entered : Stands s e.1 := (enterQueue_only s r).stands
    split
    · exact entered
    · exact entered
  all_goals exact stands_refl s

theorem speakCancel_stands (p : Port) (t : Nat) (s : Live) : Stands s (speakCancel p t s).1 := by
  unfold speakCancel
  split_ifs
  · exact stands_refl s
  · exact free_stands s _
  · split
    · split_ifs
      · exact stands_refl s
      · exact ((unqueue_only s t).stands.trans (post_stands _ _)).trans (grants_only _).stands
    · split
      · split_ifs
        · exact stands_refl s
        · exact (stopPlay_only s _ _).stands.trans (grants_only _).stands
      · exact stands_refl s

theorem closingBegin_stands (n : Nat) (s : Live) : Stands s (closingBegin n s).1 := by
  unfold closingBegin
  extract_lets marks
  split_ifs
  · exact stands_refl s
  · exact stands_refl s
  · exact free_stands s _
  · split
    · exact stands_refl s
    · exact ((withClosing_stands s _).trans (postProgramme_stands _ _)).trans (takeDue_stands _ _ _)

theorem closingPostpone_stands (n : Nat) (s : Live) : Stands s (closingPostpone n s).1 := by
  unfold closingPostpone
  split_ifs
  · exact stands_refl s
  · split
    · split
      · exact stands_refl s
      · exact (withClosing_stands s _).trans (postProgramme_stands _ _)
    · exact free_stands s _

theorem closingAbort_stands (s : Live) : Stands s (closingAbort s).1 := by
  unfold closingAbort
  split
  · exact free_stands s _
  all_goals
    exact ((((withClosing_stands s _).trans (withdrawCalls_stands _)).trans (withdrawSpeech_only _).stands).trans
      (stands_chainRule.clearSweep _)).trans (postProgramme_stands _ _)

theorem closingResume_stands (s : Live) : Stands s (closingResume s).1 := by
  unfold closingResume
  split
  · split
    · exact stands_refl s
    · exact ((withClosing_stands s _).trans (postProgramme_stands _ _)).trans (takeDue_stands _ _ _)
  all_goals exact free_stands s _

theorem planOpen_stands (f : PlanOpenFields) (s : Live) : Stands s (planOpen f s).1 := by
  unfold planOpen
  split
  · exact stands_refl s
  · split
    · exact store_stands s _
    · exact stands_refl s

theorem planEntry_stands (f : EntryFrame) (s : Live) : Stands s (planEntry f s).1 := by
  unfold planEntry
  split
  · split
    · exact stands_refl s
    · split
      · exact store_stands s _
      · exact stands_refl s
  · exact stands_refl s

theorem planAdopt_stands (s : Live) : Stands s (planAdopt s).1 := by
  unfold planAdopt
  split
  · exact stands_refl s
  · extract_lets residues
    clear_value residues
    split
    · exact stands_refl s
    · split
      · exact stands_refl s
      · dsimp only
        exact adopt_stands s residues

theorem sampleOpen_stands (ph : Nat) (s : Live) : Stands s (sampleOpen ph s).1 := by
  unfold sampleOpen
  split
  · exact stands_refl s
  · extract_lets e
    split
    · exact stands_refl s
    · exact store_stands s _

theorem sampleData_stands (bytes : List Byte) (s : Live) : Stands s (sampleData bytes s).1 := by
  unfold sampleData
  split
  · split
    · exact free_stands s _
    · exact store_stands s _
  · exact stands_refl s

theorem wearReadClear_stands (p : Port) (s : Live) : Stands s (wearReadClear p s).1 := by
  unfold wearReadClear
  split
  · exact stands_refl s
  · exact stands_of_loop rfl rfl

theorem noticeFetch_stands (p : Port) (s : Live) : Stands s (noticeFetch p s).1 := by
  unfold noticeFetch
  dsimp only
  split
  · exact stands_refl s
  · exact withPort_stands s p _

/-! ## The byte stream, and the timed rows of the Speech Controller -/

theorem frameByteStep_stands (p : Port) (b : Byte) (s : Live) : Stands s (frameByteStep p b s) :=
  stands_ite (withPort_stands s p _) (stands_refl s)

theorem frameGapStep_stands (p : Port) (s : Live) : Stands s (frameGapStep p s) := by
  unfold frameGapStep
  split
  · exact stands_ite (withPort_stands s p _) (stands_refl s)
  · exact stands_refl s

theorem frameDiscardStep_stands (p : Port) (s : Live) : Stands s (frameDiscardStep p s) := by
  unfold frameDiscardStep
  split
  · exact stands_ite (withPort_stands s p _) (stands_refl s)
  · exact stands_refl s

theorem replySentStep_stands (p : Port) (s : Live) : Stands s (replySentStep p s) :=
  stands_ite (withPort_stands s p _) (stands_refl s)

theorem unknownKindStep_stands (p : Port) (code : Byte) (s : Live) : Stands s (unknownKindStep p code s) :=
  stands_ite (((takeFrame_stands s p).trans (breakLoad_stands _ p _)).trans (putReply_stands _ _ _ _ _)) (stands_refl s)

/-! ## Every other command -/

/-- The commands of the scan, of the clock, of the cold start and of sample memory. -/
def Instr.ownsPart : Instr → Bool
  | .coldStart _ | .scan _ | .secondsTick | .sampleWriteDone | .pushBlankingEnd _ _ | .edgeBlankingEnd _ _ => true
  | _ => false

/-- A command left the Field Scanner's record and sample memory. -/
def Quiet (s t : State) : Prop := Stands s.live t.live ∧ t.samples = s.samples

theorem quiet_refl (s : State) : Quiet s s := ⟨stands_refl _, rfl⟩

theorem whenOn_quiet {s t : State} {out : Out} (hout : out = .next t → Quiet s t) (h : whenOn s out = .next t) :
    Quiet s t := by
  unfold whenOn at h
  split at h
  · exact hout h
  · cases h
    exact quiet_refl s

theorem onLive_quiet {s t : State} {f : Live → Live} (hf : ∀ l, Stands l (f l)) (h : onLive s f = .next t) :
    Quiet s t :=
  whenOn_quiet (fun hn => by cases hn; exact ⟨hf _, rfl⟩) h

theorem cut_quiet (s : State) (p : Power) (torn : Bool) : Quiet s (cut s p torn) := ⟨stands_of_loop rfl rfl, rfl⟩

theorem execPowerLoss_quiet {s t : State} (torn : Bool) (h : execPowerLoss torn s = .next t) : Quiet s t := by
  unfold execPowerLoss at h
  split at h
  · cases h; exact quiet_refl s
  · cases h; exact cut_quiet s _ torn

theorem execWearWrite_quiet {s t : State} (h : execWearWrite s = .next t) : Quiet s t :=
  whenOn_quiet (fun hn => by
    split at hn
    · cases hn; exact ⟨stands_of_loop rfl rfl, rfl⟩
    · cases hn; exact quiet_refl s) h

theorem execPhraseEnd_quiet {s t : State} (pl : Player) (h : execPhraseEnd pl s = .next t) : Quiet s t :=
  whenOn_quiet (fun hn => by
    split at hn
    · cases hn; exact ⟨(phraseEndStep_only _ pl _).stands, rfl⟩
    · cases hn) h

theorem execStoreWriteDone_quiet {s t : State} (matched : Bool) (h : execStoreWriteDone matched s = .next t) :
    Quiet s t :=
  whenOn_quiet (fun hn => by
    split at hn
    · cases hn
      exact ⟨((store_stands _ _).trans (putReply_stands _ _ _ _ _)).trans (post_stands _ _), rfl⟩
    · cases hn; exact quiet_refl s) h

theorem execPlanAdopt_quiet {s t : State} (p : Port) (body : Body Unit) (h : execPlanAdopt p body s = .next t) :
    Quiet s t :=
  whenOn_quiet (fun hn => by
    cases hn
    exact ⟨breakingRequest_stands p _ body (fun _ => planAdopt_stands) _, rfl⟩) h

/-- The rows that only act where they are due. -/
theorem stands_whenDue {f : Live → Live} (hf : ∀ l, Stands l (f l)) (due : Live → Bool) (l : Live) :
    Stands l (if due l then f l else l) :=
  stands_ite (hf l) (stands_refl l)

theorem exec_quiet {i : Instr} {s t : State} (hi : Instr.ownsPart i = false) (h : exec i s = .next t) : Quiet s t := by
  have rule := stands_chainRule
  cases i with
  | coldStart x | scan x | secondsTick | sampleWriteDone | pushBlankingEnd p x | edgeBlankingEnd k x => cases hi
  | resetLow torn => exact whenOn_quiet (fun hn => by cases hn; exact cut_quiet s _ torn) h
  | powerLoss torn => exact execPowerLoss_quiet torn h
  | linkPulse phase => exact onLive_quiet (rule.pulse phase) h
  | decelPoint phase => exact onLive_quiet (stands_whenDue (rule.pulse phase) Live.reachesDecel) h
  | stopTargetReached phase => exact onLive_quiet (stands_whenDue (rule.pulse phase) Live.reachesTarget) h
  | sweepEnd phase => exact onLive_quiet (stands_whenDue (rule.pulse phase) Live.reachesSweepEnd) h
  | stepRemainderEnd phase => exact onLive_quiet (stands_whenDue (rule.pulse phase) Live.reachesStepEnd) h
  | missedIndex phase => exact onLive_quiet (stands_whenDue (rule.pulse phase) Live.reachesMissed) h
  | indexPulse => exact onLive_quiet rule.indexStep h
  | chainSettled => exact onLive_quiet rule.chainSettledStep h
  | stall => exact onLive_quiet rule.stallStep h
  | startWarningEnd => exact onLive_quiet rule.startWarningEndStep h
  | warningGongToggle => exact onLive_quiet rule.warningGongStep h
  | sweepGongTimer => exact onLive_quiet rule.sweepGongStep h
  | wearWrite => exact execWearWrite_quiet h
  | reRing key => exact onLive_quiet (reRingStep_stands key) h
  | closingStepDue => exact onLive_quiet (takeDue_stands _ _) h
  | shutterWarningExpiry k =>
    exact onLive_quiet (stands_whenDue (judge_stands · k) (Live.warnExpired · k)) h
  | holdOffExpiry k => exact onLive_quiet (stands_whenDue (judge_stands · k) (Live.holdExpired · k)) h
  | retractExpiry k => exact onLive_quiet (fun l => stands_ite (changeShutter_stands l k _) (stands_refl l)) h
  | pauseExpiry k => exact onLive_quiet (fun l => stands_ite (enterDescending_stands l k _) (stands_refl l)) h
  | descentLimitExpiry k => exact onLive_quiet (fun l => stands_ite (changeShutter_stands l k _) (stands_refl l)) h
  | raiseLimitExpiry k => exact onLive_quiet (fun l => stands_ite (changeShutter_stands l k _) (stands_refl l)) h
  | phaseEnd c => exact onLive_quiet (phaseEndStep_stands c) h
  | itemTimerExpiry pl =>
    exact onLive_quiet (stands_whenDue (f := fun l => (l.endItem pl).grants)
      (fun l => (endItem_only l pl).stands.trans (grants_only _).stands) (Live.itemDue · pl)) h
  | phraseEnd pl => exact execPhraseEnd_quiet pl h
  | ampWaitExpiry ch => exact onLive_quiet (fun l => (ampWaitStep_only ch l).stands) h
  | ampHoldExpiry ch => exact onLive_quiet (fun l => (ampHoldStep_only ch l).stands) h
  | evacuationRestExpiry => exact onLive_quiet (fun l => (evacRestStep_only l).stands) h
  | frameGapTimeout p => exact onLive_quiet (frameGapStep_stands p) h
  | frameDiscard p => exact onLive_quiet (frameDiscardStep_stands p) h
  | replySent p => exact onLive_quiet (replySentStep_stands p) h
  | unknownKind p code => exact onLive_quiet (unknownKindStep_stands p code) h
  | unitRead p body | zoneRead p body | shutterRead p body | chainRead p body | callList p body | speakList p body
  | closingRead p body | wearRead p body | planRead p body | circuitRead p body =>
    exact onLive_quiet (readRequest_stands p _ body _) h
  | wearReadClear p body =>
    exact onLive_quiet (takeRequest_stands p _ _ _ (onBody_stands body fun _ => wearReadClear_stands p)) h
  | noticeFetch p body =>
    exact onLive_quiet (takeRequest_stands p _ _ _ (onBody_stands body fun _ => noticeFetch_stands p)) h
  | planOpen p body => exact onLive_quiet (breakingRequest_stands p _ body planOpen_stands) h
  | planEntry p body => exact onLive_quiet (takeRequest_stands p _ _ _ (onBody_stands body planEntry_stands)) h
  | planClose p body => exact onLive_quiet (breakingRequest_stands p _ body fun _ s => store_stands s _) h
  | planAdopt p body => exact execPlanAdopt_quiet p body h
  | storeWriteDone matched => exact execStoreWriteDone_quiet matched h
  | planDiscard p body => exact onLive_quiet (breakingRequest_stands p _ body fun _ s => store_stands s _) h
  | sampleOpen p body => exact onLive_quiet (breakingRequest_stands p _ body sampleOpen_stands) h
  | sampleData p body => exact onLive_quiet (takeRequest_stands p _ _ _ (onBody_stands body sampleData_stands)) h
  | zoneIsolate p body =>
    exact onLive_quiet (breakingRequest_stands p _ body fun z => onZone_stands (zoneIsolate_stands z) z) h
  | zoneRestore p body =>
    exact onLive_quiet (breakingRequest_stands p _ body fun z => onZone_stands (zoneRestore_stands z) z) h
  | zoneSilence p body =>
    exact onLive_quiet (breakingRequest_stands p _ body fun z => onZone_stands (zoneSilence_stands z) z) h
  | zoneReset p body =>
    exact onLive_quiet (breakingRequest_stands p _ body fun z => onZone_stands (zoneReset_stands z) z) h
  | shutterLower p body =>
    exact onLive_quiet (breakingRequest_stands p _ body fun k => onShutter_stands (shutterLower_stands k) k) h
  | shutterRaise p body =>
    exact onLive_quiet (breakingRequest_stands p _ body fun k => onShutter_stands (shutterRaise_stands k) k) h
  | shutterHalt p body =>
    exact onLive_quiet (breakingRequest_stands p _ body fun k => onShutter_stands (shutterHalt_stands k) k) h
  | chainStart p body => exact onLive_quiet (breakingRequest_stands p _ body fun _ => chainStart_stands) h
  | chainStop p body => exact onLive_quiet (breakingRequest_stands p _ body fun _ => rule.stopChain) h
  | chainInspectOn p body => exact onLive_quiet (breakingRequest_stands p _ body (onRowCode_stands inspectOn_stands)) h
  | chainInspectOff p body => exact onLive_quiet (breakingRequest_stands p _ body (onRowCode_stands inspectOff_stands)) h
  | chainStep p body => exact onLive_quiet (breakingRequest_stands p _ body chainStep_stands) h
  | callPlace p body => exact onLive_quiet (breakingRequest_stands p _ body callPlace_stands) h
  | callClear p body => exact onLive_quiet (breakingRequest_stands p _ body callClear_stands) h
  | callMask p body => exact onLive_quiet (breakingRequest_stands p _ body callMask_stands) h
  | speak p body => exact onLive_quiet (breakingRequest_stands p _ body (speak_stands p)) h
  | speakCancel p body => exact onLive_quiet (breakingRequest_stands p _ body (speakCancel_stands p)) h
  | closingBegin p body => exact onLive_quiet (breakingRequest_stands p _ body closingBegin_stands) h
  | closingPostpone p body => exact onLive_quiet (breakingRequest_stands p _ body closingPostpone_stands) h
  | closingAbort p body => exact onLive_quiet (breakingRequest_stands p _ body fun _ => closingAbort_stands) h
  | closingResume p body => exact onLive_quiet (breakingRequest_stands p _ body fun _ => closingResume_stands) h
  | unitRestart p body => exact onLive_quiet (breakingRequest_stands p _ body fun _ s => stands_of_loop rfl rfl) h
  | warmRestart => exact onLive_quiet (fun l => stands_ite (warmRestart_stands l) (stands_refl l)) h
  | frameByte p byte => exact onLive_quiet (frameByteStep_stands p byte) h

/-! ## The commands that own a part -/

/-- The clock, the module list's numbering and sample memory stand. -/
structure Numbered (s t : State) : Prop where
  seconds : t.live.seconds = s.live.seconds
  samples : t.samples = s.samples
  numbering : t.live.loop.modules.map (fun m => (m.kind, m.first)) = s.live.loop.modules.map fun m => (m.kind, m.first)

theorem Quiet.numbered {s t : State} (h : Quiet s t) : Numbered s t := ⟨h.1.seconds, h.2, by rw [h.1.modules]⟩

/-- A change of the running part alone under which the clock and the module list stand. -/
theorem onLive_numbered {s t : State} {f : Live → Live} (hs : ∀ l, (f l).seconds = l.seconds)
    (hm : ∀ l, (f l).loop.modules = l.loop.modules) (h : onLive s f = .next t) : Numbered s t := by
  unfold onLive whenOn at h
  split at h <;> cases h
  · exact ⟨hs _, rfl, by rw [hm]⟩
  · exact ⟨rfl, rfl, rfl⟩

theorem pushBlankingEndStep_list (p : Nat) (x : PushState) (s : Live) : ListStands s (pushBlankingEndStep p x s) :=
  listStands_ite ((putPush_list s p _).trans (firstAfterBlanking_list p x _)) (listStands_refl s)

theorem edgeBlankingEndStep_list (k : Nat) (x : Bool) (s : Live) : ListStands s (edgeBlankingEndStep k x s) :=
  listStands_ite ((putGear_list s k _).trans (sampleEdge_list k x _)) (listStands_refl s)

/-- The bytes of a sample write reach sample memory and the plan store alone (R22). -/
theorem writeSamples_frame (s : State) (n : Nat) :
    onlyParts [.store] s.live (s.writeSamples n).live ∧ (s.writeSamples n).pending = s.pending ∧
      (s.writeSamples n).power = s.power ∧ (s.writeSamples n).nv = s.nv := by
  unfold State.writeSamples
  split
  · refine ⟨fun p hp => ?_, rfl, rfl, rfl⟩
    cases p <;> simp_all [samePart]
  · exact ⟨onlyParts_refl _ _, rfl, rfl, rfl⟩

theorem execSampleWriteDone_stands {s t : State} (h : execSampleWriteDone s = .next t) : Stands s.live t.live := by
  unfold execSampleWriteDone whenOn at h
  split at h
  case isFalse => cases h; exact stands_refl _
  split at h
  case h_1 => cases h; exact stands_refl _
  case h_2 bytes _ =>
    split at h
    case isFalse => cases h
    cases h
    have wrote := (writeSamples_frame s bytes.length).1
    have start : Stands s.live (s.writeSamples bytes.length).live :=
      stands_of_loop (wrote .clock (by decide)).1 (wrote .loop (by decide))
    refine start.trans ?_
    unfold sampleDoneReply
    dsimp only
    split
    · exact (store_stands _ _).trans (putReply_stands _ _ _ _ _)
    · exact stands_refl _

theorem execScan_numbering {s t : State} (i : ScanInput) (h : execScan i s = .next t) :
    t.live.seconds = s.live.seconds ∧
      t.live.loop.modules.map (fun m => (m.kind, m.first)) = s.live.loop.modules.map fun m => (m.kind, m.first) := by
  unfold execScan whenOn at h
  split at h
  case isFalse => cases h; exact ⟨rfl, rfl⟩
  split at h
  case isFalse => cases h
  cases h
  have wrote := (writeSamples_frame s i.bytesWritten).1
  refine ⟨((scanStep_only _ i _) .clock (by decide)).1.trans (wrote .clock (by decide)).1, ?_⟩
  rw [scanStep_numbering, wrote .loop (by decide)]

/-- Settles O21. -/
theorem whatOnlyItsOwnCommandChanges : Obligations.WhatOnlyItsOwnCommandChanges := by
  intro i s t h
  by_cases own : Instr.ownsPart i = true
  case neg =>
    obtain ⟨seconds, samples, numbering⟩ := (exec_quiet (Bool.eq_false_iff.mpr own) h).numbered
    exact ⟨fun _ _ => seconds, fun _ _ => samples, fun _ => numbering⟩
  cases i with
  | coldStart x =>
    refine ⟨fun _ hc => absurd rfl (hc x), fun _ _ => ?_, fun hc => absurd rfl (hc x)⟩
    cases h
    rfl
  | scan x =>
    obtain ⟨seconds, numbering⟩ := execScan_numbering x h
    exact ⟨fun _ _ => seconds, fun hs => absurd rfl (hs x), fun _ => numbering⟩
  | secondsTick =>
    refine ⟨fun ht => absurd rfl ht, fun _ _ => ?_, fun _ => ?_⟩ <;>
    · change onLive s secondsTickStep = _ at h
      unfold onLive whenOn secondsTickStep at h
      split_ifs at h <;> cases h <;> rfl
  | sampleWriteDone =>
    have stands := execSampleWriteDone_stands h
    exact ⟨fun _ _ => stands.seconds, fun _ hw => absurd rfl hw, fun _ => by rw [stands.modules]⟩
  | pushBlankingEnd p x =>
    obtain ⟨seconds, samples, numbering⟩ := onLive_numbered
      (fun l => ((pushBlankingEndStep_only p x l).parts .clock (by decide)).1)
      (fun l => (pushBlankingEndStep_list p x l).1) h
    exact ⟨fun _ _ => seconds, fun _ _ => samples, fun _ => numbering⟩
  | edgeBlankingEnd k x =>
    obtain ⟨seconds, samples, numbering⟩ := onLive_numbered
      (fun l => ((edgeBlankingEndStep_only k x l).parts .clock (by decide)).1)
      (fun l => (edgeBlankingEndStep_list k x l).1) h
    exact ⟨fun _ _ => seconds, fun _ _ => samples, fun _ => numbering⟩
  | _ => cases own

end Sys2Proof.Machine

/-! # One scan, the 10 ms it passes, and the first sample after blanking -/

namespace Sys2Proof.Machine

/-! ## SCAN as a whole -/

theorem execScan_inMemory {s : State} (i : ScanInput) (hp : s.power = .on) (hm : s.live.scanInMemory = true) :
    exec (.scan i) s = .next { s.writeSamples i.bytesWritten with
      live := scanStep (s.writeSamples i.bytesWritten).samples i (s.writeSamples i.bytesWritten).live } := by
  simp only [exec, execScan, whenOn, hp, hm, if_true]

theorem execScan_beyondMemory {s : State} (i : ScanInput) (hp : s.power = .on) (hm : s.live.scanInMemory = false) :
    exec (.scan i) s = .fault .sampleAddress := by
  simp [exec, execScan, whenOn, hp, hm]

/-- On an empty module list, with the pins at the states they hold, a scan is the passing of 10 ms but for the inputs. -/
theorem scanStep_ofNoModule (cells : List Host.Cell) (i : ScanInput) (s : Live) (hm : s.loop.modules = [])
    (ht : i.pins.flapTop = s.loop.flapTop.value) (hb : i.pins.flapBottom = s.loop.flapBottom.value)
    (hs : i.pins.slow = s.loop.slow.value) : onlyParts [.loop] (s.advance cells) (scanStep cells i s) := by
  have pins := scanPins_same (s := s.advance cells) (p := i.pins) ht hb hs
  have none : (s.advance cells).scanModules i.replies = s.advance cells := by
    rw [scanModules_eq, show (s.advance cells).loop.modules = [] from hm]
    rfl
  unfold scanStep
  rw [none, pins]
  intro q hq
  cases q <;> simp_all [samePart]

/-! ## A press enters its call -/

/-- The record of a key stands but for its state: a circuit may have begun or given up its ring. -/
def CallStands (key : CallKey) (s t : Live) : Prop :=
  ∀ r, s.call key = some r → ∃ st, t.call key = some { r with state := st }

theorem callStands_of_calls {key : CallKey} {s t : Live} (h : t.calls = s.calls) : CallStands key s t := fun r hr =>
  ⟨r.state, by simpa only [Live.call, h] using hr⟩

theorem CallStands.trans {key : CallKey} {s t u : Live} (h : CallStands key s t) (g : CallStands key t u) :
    CallStands key s u := fun r hr => by
  obtain ⟨st, ht⟩ := h r hr
  obtain ⟨st', hu⟩ := g _ ht
  exact ⟨st', hu⟩

/-- Changing the state of one record changes no key. -/
theorem updateState_callStands (key k : CallKey) (st : CallState) (s : Live) :
    CallStands key s (s.updateCall k fun r => { r with state := st }) := fun r hr => by
  have keys : (hasKey key ∘ fun r : CallRecord => if hasKey k r then { r with state := st } else r) = hasKey key := by
    funext x
    simp only [Function.comp]
    split <;> rfl
  have hr : s.calls.find? (hasKey key) = some r := hr
  simp only [Live.call, Live.updateCall_calls, List.find?_map, keys, hr, Option.map_some]
  split
  · exact ⟨st, rfl⟩
  · exact ⟨r.state, rfl⟩

theorem writeSounder_calls (s : Live) (c : Nat) (on : Bool) : (s.writeSounder c on).calls = s.calls :=
  (writeSounder_only s c on).parts .calls (by decide)

theorem beginRing_callStands (key : CallKey) (s : Live) (c : Nat) (r : CallRecord) :
    CallStands key s (s.beginRing c r) := by
  unfold Live.beginRing
  extract_lets g t
  have placed : CallStands key s t := callStands_of_calls rfl
  have sounded : CallStands key t (t.writeSounder c true) := callStands_of_calls (writeSounder_calls t c true)
  exact (placed.trans sounded).trans (updateState_callStands key r.key .ringing _)

theorem choose_callStands (key : CallKey) (s : Live) (c : Nat) : CallStands key s (s.choose c) := by
  unfold Live.choose
  split
  · exact callStands_of_calls rfl
  · split
    · exact beginRing_callStands key s c _
    · exact callStands_of_calls rfl

theorem tellCircuit_callStands (key : CallKey) (s : Live) (r : CallRecord) : CallStands key s (s.tellCircuit r) := by
  unfold Live.tellCircuit
  split
  · split
    · exact (updateState_callStands key _ .waiting s).trans (beginRing_callStands key _ _ _)
    · exact callStands_of_calls rfl
  · exact choose_callStands key s _

theorem indicatorOn_calls (s : Live) (key : CallKey) : (indicatorOn s key).calls = s.calls := by
  unfold indicatorOn
  split
  · exact (writeIndicator_only s _ _).parts .calls (by decide)
  · rfl

/-- A record inserted is found by its key where none stood with it. -/
theorem find_insertCall (r : CallRecord) (l : List CallRecord) (h : l.find? (hasKey r.key) = none) :
    (insertCall r l).find? (hasKey r.key) = some r := by
  have own : hasKey r.key r = true := by simp [hasKey]
  induction l with
  | nil => simp [insertCall, own]
  | cons x rest ih =>
    obtain ⟨other, later⟩ : hasKey r.key x = false ∧ rest.find? (hasKey r.key) = none := by
      cases hx : hasKey r.key x <;> simp_all
    unfold insertCall
    split
    · simp [other, ih later]
    · simp [own]

/-- A record that finds room, and whose key none has, is found in the list with its own fields (R121, R122). -/
theorem join_call {s : Live} {r : CallRecord} (room : s.calls.length < 32) (fresh : s.call r.key = none) :
    ∃ st, (s.join r).1.call r.key = some { r with state := st } := by
  have made : s.makeRoom r = (s, true) := if_pos room
  unfold Live.join
  simp only [made, if_true]
  refine ((callStands_of_calls (indicatorOn_calls _ _)).trans (tellCircuit_callStands r.key _ r)) r ?_
  exact find_insertCall r s.calls fresh

/-- A press of a present push without a call enters its call (R124). -/
theorem press_call {s : Live} {p : Nat} (present : (s.plan.push p).present = true) (fresh : s.call (.push p) = none)
    (room : s.calls.length < 32) : ∃ r, (s.press p).call (.push p) = some r ∧ r.presses = 1 ∧
      r.level = (s.plan.push p).level ∧ r.circuit = (s.plan.push p).circuit := by
  obtain ⟨st, joined⟩ := join_call (r := newCall s (.push p) (s.plan.push p).circuit (s.plan.push p).level
    (.coded (s.plan.push p).code) true 1 none) room fresh
  have entered : s.press p = (s.join (newCall s (.push p) (s.plan.push p).circuit (s.plan.push p).level
      (.coded (s.plan.push p).code) true 1 none)).1 := by
    simp only [Live.press, present, if_true, fresh]
  rw [entered]
  exact ⟨_, joined, rfl, rfl, rfl⟩

/-! ## The first sample after blanking (R8, R9) -/

theorem pushInput_putPush {s : Live} {p : Nat} (i : PushInput) (hp : p < 64) : (s.putPush p i).pushInput p = i :=
  Bank.read_put_same _ _ _ _ hp

theorem input_putGear {s : Live} {k : Nat} (i : GearInput) (hk : k < 32) : (s.putGear k i).input k = i :=
  Bank.read_put_same _ _ _ _ hk

theorem putPush_only (s : Live) (p : Nat) (i : PushInput) : Keeps [.loop] s (s.putPush p i) :=
  keeps_of (by intro q hq; cases q <;> simp_all [samePart]) rfl rfl

theorem putGear_only (s : Live) (k : Nat) (i : GearInput) : Keeps [.loop] s (s.putGear k i) :=
  keeps_of (by intro q hq; cases q <;> simp_all [samePart]) rfl rfl

/-- While the end of a line's blanking is not due its row does nothing. -/
theorem execPushBlankingEnd_idle {s : State} {p : Nat} (x : PushState) (h : (s.live.pushInput p).blank ≠ some 0) :
    exec (.pushBlankingEnd p x) s = .next s := by
  simp only [exec, execPushBlankingEnd, onLive, whenOn, pushBlankingEndStep, if_neg h, ite_self]

theorem execPushBlankingEnd_due {s : State} {p : Nat} (x : PushState) (hp : s.power = .on)
    (h : (s.live.pushInput p).blank = some 0) : exec (.pushBlankingEnd p x) s =
      .next { s with
        live := firstAfterBlanking p x (s.live.putPush p { s.live.pushInput p with blank := none }) } := by
  simp only [exec, execPushBlankingEnd, onLive, whenOn, pushBlankingEndStep, if_pos h, if_pos hp]

theorem execEdgeBlankingEnd_idle {s : State} {k : Nat} (x : Bool) (h : (s.live.input k).blank ≠ some 0) :
    exec (.edgeBlankingEnd k x) s = .next s := by
  simp only [exec, execEdgeBlankingEnd, onLive, whenOn, edgeBlankingEndStep, if_neg h, ite_self]

theorem execEdgeBlankingEnd_due {s : State} {k : Nat} (x : Bool) (hp : s.power = .on)
    (h : (s.live.input k).blank = some 0) : exec (.edgeBlankingEnd k x) s =
      .next { s with live := sampleEdge k x (s.live.putGear k { s.live.input k with blank := none }) } := by
  simp only [exec, execEdgeBlankingEnd, onLive, whenOn, edgeBlankingEndStep, if_pos h, if_pos hp]

/-- The first sample after a push's blanking is a PRESS: the line stands at PRESS, and the press is handed (R8). -/
theorem firstAfterBlanking_press {s : Live} {p : Nat} (hp : p < 64) :
    ((firstAfterBlanking p .press s).pushInput p).line.value = .press ∧
      onlyParts [.loop, .calls, .circuits, .image, .portC, .portF] s (firstAfterBlanking p .press s) := by
  simp only [firstAfterBlanking, if_true]
  refine ⟨?_, ?_⟩
  · rw [(pushChange_stands _ p _ _).line, pushInput_putPush _ hp]
    rfl
  · exact onlyParts_trans (onlyParts_widen (putPush_only s p _).parts)
      (onlyParts_widen (pushChange_only _ p _ _).parts)

theorem firstAfterBlanking_press_call {s : Live} {p : Nat} (present : (s.plan.push p).present = true)
    (fresh : s.call (.push p) = none) (room : s.calls.length < 32) :
    ∃ r, (firstAfterBlanking p .press s).call (.push p) = some r ∧ r.presses = 1 ∧
      r.level = (s.plan.push p).level ∧ r.circuit = (s.plan.push p).circuit := by
  simp only [firstAfterBlanking, if_true, Live.pushChange]
  generalize hu : Live.postIf _ _ _ = u
  have keeps : Keeps [.loop, .portC, .portF] s u :=
    hu ▸ Keeps.next (keeps_widen (putPush_only s p _)) (postIf_only _ _ _)
  have store : u.store = s.store := keeps.parts .store (by decide)
  have calls : u.calls = s.calls := keeps.parts .calls (by decide)
  have entered := press_call (s := u) (p := p) (by simpa only [Live.plan, store] using present)
    (by simpa only [Live.call, calls] using fresh) (by simpa only [calls] using room)
  simpa only [Live.plan, store] using entered

/-- Settled at the state it holds, a line that has ended its blanking only starts its count again (R8). -/
theorem firstAfterBlanking_held {s : Live} {p : Nat} (hx : (s.pushInput p).line.value ≠ .press) :
    firstAfterBlanking p (s.pushInput p).line.value s =
      s.putPush p { s.pushInput p with line := { (s.pushInput p).line with run := 0 } } := by
  simp only [firstAfterBlanking, if_neg hx, debouncePush, Debounced.sample_value, if_true]

/-- Short of the figure, a sample of the EDGE hands nothing on. -/
theorem sampleEdge_counts {s : Live} {k : Nat} {x : Bool}
    (h : ((s.input k).edge.sample Config.debounceContact x).value = (s.input k).edge.value) :
    sampleEdge k x s =
      s.putGear k { s.input k with edge := (s.input k).edge.sample Config.debounceContact x } := by
  simp only [sampleEdge, h, Bool.and_not_self, Bool.false_eq_true, if_false]

end Sys2Proof.Machine

namespace Sys2Proof.Machine

/-! ## The 10 ms of a scan, timer by timer -/

/-- A timer that has not passed its limit runs 10 ms and stands at the limit. -/
theorem runTo_of_le {limit n : Nat} (h : n ≤ limit) : runTo limit n = min limit (n + 10) := by
  simp only [runTo, Config.scanMs]
  omega

theorem runOpt_runs (limit : Nat) (x : Option Nat) :
    (x = none → runOpt limit x = none) ∧ (∀ n, x = some n → n ≤ limit → runOpt limit x = some (min limit (n + 10))) := by
  constructor
  · rintro rfl
    rfl
  · rintro n rfl hn
    simp only [runOpt, Option.map_some, runTo_of_le hn]

theorem Bank.read_map {n : Nat} {α β : Type} (f : α → β) (b : Bank n α) {i : Nat} (d : α) (e : β) (h : i < n) :
    (b.map f).read i e = f (b.read i d) := by
  have hi : i < b.rows.length := by rw [b.size]; exact h
  simp [Bank.read, Bank.map, List.getD, hi]

theorem advance_shutter (s : Live) (cells : List Host.Cell) {k : Nat} (hk : k < 32) :
    (s.advance cells).shutter k = s.advanceShutter k :=
  Bank.read_build 32 s.advanceShutter k _ hk

theorem advance_circuit (s : Live) (cells : List Host.Cell) {c : Nat} (hc : c < 16) :
    (s.advance cells).circuit c = (s.circuit c).advance :=
  Bank.read_map CircuitRecord.advance s.circuits _ _ hc

theorem advance_channel (s : Live) (cells : List Host.Cell) {ch : Nat} (hc : ch < 8) :
    (s.advance cells).channel ch = (s.channel ch).advance :=
  Bank.read_map Channel.advance s.speech.channels _ _ hc

theorem advance_player (s : Live) (cells : List Host.Cell) (pl : Player) :
    (s.advance cells).player pl = (s.player pl).advance cells := by
  cases pl <;> rfl

theorem advance_port (s : Live) (cells : List Host.Cell) (p : Port) :
    (s.advance cells).port p = (s.port p).advance := by
  cases p <;> rfl

/-- Section 6.1: which of a shutter's timers run in which state. -/
theorem advanceShutter_timers (s : Live) (k : Nat) :
    let r := s.shutter k
    let u := s.advanceShutter k
    let e := s.plan.shutter k
    u = { r with
      warnTimer := u.warnTimer, holdTimer := u.holdTimer, travelTimer := u.travelTimer, phaseTimer := u.phaseTimer } ∧
    u.warnTimer = runOpt (s.warnLimit k) r.warnTimer ∧ u.holdTimer = runOpt s.holdLimit r.holdTimer ∧
    (r.state = .descending → u.travelTimer = runOpt (1000 * e.descentLimit + 10) r.travelTimer) ∧
    (r.state = .raising → u.travelTimer = runOpt (2000 * e.descentLimit + 10) r.travelTimer) ∧
    (r.state ≠ .descending → r.state ≠ .raising → u.travelTimer = r.travelTimer) ∧
    (r.state = .lifting → u.phaseTimer = runOpt e.retract r.phaseTimer) ∧
    (r.state = .paused → u.phaseTimer = runOpt (1000 * e.pause) r.phaseTimer) ∧
    (r.state ≠ .lifting → r.state ≠ .paused → u.phaseTimer = r.phaseTimer) := by
  unfold Live.advanceShutter
  dsimp only
  generalize s.shutter k = r
  obtain ⟨state, _, _, _, _, _, _, _, _, _, _, _⟩ := r
  cases state <;> simp [Config.scanMs]

/-- R152: a player with no pointer puts out nothing, and one with a phrase its next 80 samples or those that are left. -/
theorem advance_sound (cells : List Host.Cell) (c : PlayerContext) :
    (c.pointer = none → (c.advance cells).pointer = none ∧ (c.advance cells).remaining = c.remaining ∧
      (c.advance cells).sound = []) ∧
    (∀ a n, c.pointer = some a → c.remaining = some n →
      (c.advance cells).sound = (List.range (min 80 n)).map (fun j => readSample cells (a + j)) ∧
      (c.advance cells).pointer = some (a + min 80 n) ∧ (c.advance cells).remaining = some (n - min 80 n) ∧
      (c.advance cells).spare = 80 - min 80 n) := by
  constructor
  · intro h
    simp [PlayerContext.advance, PlayerContext.putOut, h]
  · intro a n ha hn
    simp [PlayerContext.advance, PlayerContext.putOut, PlayerContext.playing, readSamples, Config.samplesPerScan, ha, hn]

/-- A player's period changes its item timer and what it puts out. -/
theorem advance_playerFrame (cells : List Host.Cell) (c : PlayerContext) :
    let d := c.advance cells
    d = { c with pointer := d.pointer, remaining := d.remaining, itemTimer := d.itemTimer, sound := d.sound,
                 spare := d.spare } ∧
    d.itemTimer = runOpt 5000 c.itemTimer := by
  unfold PlayerContext.advance PlayerContext.putOut
  dsimp only
  split <;> exact ⟨rfl, rfl⟩

theorem advance_ring (c : CircuitRecord) :
    c.advance = { c with ring := c.advance.ring } ∧ (c.ring = none → c.advance.ring = none) ∧
    (∀ x, c.ring = some x → x.timer ≤ phaseLength x.pattern x.phase →
      c.advance.ring = some { x with timer := min (phaseLength x.pattern x.phase) (x.timer + 10) }) := by
  refine ⟨rfl, fun h => ?_, fun x h hx => ?_⟩
  · simp only [CircuitRecord.advance, h, Option.map_none]
  · simp only [CircuitRecord.advance, h, Option.map_some, runTo_of_le hx]

theorem advance_interval (m : ChainMonitor) :
    (m.intervalTimer = none → m.advance.intervalTimer = none) ∧
    (∀ n : Int, m.intervalTimer = some n → n ≤ 65535 → m.advance.intervalTimer = some (min 65535 (n + 100))) := by
  refine ⟨fun h => ?_, fun n h hn => ?_⟩
  · simp only [ChainMonitor.advance, h, Option.map_none]
  · simp only [ChainMonitor.advance, h, Option.map_some, Config.intervalTop, Config.ticksPerScan, Option.some.injEq]
    omega

/-- The module list's part of a scan (R3, R10, R11). -/
theorem scanStep_module (cells : List Host.Cell) (i : ScanInput) (s : Live) {pos : Nat} {m : ModuleRecord}
    (h : s.loop.modules[pos]? = some m) :
    let reply := i.replies.getD pos none
    let t := scanStep cells i s
    let after := fun n : ModuleRecord => t.loop.modules[pos]? = some n
    (∀ r, reply = some r → replyKind r = m.kind → after { m with present := true, missed := 0 } ∧
      (m.present = false → t.offered (.moduleFound pos m.kind))) ∧
    ((∀ r, reply = some r → replyKind r ≠ m.kind) →
      (m.present = true → m.missed < 2 → after { m with missed := m.missed + 1 }) ∧
      (m.present = true → 2 ≤ m.missed → after { m with present := false, missed := 3 } ∧
        t.offered (.moduleLost pos m.kind)) ∧
      (m.present = false → after m)) := by
  intro reply t after
  have listed : t.loop.modules[pos]? = some (m.answered (m.valid reply)) := by
    rw [show t.loop.modules[pos]? = _ from scanStep_modules cells i s pos, h]
    rfl
  have inside : pos < (s.advance cells).loop.modules.length := (List.getElem?_eq_some_iff.mp h).1
  have turn : ((s.advance cells).scanBefore i.replies pos).loop.modules[pos]? = some m := by
    rw [scanBefore_modules, show (s.advance cells).loop.modules[pos]? = some m from h]
    simp
  -- what a module's own exchange offers stands offered at the end of the scan
  have offered : ∀ n, (((s.advance cells).scanBefore i.replies pos).scanModule pos reply).offered n → t.offered n := by
    intro n hn
    obtain ⟨rest, hrest⟩ := Nat.exists_eq_add_of_le inside
    have later := scanBefore_only (s.advance cells) i.replies (pos + 1) rest
    rw [scanBefore_succ, ← hrest] at later
    exact (scanPins_only _ i.pins).offered (later.offered hn)
  refine ⟨fun r hr kind => ?_, fun invalid => ?_⟩
  · have valid : m.valid reply = some r := by simp [ModuleRecord.valid, hr, kind]
    refine ⟨by rw [valid] at listed; exact listed, fun lost => offered _ ?_⟩
    rw [hr]
    exact scanModule_moduleFound turn kind lost
  · have valid : m.valid reply = none := by
      cases hr : reply with
      | none => rfl
      | some r => exact if_neg (invalid r hr)
    rw [valid] at listed
    refine ⟨fun present few => ?_, fun present third => ⟨?_, offered _ (scanModule_moduleLost turn valid present third)⟩,
      fun lost => ?_⟩
    · have : ¬ Config.missedLimit ≤ m.missed + 1 := by simp only [Config.missedLimit]; omega
      simpa only [ModuleRecord.answered, present, if_true, if_neg this] using listed
    · have : Config.missedLimit ≤ m.missed + 1 := by simp only [Config.missedLimit]; omega
      simp only [ModuleRecord.answered, present, if_true, if_pos this] at listed
      exact listed
    · simpa only [ModuleRecord.answered, lost, Bool.false_eq_true, if_false] using listed

/-- A scan at a loop of no module, with the pins at the states they hold: the 10 ms of any scan and the inputs. -/
theorem execScan_ofNoModule {s : State} {i : ScanInput} (none : s.live.loop.modules = [])
    (top : i.pins.flapTop = s.live.loop.flapTop.value) (bottom : i.pins.flapBottom = s.live.loop.flapBottom.value)
    (slow : i.pins.slow = s.live.loop.slow.value) :
    let w := s.writeSamples i.bytesWritten
    let t := scanStep w.samples i w.live
    onlyParts [.loop] (w.live.advance w.samples) t ∧
    (∀ n, s.live.monitor.settleTimer = some n → n ≤ 990 → t.monitor.settleTimer = some (n + 10)) ∧
    (∀ n, s.live.chain.warnTimer = some n → n + 10 ≤ 1000 * s.live.plan.geometry.startWarning →
      t.chain.warnTimer = some (n + 10)) ∧
    onlyParts [.loop, .gear, .circuits, .speech, .chain, .monitor, .store, .portC, .portF] s.live t := by
  intro w t
  have wrote : onlyParts [.store] s.live w.live := (writeSamples_frame s i.bytesWritten).1
  have loop : w.live.loop = s.live.loop := wrote .loop (by decide)
  have passed : onlyParts [.loop] (w.live.advance w.samples) t :=
    scanStep_ofNoModule w.samples i w.live (by rw [loop]; exact none) (by rw [loop]; exact top)
      (by rw [loop]; exact bottom) (by rw [loop]; exact slow)
  refine ⟨passed, fun n hn hl => ?_, fun n hn hl => ?_, ?_⟩
  · have monitor : t.monitor = w.live.monitor.advance := passed .monitor (by decide)
    have start : w.live.monitor = s.live.monitor := wrote .monitor (by decide)
    rw [monitor, start, show s.live.monitor.advance.settleTimer = runOpt 1000 s.live.monitor.settleTimer from rfl,
      (runOpt_runs 1000 _).2 n hn (by omega), Nat.min_eq_right (by omega)]
  · have chain : t.chain = w.live.chain.advance w.live.plan := passed .chain (by decide)
    have start : w.live.chain = s.live.chain := wrote .chain (by decide)
    have plan : w.live.plan = s.live.plan := by
      simp only [w, State.writeSamples]
      split <;> rfl
    rw [chain, start, plan, show (s.live.chain.advance s.live.plan).warnTimer =
      runOpt (1000 * s.live.plan.geometry.startWarning) s.live.chain.warnTimer from rfl,
      (runOpt_runs _ _).2 n hn (by omega), Nat.min_eq_right (by omega)]
  · exact onlyParts_trans (onlyParts_trans (onlyParts_widen wrote) (onlyParts_widen (advance_only _ w.samples)))
      (onlyParts_widen passed)

/-- The end of a push line's blanking where it is due (R8). -/
theorem execPushBlankingEnd_first {s : State} {p : Nat} (on : s.power = .on) (hp : p < 64)
    (h : (s.live.pushInput p).blank = some 0) :
    (∃ t, exec (.pushBlankingEnd p .press) s = .next t ∧ (t.live.pushInput p).line.value = .press ∧
      ((s.live.plan.push p).present = true → s.live.call (.push p) = none → s.live.calls.length < 32 →
        ∃ r, t.live.call (.push p) = some r ∧ r.presses = 1 ∧ r.level = (s.live.plan.push p).level ∧
          r.circuit = (s.live.plan.push p).circuit) ∧
      changesOnly [.loop, .calls, .circuits, .image, .portC, .portF] s t) ∧
    ((s.live.pushInput p).line.value ≠ .press →
      ∃ t, exec (.pushBlankingEnd p (s.live.pushInput p).line.value) s = .next t ∧
        t.live.pushInput p = ⟨{ (s.live.pushInput p).line with run := 0 }, none⟩ ∧ changesOnly [.loop] s t) := by
  have put := putPush_only s.live p { s.live.pushInput p with blank := none }
  constructor
  · obtain ⟨pressed, frame⟩ := firstAfterBlanking_press hp
      (s := s.live.putPush p { s.live.pushInput p with blank := none })
    exact ⟨_, execPushBlankingEnd_due .press on h, pressed,
      fun present fresh room => firstAfterBlanking_press_call present fresh room,
      ⟨rfl, rfl, rfl, rfl⟩, onlyParts_trans (onlyParts_widen put.parts) frame⟩
  · intro value
    have line := pushInput_putPush (s := s.live) { s.live.pushInput p with blank := none } hp
    have held := firstAfterBlanking_held (s := s.live.putPush p { s.live.pushInput p with blank := none }) (p := p)
      (by rw [line]; exact value)
    rw [line] at held
    refine ⟨_, execPushBlankingEnd_due _ on h, ?_, ⟨rfl, rfl, rfl, rfl⟩, ?_⟩ <;> dsimp only at held ⊢ <;> rw [held]
    · exact pushInput_putPush _ hp
    · exact onlyParts_trans put.parts (putPush_only _ p _).parts

/-- The end of an EDGE's blanking where it is due (R9). -/
theorem execEdgeBlankingEnd_first {s : State} {k : Nat} (on : s.power = .on) (hk : k < 32)
    (h : (s.live.input k).blank = some 0) :
    let e := s.live.input k
    (∃ t, exec (.edgeBlankingEnd k e.edge.value) s = .next t ∧
      t.live.input k = { e with edge := { e.edge with run := 0 }, blank := none } ∧ changesOnly [.loop] s t) ∧
    (∀ x, x ≠ e.edge.value → e.edge.run = 0 → ∃ t, exec (.edgeBlankingEnd k x) s = .next t ∧
      t.live.input k = { e with edge := ⟨e.edge.value, x, 1⟩, blank := none } ∧ changesOnly [.loop] s t) := by
  intro e
  have put := putGear_only s.live k { e with blank := none }
  have input := input_putGear (s := s.live) { e with blank := none } hk
  -- a sample that leaves the debounced state only counts
  have counts : ∀ x d, e.edge.sample Config.debounceContact x = d → d.value = e.edge.value →
      ∃ t, exec (.edgeBlankingEnd k x) s = .next t ∧ t.live.input k = { e with edge := d, blank := none } ∧
        changesOnly [.loop] s t := by
    rintro x d rfl value
    have sampled := sampleEdge_counts (s := s.live.putGear k { e with blank := none }) (k := k) (x := x)
      (by rw [input]; exact value)
    rw [input] at sampled
    refine ⟨_, execEdgeBlankingEnd_due x on h, ?_, ⟨rfl, rfl, rfl, rfl⟩, ?_⟩ <;> dsimp only at sampled ⊢ <;> rw [sampled]
    · exact input_putGear _ hk
    · exact onlyParts_trans put.parts (putGear_only _ k _).parts
  refine ⟨counts _ _ (Debounced.sample_value _ _) rfl, fun x hx run => counts x _ ?_ rfl⟩
  exact Debounced.sample_counts hx (by simp only [run, Nat.zero_add, ite_self]) (by decide)

/-- Settles O58. -/
theorem scanAndBlanking : Obligations.ScanAndBlanking := by
  intro s on
  refine ⟨fun i hm => execScan_beyondMemory i on hm, fun i hm => ⟨_, execScan_inMemory i on hm, ?_⟩,
    fun p hp => ⟨fun h x => execPushBlankingEnd_idle x h, execPushBlankingEnd_first on hp⟩,
    fun k hk => ⟨fun h x => execEdgeBlankingEnd_idle x h, execEdgeBlankingEnd_first on hk⟩, ?_⟩
  · obtain ⟨wrote, pending, power, nv⟩ := writeSamples_frame s i.bytesWritten
    have loop : (s.writeSamples i.bytesWritten).live.loop = s.live.loop := wrote .loop (by decide)
    refine ⟨fun pos m h => scanStep_module _ i _ (by rw [loop]; exact h), fun none top bottom slow => ?_, nv, pending⟩
    obtain ⟨passed, settle, warn, frame⟩ := execScan_ofNoModule none top bottom slow
    exact ⟨passed, settle, warn, ⟨pending, power, rfl, nv⟩, frame⟩
  · intro m l t g runs
    refine ⟨advance_only l m, rfl, fun k hk => ?_, fun c hc => ?_, fun ch hc => ?_, rfl, runOpt_runs _ _, fun pl => ?_,
      rfl, runOpt_runs _ _, runOpt_runs _ _, runOpt_runs _ _, rfl, runOpt_runs _ _, (advance_interval _).1,
      (advance_interval _).2, fun p => ?_⟩
    · obtain ⟨frame, warn, hold, descends, raises, travels, lifts, pauses, phases⟩ := advanceShutter_timers l k
      rw [show t.shutter k = l.advanceShutter k from advance_shutter l m hk]
      exact ⟨frame, warn ▸ runOpt_runs _ _, hold ▸ runOpt_runs _ _, fun st => descends st ▸ runOpt_runs _ _,
        fun st => raises st ▸ runOpt_runs _ _, travels, fun st => lifts st ▸ runOpt_runs _ _,
        fun st => pauses st ▸ runOpt_runs _ _, phases⟩
    · rw [show t.circuit c = _ from advance_circuit l m hc]
      exact advance_ring _
    · rw [show t.channel ch = _ from advance_channel l m hc]
      exact ⟨rfl, runOpt_runs _ _, runOpt_runs _ _⟩
    · rw [show t.player pl = _ from advance_player l m pl]
      obtain ⟨frame, item⟩ := advance_playerFrame m (l.player pl)
      obtain ⟨silent, sounds⟩ := advance_sound m (l.player pl)
      exact ⟨frame, item ▸ runOpt_runs _ _, silent, sounds⟩
    · rw [show t.port p = _ from advance_port l m p]
      exact ⟨rfl, runTo_of_le⟩

end Sys2Proof.Machine

/-! # What a scan sends to each module, holds under blanking, takes for lost and hands on -/

namespace Sys2Proof.Machine

/-! ## Messages and outputs -/

/-- The message to a module whose points are numbered from `f` carries the image at those points (R2, R12). -/
theorem messageTo_carries (g : Image) (f missed : Nat) (present : Bool) :
    let message := fun k => g.messageTo ⟨k, present, missed, some f⟩
    message .call = .call ((List.range 8).map fun j => g.indicators.read (f + j) false) ∧
    message .shutter = .shutter ((List.range 2).map fun j => ⟨g.release.read (f + j) false,
      g.brake.read (f + j) false, g.wind.read (f + j) false, g.warn.read (f + j) false⟩) ∧
    message .bell = .bell ((List.range 8).map fun j => g.sounders.read (f + j) false)
      ((List.range 8).map fun j => decide (f = 0) && g.gongs.read j false) ∧
    message .audio = .audio ((List.range 4).map fun j => ⟨g.on.read (f + j) false, g.selA.read (f + j) false,
      g.selB.read (f + j) false⟩) := by
  have first : (some f == some 0) = decide (f = 0) := by
    rw [Bool.eq_iff_iff]
    simp
  refine ⟨?_, ?_, ?_, ?_⟩ <;>
    simp [Image.messageTo, ModuleRecord.points, pointsPer, first, Function.comp_def]

theorem blankPush_blank (s : Live) {p : Nat} (hp : p < 64) : ((s.blankPush p).pushInput p).blank =
    if s.loop.presentAt .call p = true then some 5 else (s.pushInput p).blank := by
  unfold Live.blankPush
  split
  · exact congrArg PushInput.blank (Bank.read_put_same s.loop.pushes p _ _ hp)
  · rfl

theorem blankEdge_blank (s : Live) {k : Nat} (hk : k < 32) : ((s.blankEdge k).input k).blank =
    if s.loop.presentAt .shutter k = true then some 3 else (s.input k).blank := by
  unfold Live.blankEdge
  split
  · exact congrArg GearInput.blank (Bank.read_put_same s.loop.gear k _ _ hk)
  · rfl

/-- The indicator of a numbered push is written, and a change blanks its line at a present module (R7, R8). -/
theorem writeIndicator_blanks {s : Live} {p : Nat} (on : Bool) (hp : p < 64) (hn : s.loop.numbered .call p = true) :
    let t := s.writeIndicator p on
    t.image.indicators.read p false = on ∧ (t.pushInput p).line = (s.pushInput p).line ∧
    (t.pushInput p).blank =
      if s.image.indicators.read p false ≠ on ∧ s.loop.presentAt .call p = true then some 5 else (s.pushInput p).blank := by
  intro t
  refine and_left_comm.mp ⟨(writeIndicator_stands s p on).line p, ?_⟩
  by_cases same : s.image.indicators.read p false = on
  · have stands : t = s := by simp [t, Live.writeIndicator, same]
    rw [stands]
    exact ⟨same, (if_neg fun h => h.1 same).symm⟩
  · have wrote : t = ({ s with image := { s.image with indicators := s.image.indicators.put p on } }).blankPush p := by
      simp [t, Live.writeIndicator, hn, same]
    rw [wrote, (blankPush_only _ p).parts .image (by decide), blankPush_blank _ hp]
    exact ⟨Bank.read_put_same _ _ _ _ hp, by simp only [ne_eq, same, not_false_eq_true, true_and]; rfl⟩

/-- A shutter's outputs are written, and BRAKE going asserted blanks the EDGE at a present module (R9). -/
theorem writeGear_blanks {s : Live} {k : Nat} (st : ShutterState) (hk : k < 32) (hn : s.loop.numbered .shutter k = true) :
    let t := s.writeGear k st
    (t.input k).edge = (s.input k).edge ∧ (t.input k).blank =
      if s.image.brake.read k false = false ∧ (gearOutputs st).2.1 = true ∧ s.loop.presentAt .shutter k = true then some 3
      else (s.input k).blank := by
  intro t
  refine ⟨(writeGear_stands s k st).edge k, ?_⟩
  by_cases rises : s.image.brake.read k false = false ∧ (gearOutputs st).2.1 = true
  · simp only [t, Live.writeGear, hn, rises, if_true, Bool.not_false, Bool.and_self, blankEdge_blank _ hk, true_and]
    rfl
  · have other : ¬ (!(s.image.brake.read k false) && (gearOutputs st).2.1) = true := by simpa using rises
    simp only [t, Live.writeGear, hn, if_true, if_neg other, ← and_assoc, rises, false_and, if_false]
    rfl

/-! ## Points taken one by one -/

section EachPoint
variable {α β : Type}

/-- A relation kept by every sample of a reply is kept by the reply. -/
theorem eachPoint_rel {R : Live → Live → Prop} (refl : ∀ s, R s s) (trans : ∀ {s t u}, R s t → R t u → R s u)
    (f : Nat → α → Live → Live) (n : Nat) (l : List α) (s : Live)
    (h : ∀ i x s, l[i]? = some x → R s (f (n + i) x s)) : R s (eachPoint f n l s) := by
  induction l generalizing n s with
  | nil => exact refl s
  | cons x rest ih =>
    refine trans (h 0 x s rfl) (ih (n + 1) _ fun i y s hy => ?_)
    rw [Nat.add_right_comm]
    exact h (i + 1) y s hy

/-- Samples that are taken with what stood at their index beforehand. -/
theorem eachPoint_zip (g : Nat → β → α → Live → Live) (b : Nat → β) (n : Nat) (l : List α) (s : Live) :
    eachPoint (fun i x => g i x.1 x.2) n (((List.range l.length).map fun i => b (n + i)).zip l) s =
      eachPoint (fun i x => g i (b i) x) n l s := by
  induction l generalizing n s with
  | nil => rfl
  | cons x rest ih =>
    rw [List.length_cons, List.range_succ_eq_map, List.map_cons, List.map_map, List.zip_cons_cons, eachPoint, eachPoint]
    rw [← ih (n + 1)]
    simp only [Nat.add_zero, Function.comp_def, Nat.succ_eq_add_one, Nat.add_right_comm, Nat.add_assoc]

/-- An operation on each index of a reply, whatever its samples. -/
theorem eachPoint_foldl (g : Nat → Live → Live) (n : Nat) (l : List α) (s : Live) :
    eachPoint (fun i _ => g i) n l s = (List.range' n l.length).foldl (fun v i => g i v) s := by
  induction l generalizing n s with
  | nil => rfl
  | cons x rest ih => rw [eachPoint, ih, List.length_cons, List.range'_succ, List.foldl_cons]

end EachPoint

/-! ## The exchange by the kind of the reply -/

/-- The running part when a module's valid reply has been judged and its samples are to be taken. -/
def Live.heard (s : Live) (pos : Nat) (m : ModuleRecord) : Live :=
  ((s.sendMessage pos m).withModule pos { m with present := true, missed := 0 }).postIf (!m.present)
    (.moduleFound pos m.kind)

/-- Hearing a module leaves every input. -/
theorem heard_inputs (s : Live) (pos : Nat) (m : ModuleRecord) :
    (s.heard pos m).loop.pushes = s.loop.pushes ∧ (s.heard pos m).loop.gear = s.loop.gear := by
  unfold Live.heard Live.postIf
  split <;> exact ⟨rfl, rfl⟩

section Exchange
variable {s : Live} {pos f : Nat} {m : ModuleRecord}

theorem scanModule_heard {r : ModuleReply} (h : s.loop.modules[pos]? = some m) (hf : m.first = some f)
    (kind : replyKind r = m.kind) : s.scanModule pos (some r) = (s.heard pos m).takeReply f r := by
  unfold Live.scanModule
  simp only [h, ModuleRecord.valid, kind, if_true, Live.heedReply, Live.heard, hf]

theorem scanModule_missed (h : s.loop.modules[pos]? = some m) :
    s.scanModule pos none = (s.sendMessage pos m).missReply pos m := by
  unfold Live.scanModule
  simp only [h, ModuleRecord.valid]

theorem takeReply_call (u : Live) (f : Nat) {xs : List PushState} (hx : xs.length = 8) : u.takeReply f (.call xs) =
    eachPoint (fun i x => samplePush (f + i) (u.pushInput (f + i)).blank x) 0 xs
      ((List.range 8).foldl (fun v i => v.putPush (f + i) ((v.pushInput (f + i)).pass true)) u) := by
  unfold Live.takeReply
  dsimp only
  have zip := eachPoint_zip (fun i b x => samplePush (f + i) b x) (fun i => (u.pushInput (f + i)).blank) 0 xs
  simp only [Nat.zero_add] at zip
  rw [zip, eachPoint_foldl (fun i s => s.putPush (f + i) ((s.pushInput (f + i)).pass true)), hx, List.range_eq_range']

theorem takeReply_shutter (u : Live) (f : Nat) {xs : List ShutterSample} (hx : xs.length = 2) :
    u.takeReply f (.shutter xs) = eachPoint (fun i x => sampleGear (f + i) (u.input (f + i)).edgeBlanked x) 0 xs
      ((List.range 2).foldl (fun v i => v.putGear (f + i) ((v.input (f + i)).pass true)) u) := by
  unfold Live.takeReply
  dsimp only
  have zip := eachPoint_zip (fun i b x => sampleGear (f + i) b x) (fun i => (u.input (f + i)).edgeBlanked) 0 xs
  simp only [Nat.zero_add] at zip
  rw [zip, eachPoint_foldl (fun i s => s.putGear (f + i) ((s.input (f + i)).pass true)), hx, List.range_eq_range']

end Exchange

end Sys2Proof.Machine

namespace Sys2Proof.Machine

/-! ## Writing points in turn -/

theorem pushInput_putPush_other (s : Live) {p q : Nat} (i : PushInput) (h : p ≠ q) :
    (s.putPush p i).pushInput q = s.pushInput q := Bank.read_put_other _ _ _ _ _ h

theorem input_putGear_other (s : Live) {k q : Nat} (i : GearInput) (h : k ≠ q) :
    (s.putGear k i).input q = s.input q := Bank.read_put_other _ _ _ _ _ h

theorem foldl_putPush_other (g : PushInput → PushInput) (l : List Nat) {q : Nat} (hq : q ∉ l) (s : Live) :
    (l.foldl (fun v p => v.putPush p (g (v.pushInput p))) s).pushInput q = s.pushInput q := by
  induction l generalizing s with
  | nil => rfl
  | cons p rest ih =>
    rw [List.mem_cons, not_or] at hq
    rw [List.foldl_cons, ih hq.2, pushInput_putPush_other _ _ (Ne.symm hq.1)]

/-- A scan that passes at each of a module's lines passes once at each. -/
theorem foldl_putPush_same (g : PushInput → PushInput) (l : List Nat) (nodup : l.Nodup) {q : Nat} (hq : q ∈ l)
    (h : q < 64) (s : Live) :
    (l.foldl (fun v p => v.putPush p (g (v.pushInput p))) s).pushInput q = g (s.pushInput q) := by
  induction l generalizing s with
  | nil => cases hq
  | cons p rest ih =>
    obtain ⟨fresh, nodup⟩ := List.nodup_cons.mp nodup
    rw [List.foldl_cons]
    rcases List.mem_cons.mp hq with rfl | later
    · rw [foldl_putPush_other g rest fresh, pushInput_putPush _ h]
    · rw [ih nodup later, pushInput_putPush_other _ _ (by rintro rfl; exact fresh later)]

theorem foldl_putGear_other (g : GearInput → GearInput) (l : List Nat) {q : Nat} (hq : q ∉ l) (s : Live) :
    (l.foldl (fun v k => v.putGear k (g (v.input k))) s).input q = s.input q := by
  induction l generalizing s with
  | nil => rfl
  | cons p rest ih =>
    rw [List.mem_cons, not_or] at hq
    rw [List.foldl_cons, ih hq.2, input_putGear_other _ _ (Ne.symm hq.1)]

theorem foldl_putGear_same (g : GearInput → GearInput) (l : List Nat) (nodup : l.Nodup) {q : Nat} (hq : q ∈ l)
    (h : q < 32) (s : Live) :
    (l.foldl (fun v k => v.putGear k (g (v.input k))) s).input q = g (s.input q) := by
  induction l generalizing s with
  | nil => cases hq
  | cons p rest ih =>
    obtain ⟨fresh, nodup⟩ := List.nodup_cons.mp nodup
    rw [List.foldl_cons]
    rcases List.mem_cons.mp hq with rfl | later
    · rw [foldl_putGear_other g rest fresh, input_putGear _ h]
    · rw [ih nodup later, input_putGear_other _ _ (by rintro rfl; exact fresh later)]

/-- The points of a module numbered from `f`. -/
def pointsFrom (f n : Nat) : List Nat := (List.range n).map (f + ·)

theorem pointsFrom_nodup (f n : Nat) : (pointsFrom f n).Nodup :=
  List.nodup_range.map fun _ _ h => Nat.add_left_cancel h

theorem mem_pointsFrom {f n j : Nat} (h : j < n) : f + j ∈ pointsFrom f n :=
  List.mem_map.mpr ⟨j, List.mem_range.mpr h, rfl⟩

theorem ModuleRecord.points_eq {m : ModuleRecord} {f : Nat} (h : m.first = some f) :
    m.points = pointsFrom f (pointsPer m.kind) := by
  simp only [ModuleRecord.points, h, pointsFrom]

theorem foldl_pointsFrom (g : Live → Nat → Live) (f n : Nat) (s : Live) :
    (List.range n).foldl (fun v i => g v (f + i)) s = (pointsFrom f n).foldl g s := by
  rw [pointsFrom, List.foldl_map]

/-! ## A blanked input is held (R8, R9) -/

/-- A push line stands, with its blanking or with blanking begun anew. -/
def LineHeld (q : Nat) (s t : Live) : Prop :=
  (t.pushInput q).line = (s.pushInput q).line ∧
    ((t.pushInput q).blank = (s.pushInput q).blank ∨ (t.pushInput q).blank = some 5)

theorem LineHeld.trans {q : Nat} {s t u : Live} (h : LineHeld q s t) (g : LineHeld q t u) : LineHeld q s u := by
  refine ⟨g.1.trans h.1, ?_⟩
  rcases g.2 with same | begun
  · exact same ▸ h.2
  · exact .inr begun

theorem lineHeld_of_eq {q : Nat} {s t : Live} (h : t.pushInput q = s.pushInput q) : LineHeld q s t := by
  simp only [LineHeld, h, true_or, and_self]

theorem Stands.lineHeld {s t : Live} (h : Stands s t) (q : Nat) : LineHeld q s t :=
  ⟨h.line q, (h.pushBlank q).imp_right And.right⟩

theorem debouncePush_lineHeld {p q : Nat} (hq : p ≠ q) (x : PushState) (s : Live) : LineHeld q s (debouncePush p x s) := by
  unfold debouncePush
  extract_lets i new t
  have counted : LineHeld q s t := lineHeld_of_eq (pushInput_putPush_other s _ hq)
  split
  · exact counted
  · exact counted.trans ((pushChange_stands t p _ _).lineHeld q)

/-- The samples of the other lines of a module hold this one; this one's own are discarded while it is blanked. -/
theorem samplePush_lineHeld {p q : Nat} {b : Option Nat} (h : p = q → ∃ n, b = some (n + 1)) (x : PushState) (s : Live) :
    LineHeld q s (samplePush p b x s) := by
  by_cases hq : p = q
  · obtain ⟨n, rfl⟩ := h hq
    exact lineHeld_of_eq rfl
  unfold samplePush
  split
  · exact debouncePush_lineHeld hq x s
  · unfold firstAfterBlanking
    split
    · exact (lineHeld_of_eq (pushInput_putPush_other s _ hq)).trans ((pushChange_stands _ p _ _).lineHeld q)
    · exact debouncePush_lineHeld hq x s
  · exact lineHeld_of_eq rfl

/-- A shutter's EDGE stands, with its blanking or with blanking begun anew. -/
def EdgeHeld (q : Nat) (s t : Live) : Prop :=
  (t.input q).edge = (s.input q).edge ∧ ((t.input q).blank = (s.input q).blank ∨ (t.input q).blank = some 3)

theorem EdgeHeld.trans {q : Nat} {s t u : Live} (h : EdgeHeld q s t) (g : EdgeHeld q t u) : EdgeHeld q s u := by
  refine ⟨g.1.trans h.1, ?_⟩
  rcases g.2 with same | begun
  · exact same ▸ h.2
  · exact .inr begun

theorem edgeHeld_of_eq {q : Nat} {s t : Live} (h : t.input q = s.input q) : EdgeHeld q s t := by
  simp only [EdgeHeld, h, true_or, and_self]

theorem Stands.edgeHeld {s t : Live} (h : Stands s t) (q : Nat) : EdgeHeld q s t :=
  ⟨h.edge q, (h.edgeBlank q).imp_right And.right⟩

/-- A change of a shutter's limits alone. -/
theorem putGear_edgeHeld (s : Live) (k q : Nat) (i : GearInput) (he : i.edge = (s.input k).edge)
    (hb : i.blank = (s.input k).blank) : EdgeHeld q s (s.putGear k i) :=
  ⟨Bank.read_put_modify _ _ _ _ _ GearInput.edge he, .inl (Bank.read_put_modify _ _ _ _ _ GearInput.blank hb)⟩

theorem sampleUp_edgeHeld (k q : Nat) (x : Bool) (s : Live) : EdgeHeld q s (sampleUp k x s) := by
  unfold sampleUp
  extract_lets i new t
  have counted : EdgeHeld q s t := putGear_edgeHeld s k q _ rfl rfl
  split
  · exact counted
  · exact counted.trans ((limitChange_stands t k .up).edgeHeld q)

theorem sampleDown_edgeHeld (k q : Nat) (x : Bool) (s : Live) : EdgeHeld q s (sampleDown k x s) := by
  unfold sampleDown
  extract_lets i new t
  have counted : EdgeHeld q s t := putGear_edgeHeld s k q _ rfl rfl
  split
  · exact counted
  · exact counted.trans ((limitChange_stands t k .down).edgeHeld q)

theorem sampleEdge_edgeHeld {k q : Nat} (hq : k ≠ q) (x : Bool) (s : Live) : EdgeHeld q s (sampleEdge k x s) := by
  unfold sampleEdge
  extract_lets i new t
  have counted : EdgeHeld q s t := edgeHeld_of_eq (input_putGear_other s _ hq)
  split
  · exact counted.trans ((edgeAsserted_stands t k).edgeHeld q)
  · exact counted

/-- The samples of a module's shutters hold an EDGE that is blanked. -/
theorem sampleGear_edgeHeld {k q : Nat} {b : Bool} (h : k = q → b = true) (x : ShutterSample) (s : Live) :
    EdgeHeld q s (sampleGear k b x s) := by
  unfold sampleGear
  extract_lets t
  have limits : EdgeHeld q s t := (sampleUp_edgeHeld k q x.up s).trans (sampleDown_edgeHeld k q x.down _)
  split
  · exact limits
  case isFalse off =>
    exact limits.trans (sampleEdge_edgeHeld (fun hq => off (h hq)) x.edge t)

section Blanked
variable {s : Live} {pos f j n : Nat} {m : ModuleRecord}

theorem heard_pushInput (q : Nat) : (s.heard pos m).pushInput q = s.pushInput q := by
  simp only [Live.pushInput, (heard_inputs s pos m).1]

theorem heard_input (q : Nat) : (s.heard pos m).input q = s.input q := by
  simp only [Live.input, (heard_inputs s pos m).2]

/-- R8: a reply leaves a blanked line at its state with its run count at 0. -/
theorem scanModule_blankedPush (h : s.loop.modules[pos]? = some m) (hf : m.first = some f) (kind : m.kind = .call)
    (hj : j < 8) (top : f + 8 ≤ 64) (hb : (s.pushInput (f + j)).blank = some (n + 1)) {xs : List PushState}
    (hx : xs.length = 8) :
    let i := (s.scanModule pos (some (.call xs))).pushInput (f + j)
    i.line = { (s.pushInput (f + j)).line with run := 0 } ∧ (i.blank = some n ∨ i.blank = some 5) := by
  intro i
  have passed : ((List.range 8).foldl (fun v i => v.putPush (f + i) ((v.pushInput (f + i)).pass true))
      (s.heard pos m)).pushInput (f + j) = ⟨{ (s.pushInput (f + j)).line with run := 0 }, some n⟩ := by
    rw [foldl_pointsFrom (fun v p => v.putPush p ((v.pushInput p).pass true)), foldl_putPush_same (PushInput.pass true) _
      (pointsFrom_nodup f 8) (mem_pointsFrom hj) (by omega), heard_pushInput]
    simp only [PushInput.pass, Debounced.heldAt, passScan, hb]
  have held := eachPoint_rel (R := LineHeld (f + j)) (fun s => lineHeld_of_eq rfl) LineHeld.trans
    (fun i x => samplePush (f + i) ((s.heard pos m).pushInput (f + i)).blank x) 0 xs
    ((List.range 8).foldl (fun v i => v.putPush (f + i) ((v.pushInput (f + i)).pass true)) (s.heard pos m))
    (fun i x v _ => samplePush_lineHeld (fun same => ⟨n, by rw [heard_pushInput, same, hb]⟩) x v)
  rw [← takeReply_call _ _ hx, ← scanModule_heard h hf (by simp only [replyKind, kind])] at held
  rw [LineHeld, passed] at held
  exact held

/-- R9: a reply leaves a blanked EDGE at its state with its run count at 0. -/
theorem scanModule_blankedEdge (h : s.loop.modules[pos]? = some m) (hf : m.first = some f) (kind : m.kind = .shutter)
    (hj : j < 2) (top : f + 2 ≤ 32) (hb : (s.input (f + j)).blank = some (n + 1)) {xs : List ShutterSample}
    (hx : xs.length = 2) :
    let i := (s.scanModule pos (some (.shutter xs))).input (f + j)
    i.edge = { (s.input (f + j)).edge with run := 0 } ∧ (i.blank = some n ∨ i.blank = some 3) := by
  intro i
  have passed : ((List.range 2).foldl (fun v i => v.putGear (f + i) ((v.input (f + i)).pass true))
      (s.heard pos m)).input (f + j) =
        { s.input (f + j) with edge := { (s.input (f + j)).edge with run := 0 }, blank := some n } := by
    rw [foldl_pointsFrom (fun v k => v.putGear k ((v.input k).pass true)), foldl_putGear_same (GearInput.pass true) _
      (pointsFrom_nodup f 2) (mem_pointsFrom hj) (by omega), heard_input]
    simp only [GearInput.pass, Debounced.heldAt, passScan, hb]
  have held := eachPoint_rel (R := EdgeHeld (f + j)) (fun s => edgeHeld_of_eq rfl) EdgeHeld.trans
    (fun i x => sampleGear (f + i) ((s.heard pos m).input (f + i)).edgeBlanked x) 0 xs
    ((List.range 2).foldl (fun v i => v.putGear (f + i) ((v.input (f + i)).pass true)) (s.heard pos m))
    (fun i x v _ => sampleGear_edgeHeld (fun same => by
      rw [heard_input, same, GearInput.edgeBlanked, hb]) x v)
  rw [← takeReply_shutter _ _ hx, ← scanModule_heard h hf (by simp only [replyKind, kind])] at held
  rw [EdgeHeld, passed] at held
  exact held

/-- A module that gave no reply and is not lost by it changes its record alone, after its blanking has passed. -/
theorem missReply_inputs (few : m.missed < 2 ∨ m.present = false) :
    (s.missReply pos m).loop.pushes = (s.passBlanking m).loop.pushes ∧
      (s.missReply pos m).loop.gear = (s.passBlanking m).loop.gear := by
  unfold Live.missReply
  dsimp only
  split_ifs with present third
  · simp only [Config.missedLimit] at third
    simp only [present, Bool.true_eq_false, or_false] at few
    omega
  · exact ⟨rfl, rfl⟩
  · exact ⟨rfl, rfl⟩

/-- R8: blanking passes at a missing module too. -/
theorem scanModule_missedPush (h : s.loop.modules[pos]? = some m) (hf : m.first = some f) (kind : m.kind = .call)
    (hj : j < 8) (top : f + 8 ≤ 64) (hb : (s.pushInput (f + j)).blank = some (n + 1))
    (few : m.missed < 2 ∨ m.present = false) :
    (s.scanModule pos none).pushInput (f + j) = ⟨{ (s.pushInput (f + j)).line with run := 0 }, some n⟩ := by
  rw [scanModule_missed h, Live.pushInput, (missReply_inputs few).1]
  simp only [Live.passBlanking, kind, m.points_eq hf, pointsPer]
  refine (foldl_putPush_same (PushInput.pass false) _ (pointsFrom_nodup f 8) (mem_pointsFrom hj) (by omega) _).trans ?_
  rw [show (s.sendMessage pos m).pushInput (f + j) = s.pushInput (f + j) from rfl]
  simp only [PushInput.pass, Debounced.heldAt, passScan, hb]

/-- R9: blanking passes at a missing module too. -/
theorem scanModule_missedEdge (h : s.loop.modules[pos]? = some m) (hf : m.first = some f) (kind : m.kind = .shutter)
    (hj : j < 2) (top : f + 2 ≤ 32) (hb : (s.input (f + j)).blank = some (n + 1))
    (few : m.missed < 2 ∨ m.present = false) :
    (s.scanModule pos none).input (f + j) =
      { s.input (f + j) with edge := { (s.input (f + j)).edge with run := 0 }, blank := some n } := by
  rw [scanModule_missed h, Live.input, (missReply_inputs few).2]
  simp only [Live.passBlanking, kind, m.points_eq hf, pointsPer]
  refine (foldl_putGear_same (GearInput.pass false) _ (pointsFrom_nodup f 2) (mem_pointsFrom hj) (by omega) _).trans ?_
  rw [show (s.sendMessage pos m).input (f + j) = s.input (f + j) from rfl]
  simp only [GearInput.pass, Debounced.heldAt, passScan, hb]

end Blanked

end Sys2Proof.Machine

namespace Sys2Proof.Machine

/-! ## Shutters that the chain's operations do not judge -/

theorem shutter_withShutter_other (s : Live) {k q : Nat} (r : ShutterRecord) (h : k ≠ q) :
    (s.withShutter k r).shutter q = s.shutter q := Bank.read_put_other _ _ _ _ _ h

theorem shutter_of_gear {s t : Live} (h : t.gear = s.gear) (k : Nat) : t.shutter k = s.shutter k := by
  simp only [Live.shutter, h]

/-- After the record has been put, a change of it touches no record further. -/
theorem changeShutter_gear (s : Live) (k : Nat) (r : ShutterRecord) :
    (s.changeShutter k r).gear = (s.withShutter k r).gear := by
  unfold Live.changeShutter
  extract_lets old t u
  have wrote : Keeps [.image, .loop] t u := keeps_ite (keeps_refl _ _) (writeGear_only t k _)
  exact ((postIf_only u _ _).parts .gear (by decide)).trans (wrote.parts .gear (by decide))

theorem shutter_changeShutter_other (s : Live) {k q : Nat} (r : ShutterRecord) (h : k ≠ q) :
    (s.changeShutter k r).shutter q = s.shutter q :=
  (shutter_of_gear (changeShutter_gear s k r) q).trans (shutter_withShutter_other s r h)

theorem shutter_changeShutter_same (s : Live) {k : Nat} (r : ShutterRecord) (hk : k < 32) :
    (s.changeShutter k r).shutter k = r :=
  (shutter_of_gear (changeShutter_gear s k r) k).trans (Live.shutter_withShutter_same s k r hk)

section Other
variable {k q : Nat} (h : k ≠ q)
include h

theorem shutter_closeAtLimit_other (s : Live) : (s.closeAtLimit k).shutter q = s.shutter q :=
  (shutter_of_gear ((raiseWear_only _ _).parts .gear (by decide)) q).trans (shutter_changeShutter_other s _ h)

theorem shutter_obstruct_other (s : Live) : (s.obstruct k).shutter q = s.shutter q := by
  unfold Live.obstruct
  extract_lets r n t
  have counted : t.shutter q = s.shutter q :=
    (shutter_of_gear ((raiseWear_only _ _).parts .gear (by decide)) q).trans (shutter_withShutter_other s _ h)
  refine Eq.trans ?_ counted
  split
  · exact shutter_changeShutter_other t _ h
  · unfold Live.thirdObstruction
    dsimp only
    split
    · exact shutter_withShutter_other t _ h
    · exact shutter_changeShutter_other t _ h

theorem shutter_enterDescending_other (s : Live) (r : ShutterRecord) :
    (s.enterDescending k r).shutter q = s.shutter q := by
  unfold Live.enterDescending
  extract_lets t i
  refine Eq.trans ?_ (shutter_changeShutter_other s { r with state := .descending } h)
  split_ifs
  · exact shutter_closeAtLimit_other h t
  · exact shutter_obstruct_other h t
  · rfl

theorem shutter_judge_other (s : Live) : (s.judge k).shutter q = s.shutter q := by
  unfold Live.judge
  split_ifs
  · exact shutter_enterDescending_other h s _
  · exact shutter_enterDescending_other h _ _
  · rfl
  · exact shutter_withShutter_other s _ h
  · rfl

end Other

/-- A shutter that is not ARMED rests. -/
def RestsUnlessArmed (k : Nat) (s t : Live) : Prop := (s.shutter k).state ≠ .armed → t.shutter k = s.shutter k

/-- The chain's operations judge shutters in ARMED alone (R103). -/
theorem rests_chainRule (k : Nat) : ChainRule (RestsUnlessArmed k) where
  same := fun _ _ hg _ => by simp only [Live.shutter, hg]
  judge := fun s q armed => by
    by_cases h : q = k
    · subst h
      rw [Live.judge, if_neg (fun both => armed both.1)]
    · exact shutter_judge_other h s
  trans := fun h g armed => (g (by rw [h armed]; exact armed)).trans (h armed)

/-! ## The points of a lost module (R10, R117, R127) -/

/-- What holds after each step at a point, and is kept by the steps at others, holds after steps at points among which it
is. -/
theorem foldl_establishes {P Q : Live → Prop} {g : Live → Nat → Live} {q : Nat} (before : ∀ s p, p ≠ q → Q s → Q (g s p))
    (own : ∀ s, Q s → P (g s q)) (after : ∀ s p, p ≠ q → P s → P (g s p)) {l : List Nat} (nodup : l.Nodup) (hq : q ∈ l)
    {s : Live} (hs : Q s) : P (l.foldl g s) := by
  have keep : ∀ (l : List Nat) (s : Live), q ∉ l → P s → P (l.foldl g s) := by
    intro l
    induction l with
    | nil => exact fun _ _ hs => hs
    | cons p rest ih =>
      intro s hq hs
      rw [List.mem_cons, not_or] at hq
      exact ih _ hq.2 (after s p (Ne.symm hq.1) hs)
  induction l generalizing s with
  | nil => cases hq
  | cons p rest ih =>
    obtain ⟨fresh, nodup⟩ := List.nodup_cons.mp nodup
    rw [List.foldl_cons]
    rcases List.mem_cons.mp hq with rfl | later
    · exact keep rest _ fresh (own s hs)
    · exact ih nodup later (before s p (by rintro rfl; exact fresh later) hs)

/-- The running part as a module's points are about to take their lost values. -/
def Live.lossBegun (s : Live) (pos : Nat) (m : ModuleRecord) : Live :=
  (((s.sendMessage pos m).passBlanking m).withModule pos { m with present := false, missed := 3 }).post
    (.moduleLost pos m.kind)

section Lost
variable {s : Live} {pos f j : Nat} {m : ModuleRecord}

theorem scanModule_lost (h : s.loop.modules[pos]? = some m) (present : m.present = true) (third : 2 ≤ m.missed) :
    s.scanModule pos none = m.points.foldl (fun s i => s.losePoint m.kind i) (s.lossBegun pos m) := by
  have lost : Config.missedLimit ≤ m.missed + 1 := by simp only [Config.missedLimit]; omega
  rw [scanModule_missed h, Live.missReply]
  simp only [present, if_true, if_pos lost]
  rfl

theorem loseDetector_broken (s : Live) {d : Nat} (hd : d < 48) : (s.losePoint .detector d).detector d = .broken := by
  have put : (s.putDetector d (.still .broken)).detector d = .broken :=
    congrArg Debounced.value (Bank.read_put_same s.loop.detectors d _ _ hd)
  unfold Live.losePoint
  dsimp only
  split
  · exact put
  · rw [Live.detector, (detectorChange_stands _ d).detectors]
    exact put

theorem loseDetector_other (s : Live) {d q : Nat} (h : d ≠ q) :
    (s.losePoint .detector d).detector q = s.detector q := by
  have put : (s.putDetector d (.still .broken)).detector q = s.detector q :=
    congrArg Debounced.value (Bank.read_put_other s.loop.detectors d q _ _ h)
  unfold Live.losePoint
  dsimp only
  split
  · exact put
  · rw [Live.detector, (detectorChange_stands _ d).detectors]
    exact put

/-- R10: a detector of a lost module stands BROKEN. -/
theorem scanModule_lostDetector (h : s.loop.modules[pos]? = some m) (hf : m.first = some f) (present : m.present = true)
    (third : 2 ≤ m.missed) (kind : m.kind = .detector) (hj : j < 8) (top : f + 8 ≤ 48) :
    (s.scanModule pos none).detector (f + j) = .broken := by
  rw [scanModule_lost h present third, m.points_eq hf, kind]
  exact foldl_establishes (P := fun t => t.detector (f + j) = .broken) (Q := fun _ => True) (fun _ _ _ _ => trivial)
    (fun t _ => loseDetector_broken t (by omega)) (fun t p hp ht => (loseDetector_other t hp).trans ht)
    (pointsFrom_nodup f 8) (mem_pointsFrom hj) trivial

/-- R10, R127: a push line of a lost module stands IDLE, unblanked. -/
theorem scanModule_lostPush (h : s.loop.modules[pos]? = some m) (hf : m.first = some f) (present : m.present = true)
    (third : 2 ≤ m.missed) (kind : m.kind = .call) (hj : j < 8) (top : f + 8 ≤ 64) :
    (s.scanModule pos none).pushInput (f + j) = ⟨⟨.idle, .idle, 0⟩, none⟩ := by
  rw [scanModule_lost h present third, m.points_eq hf, kind]
  exact foldl_establishes (P := fun t => t.pushInput (f + j) = ⟨⟨.idle, .idle, 0⟩, none⟩) (Q := fun _ => True)
    (fun _ _ _ _ => trivial) (fun t _ => pushInput_putPush _ (by omega))
    (fun t p hp ht => (pushInput_putPush_other t _ hp).trans ht) (pointsFrom_nodup f 8) (mem_pointsFrom hj) trivial

/-- R10: a READY of a lost module keeps its state. -/
theorem scanModule_lostReady (h : s.loop.modules[pos]? = some m) (present : m.present = true)
    (third : 2 ≤ m.missed) (kind : m.kind = .audio) (ch : Nat) :
    (s.scanModule pos none).readyInput ch = s.readyInput ch := by
  have keep : ∀ (l : List Nat) (t : Live),
      (l.foldl (fun s i => s.losePoint .audio i) t).readyInput ch = t.readyInput ch := by
    intro l
    induction l with
    | nil => exact fun _ => rfl
    | cons p rest ih =>
      exact fun t => (ih _).trans (Bank.read_put_modify t.loop.ready p ch _ _ Debounced.value rfl)
  rw [scanModule_lost h present third, kind, keep]
  simp only [Live.lossBegun, Live.passBlanking, kind]
  rfl

/-! ### A lost SHUTTER module -/

/-- The inputs of a lost shutter hold their states and count nothing. -/
def GearInput.lostValue (i : GearInput) : GearInput := ⟨i.up.lost, i.down.lost, i.edge.lost, none⟩

/-- A shutter no present module carries, whose limits and EDGE stand as they did, and which stands in OPEN if it did. -/
structure AwaitsLoss (k : Nat) (s t : Live) : Prop where
  absent : t.loop.presentAt .shutter k = false
  values : (t.input k).lostValue = (s.input k).lostValue
  opened : (s.shutter k).state = .opened → (t.shutter k).state = .opened

/-- The same shutter once it has taken its lost values. -/
structure TookLoss (k : Nat) (s t : Live) : Prop where
  absent : t.loop.presentAt .shutter k = false
  input : t.input k = (s.input k).lostValue
  unplaced : (s.shutter k).state = .opened → (t.shutter k).state = .unplaced

/-- At a point that no present module carries nothing of the input moves. -/
theorem Stands.input_of_absent {s t : Live} (h : Stands s t) {k : Nat} (absent : s.loop.presentAt .shutter k = false) :
    t.input k = s.input k := by
  have blank : (t.input k).blank = (s.input k).blank := by
    rcases h.edgeBlank k with same | ⟨present, -⟩
    · exact same
    · rw [absent] at present
      cases present
  have parts : ∀ a b : GearInput, a.up = b.up → a.down = b.down → a.edge = b.edge → a.blank = b.blank → a = b := by
    rintro ⟨⟩ ⟨⟩ rfl rfl rfl rfl
    rfl
  exact parts _ _ (h.up k) (h.down k) (h.edge k) blank

theorem moveShutter_rests (s : Live) {k q : Nat} (h : k ≠ q) (r : ShutterRecord) (b : Bool) :
    RestsUnlessArmed q s (s.moveShutter k r b) := by
  have changed : RestsUnlessArmed q s (s.changeShutter k r) := fun _ => shutter_changeShutter_other s r h
  exact ChainRule.either ((rests_chainRule q).trans changed ((rests_chainRule q).sillLeavesOpen _ k b)) changed

theorem shutterModuleLost_rests (s : Live) {k q : Nat} (h : k ≠ q) : RestsUnlessArmed q s (s.shutterModuleLost k) :=
  ChainRule.either (moveShutter_rests s h _ false) ((rests_chainRule q).refl s)

/-- R117: a shutter in OPEN that loses its module passes to UNPLACED. -/
theorem shutterModuleLost_unplaced (s : Live) {k : Nat} (hk : k < 32) (opened : (s.shutter k).state = .opened) :
    ((s.shutterModuleLost k).shutter k).state = .unplaced := by
  have changed := shutter_changeShutter_same s { s.shutter k with state := .unplaced } hk
  rw [Live.shutterModuleLost, if_pos opened, Live.moveShutter]
  dsimp only
  split
  · rw [(rests_chainRule k).sillLeavesOpen _ k false (by rw [changed]; simp), changed]
  · rw [changed]

/-- The loss of another shutter of the module leaves this one's inputs, and its state unless it is ARMED. -/
theorem loseShutter_other (t : Live) {p q : Nat} (hp : p ≠ q) (absent : t.loop.presentAt .shutter q = false) :
    (t.losePoint .shutter p).loop.presentAt .shutter q = false ∧ (t.losePoint .shutter p).input q = t.input q ∧
      RestsUnlessArmed q t (t.losePoint .shutter p) := by
  have lost := shutterModuleLost_stands (t.putGear p (t.input p).lostValue) p
  refine ⟨(lost.presentAt .shutter q).trans absent, ?_, ?_⟩
  · exact (lost.input_of_absent absent).trans (input_putGear_other t _ hp)
  · exact shutterModuleLost_rests (t.putGear p (t.input p).lostValue) hp

theorem AwaitsLoss.other {k p : Nat} {s t : Live} (h : AwaitsLoss k s t) (hp : p ≠ k) :
    AwaitsLoss k s (t.losePoint .shutter p) := by
  obtain ⟨absent, input, rests⟩ := loseShutter_other t hp h.absent
  refine ⟨absent, by rw [input, h.values], fun opened => ?_⟩
  have stood := h.opened opened
  rw [rests (by rw [stood]; simp), stood]

theorem AwaitsLoss.took {k : Nat} {s t : Live} (h : AwaitsLoss k s t) (hk : k < 32) :
    TookLoss k s (t.losePoint .shutter k) := by
  have lost := shutterModuleLost_stands (t.putGear k (t.input k).lostValue) k
  refine ⟨(lost.presentAt .shutter k).trans h.absent, ?_, fun opened => ?_⟩
  · exact ((lost.input_of_absent h.absent).trans (input_putGear _ hk)).trans h.values
  · exact shutterModuleLost_unplaced (t.putGear k (t.input k).lostValue) hk (h.opened opened)

theorem TookLoss.other {k p : Nat} {s t : Live} (h : TookLoss k s t) (hp : p ≠ k) :
    TookLoss k s (t.losePoint .shutter p) := by
  obtain ⟨absent, input, rests⟩ := loseShutter_other t hp h.absent
  refine ⟨absent, by rw [input, h.input], fun opened => ?_⟩
  have stood := h.unplaced opened
  rw [rests (by rw [stood]; simp), stood]

/-- Where no other SHUTTER module carries a point, the loss of its own leaves it at no present module. -/
theorem presentAt_set_lost {l : FieldLoop} {k : Nat} {lostRecord : ModuleRecord} (lost : lostRecord.present = false)
    (alone : ∀ q o, q ≠ pos → l.modules[q]? = some o → o.kind = .shutter → k ∉ o.points) :
    FieldLoop.presentAt { l with modules := l.modules.set pos lostRecord } .shutter k = false := by
  rw [FieldLoop.presentAt, List.any_eq_false]
  intro o ho
  obtain ⟨q, hq⟩ := List.mem_iff_getElem?.mp ho
  rw [List.getElem?_set] at hq
  split_ifs at hq with here inside
  · cases hq
    simp [lost]
  · by_cases kind : o.kind = .shutter
    · have := alone q o (Ne.symm here) hq kind
      simp [this]
    · simp [isKind, kind]

theorem lossBegun_awaits (kind : m.kind = .shutter) (k : Nat)
    (alone : ∀ q o, q ≠ pos → s.loop.modules[q]? = some o → o.kind = .shutter → k ∉ o.points) :
    AwaitsLoss k s (s.lossBegun pos m) := by
  have pass : ∀ (l : List Nat) (t : Live), let u := l.foldl (fun s k => s.putGear k ((s.input k).pass false)) t
      (u.input k).lostValue = (t.input k).lostValue ∧ u.gear = t.gear ∧ u.loop.modules = t.loop.modules := by
    intro l
    induction l with
    | nil => exact fun _ => ⟨rfl, rfl, rfl⟩
    | cons p rest ih =>
      intro t
      obtain ⟨values, gear, modules⟩ := ih (t.putGear p ((t.input p).pass false))
      refine ⟨values.trans (Bank.read_put_modify t.loop.gear p k _ _ GearInput.lostValue ?_), gear, modules⟩
      unfold GearInput.lostValue GearInput.pass Debounced.heldAt
      dsimp only
      split <;> rfl
  obtain ⟨values, gear, modules⟩ := pass m.points (s.sendMessage pos m)
  have passed : (s.sendMessage pos m).passBlanking m =
      m.points.foldl (fun s k => s.putGear k ((s.input k).pass false)) (s.sendMessage pos m) := by
    simp only [Live.passBlanking, kind]
  rw [← passed] at values gear modules
  refine ⟨presentAt_set_lost rfl fun q o hq ho => ?_, values, fun opened => ?_⟩
  · rw [modules] at ho
    exact alone q o hq ho
  · rw [show (s.lossBegun pos m).shutter k = s.shutter k from shutter_of_gear gear k]
    exact opened

/-- R10, R117: the inputs of a shutter of a lost module hold, and one in OPEN passes to UNPLACED. -/
theorem scanModule_lostShutter (h : s.loop.modules[pos]? = some m) (hf : m.first = some f) (present : m.present = true)
    (third : 2 ≤ m.missed) (kind : m.kind = .shutter) (hj : j < 2) (top : f + 2 ≤ 32)
    (alone : ∀ q o, q ≠ pos → s.loop.modules[q]? = some o → o.kind = .shutter → f + j ∉ o.points) :
    TookLoss (f + j) s (s.scanModule pos none) := by
  rw [scanModule_lost h present third, m.points_eq hf, kind]
  exact foldl_establishes (P := TookLoss (f + j) s) (Q := AwaitsLoss (f + j) s) (fun t p hp ht => ht.other hp)
    (fun t ht => ht.took (by omega)) (fun t p hp ht => ht.other hp) (pointsFrom_nodup f 2) (mem_pointsFrom hj)
    (lossBegun_awaits kind _ alone)

end Lost
end Sys2Proof.Machine

namespace Sys2Proof.Machine

/-! ## One sample of each input, and what its change is handed to (R4) -/

/-- R4, R6: the fifth agreeing sample of a detector line is handed to its zone. -/
theorem sampleDetector_debounced (s : Live) (d : Nat) (x : LineState) :
    let old := s.loop.detectors.read d (.still .broken)
    (x ≠ old.value → old.candidate = x → 4 ≤ old.run →
      sampleDetector d x s = (s.putDetector d (.still x)).detectorChange d) ∧
    (x ≠ old.value → (if x = old.candidate then old.run + 1 else 1) < 5 →
      sampleDetector d x s = s.putDetector d ⟨old.value, x, if x = old.candidate then old.run + 1 else 1⟩) := by
  intro old
  constructor
  · intro hx candidate run
    have changes : old.sample Config.debounceDetector x = .still x :=
      Debounced.sample_changes hx (if_pos candidate.symm) (Nat.succ_le_succ run)
    unfold sampleDetector
    dsimp only
    rw [changes, if_neg (show ¬ (Debounced.still x).value = old.value from hx)]
  · intro hx few
    have counts : old.sample Config.debounceDetector x = _ := Debounced.sample_counts hx rfl few
    unfold sampleDetector
    dsimp only
    rw [counts, if_pos rfl]

/-- R4, R7, R8: a push line's sample, under blanking, at its end and without it. -/
theorem samplePush_debounced (s : Live) (p n : Nat) (x : PushState) :
    let i := s.pushInput p
    (samplePush p (some (n + 1)) x s = s) ∧
    (samplePush p (some 0) .press s = (s.putPush p { i with line := .still .press }).pushChange p i.line.value .press) ∧
    (x ≠ .press → samplePush p (some 0) x s = samplePush p none x s) ∧
    (x = i.line.value → samplePush p none x s = s.putPush p { i with line := { i.line with run := 0 } }) ∧
    (x ≠ i.line.value → i.line.candidate = x → 2 ≤ i.line.run →
      samplePush p none x s = (s.putPush p { i with line := .still x }).pushChange p i.line.value x) ∧
    (x ≠ i.line.value → (if x = i.line.candidate then i.line.run + 1 else 1) < 3 → samplePush p none x s =
      s.putPush p { i with line := ⟨i.line.value, x, if x = i.line.candidate then i.line.run + 1 else 1⟩ }) := by
  intro i
  refine ⟨rfl, rfl, fun hx => if_neg hx, fun hx => ?_, fun hx candidate run => ?_, fun hx few => ?_⟩
  · have holds : i.line.sample Config.debouncePush x = { i.line with run := 0 } := by
      rw [hx, Debounced.sample_value]
    unfold samplePush debouncePush
    dsimp only
    rw [holds, if_pos rfl]
  · have changes : i.line.sample Config.debouncePush x = .still x :=
      Debounced.sample_changes hx (if_pos candidate.symm) (Nat.succ_le_succ run)
    unfold samplePush debouncePush
    dsimp only
    rw [changes, if_neg (show ¬ (Debounced.still x).value = i.line.value from hx)]
    rfl
  · have counts : i.line.sample Config.debouncePush x = _ := Debounced.sample_counts hx rfl few
    unfold samplePush debouncePush
    dsimp only
    rw [counts, if_pos rfl]

/-- What three equal samples of a contact come to: a sampler that puts the debounced contact back and hands a change. -/
theorem contact_debounced {x : Bool} {old : Debounced Bool} {sampled : Live} {put : Debounced Bool → Live}
    {hand : Live → Live} (same : (old.sample Config.debounceContact x).value = old.value →
      sampled = put (old.sample Config.debounceContact x))
    (changed : x ≠ old.value → old.sample Config.debounceContact x = .still x → sampled = hand (put (.still x))) :
    let counted := Debounced.mk old.value x (if x = old.candidate then old.run + 1 else 1)
    (x = old.value → sampled = put { old with run := 0 }) ∧
    (x ≠ old.value → counted.run < 3 → sampled = put counted) ∧
    (x ≠ old.value → old.candidate = x → 2 ≤ old.run → sampled = hand (put (.still x))) := by
  intro counted
  refine ⟨fun hx => ?_, fun hx few => ?_, fun hx candidate run => ?_⟩
  · have holds : old.sample Config.debounceContact x = { old with run := 0 } := by
      rw [hx, Debounced.sample_value]
    rw [same (by rw [holds]), holds]
  · have counts : old.sample Config.debounceContact x = counted := Debounced.sample_counts hx rfl few
    rw [same (by rw [counts]), counts]
  · exact changed hx (Debounced.sample_changes hx (if_pos candidate.symm) (Nat.succ_le_succ run))

theorem sampleUp_debounced (s : Live) (k : Nat) (x : Bool) :
    let i := s.input k
    (((i.up.sample Config.debounceContact x).value = i.up.value →
      sampleUp k x s = s.putGear k { i with up := i.up.sample Config.debounceContact x })) ∧
    (x ≠ i.up.value → i.up.sample Config.debounceContact x = .still x →
      sampleUp k x s = (s.putGear k { i with up := .still x }).limitChange k .up) := by
  intro i
  refine ⟨fun same => if_pos same, fun hx changes => ?_⟩
  unfold sampleUp
  dsimp only
  rw [changes, if_neg (show ¬ (Debounced.still x).value = i.up.value from hx)]

theorem sampleDown_debounced (s : Live) (k : Nat) (x : Bool) :
    let i := s.input k
    (((i.down.sample Config.debounceContact x).value = i.down.value →
      sampleDown k x s = s.putGear k { i with down := i.down.sample Config.debounceContact x })) ∧
    (x ≠ i.down.value → i.down.sample Config.debounceContact x = .still x →
      sampleDown k x s = (s.putGear k { i with down := .still x }).limitChange k .down) := by
  intro i
  refine ⟨fun same => if_pos same, fun hx changes => ?_⟩
  unfold sampleDown
  dsimp only
  rw [changes, if_neg (show ¬ (Debounced.still x).value = i.down.value from hx)]

theorem sampleEdge_changes (s : Live) (k : Nat) (x : Bool) (hx : x ≠ (s.input k).edge.value)
    (changes : (s.input k).edge.sample Config.debounceContact x = .still x) :
    let t := s.putGear k { s.input k with edge := .still x }
    sampleEdge k x s = if x then t.edgeAsserted k else t := by
  intro t
  have old : (s.input k).edge.value = !x := by cases x <;> simp_all
  unfold sampleEdge
  dsimp only
  rw [changes, old]
  cases x <;> rfl

/-- A blanked EDGE gives no sample; an unblanked one is sampled after the limits. -/
theorem sampleGear_order (s : Live) (k : Nat) (g : ShutterSample) :
    let v := sampleDown k g.down (sampleUp k g.up s)
    sampleGear k true g s = v ∧ sampleGear k false g s = sampleEdge k g.edge v := ⟨rfl, rfl⟩

/-- SCAN as the exchanges with the modules in loop order, each with its message (R3, R12). -/
theorem execScan_exchanges (s : State) (i : ScanInput) (on : s.power = .on) (mem : s.live.scanInMemory = true) :
    let w := s.writeSamples i.bytesWritten
    let before := (w.live.advance w.samples).scanBefore i.replies
    ∃ t, exec (.scan i) s = .next t ∧ t.live = (before s.live.loop.modules.length).scanPins i.pins ∧
      ∀ pos m, pos < 40 → s.live.loop.modules[pos]? = some m →
        t.live.loop.sent.read pos none = some ((before pos).image.messageTo m) := by
  intro w before
  have loop : w.live.loop = s.live.loop := (writeSamples_frame s i.bytesWritten).1 .loop (by decide)
  have scanned : scanStep w.samples i w.live = (before s.live.loop.modules.length).scanPins i.pins := by
    rw [← loop]
    rfl
  refine ⟨_, execScan_inMemory i on mem, scanned, fun pos m hp hm => ?_⟩
  have listed : (w.live.advance w.samples).loop.modules[pos]? = some m := by
    rw [show (w.live.advance w.samples).loop = s.live.loop from loop]
    exact hm
  rw [show (scanStep w.samples i w.live).loop.sent = (before s.live.loop.modules.length).loop.sent from
    scanned ▸ (scanPins_list _ i.pins).2]
  exact scanBefore_sent i.replies hp listed (List.getElem?_eq_some_iff.mp hm).1

/-- Settles O59. -/
theorem scanSendsAndBlanks : Obligations.ScanSendsAndBlanks := by
  refine ⟨fun s i on mem => execScan_exchanges s i on mem, messageTo_carries, fun s p on => writeIndicator_blanks on,
    fun s k st => writeGear_blanks st, fun s pos f j n m h hf => ⟨fun kind hj top hb => ?_, fun kind hj top hb => ?_,
      fun present third => ?_, ?_⟩, sampleDetector_debounced, samplePush_debounced, sampleGear_order, fun s k x => ?_⟩
  · exact ⟨fun xs hx => scanModule_blankedPush h hf kind hj top hb hx, scanModule_missedPush h hf kind hj top hb⟩
  · exact ⟨fun xs hx => scanModule_blankedEdge h hf kind hj top hb hx, scanModule_missedEdge h hf kind hj top hb⟩
  · refine ⟨scanModule_lostDetector h hf present third, scanModule_lostPush h hf present third,
      fun kind hj top alone => ?_, fun kind _ _ => scanModule_lostReady h present third kind _⟩
    obtain ⟨-, input, unplaced⟩ := scanModule_lostShutter h hf present third kind hj top alone
    exact ⟨input, unplaced⟩
  · refine ⟨fun xs kind => scanModule_heard h hf kind.symm, fun xs kind => scanModule_heard h hf kind.symm,
      fun xs kind hx => ?_, fun xs kind hx => ?_⟩
    · exact (scanModule_heard (r := .call xs) h hf kind.symm).trans (takeReply_call (s.heard pos m) f hx)
    · exact (scanModule_heard (r := .shutter xs) h hf kind.symm).trans (takeReply_shutter (s.heard pos m) f hx)
  · have up := contact_debounced (put := fun d => s.putGear k { s.input k with up := d })
      (hand := fun v => v.limitChange k .up) (sampleUp_debounced s k x).1 (sampleUp_debounced s k x).2
    have down := contact_debounced (put := fun d => s.putGear k { s.input k with down := d })
      (hand := fun v => v.limitChange k .down) (sampleDown_debounced s k x).1 (sampleDown_debounced s k x).2
    have edge := contact_debounced (put := fun d => s.putGear k { s.input k with edge := d })
      (hand := fun v => if x then v.edgeAsserted k else v) sampleEdge_counts (sampleEdge_changes s k x)
    exact ⟨up, down, edge⟩

end Sys2Proof.Machine

/-! # RESET low, the loss of supply, and the cold start

The walk and the first scan; then each block through the derivations of a cold start, in their order. -/

namespace Sys2Proof.Machine

/-! ## The part stops (R14, R31, R47) -/

theorem cut_eq (s : State) (p : Power) (torn : Bool) : cut s p torn = { s with
    power := p
    live := { s.live with chain := { s.live.chain with drive := .brake, stallTimer := none } }
    nv :=
      if torn then
        if s.nv.lastIsB = s.live.store.storeWriting then { s.nv with wearB := none } else { s.nv with wearA := none }
      else s.nv } := by
  simp only [cut, Live.drop, tearWear, beq_iff_eq]

/-! ## The walk (R1, R2) -/

theorem walkKinds_enquire (answers : List (List (Option ModuleKind))) {pos : Nat} {k : ModuleKind}
    (h : (walkKinds answers)[pos]? = some k) : (answers[pos]?).bind enquire = some k := by
  induction answers generalizing pos with
  | nil => cases h
  | cons a rest ih =>
    unfold walkKinds at h
    split at h
    case h_2 => cases h
    case h_1 x hx =>
      cases pos with
      | zero => simpa [hx] using h
      | succ pos => exact ih h

/-- The walk ends at the first position that fails (R1). -/
theorem walkKinds_end (answers : List (List (Option ModuleKind))) :
    (answers[(walkKinds answers).length]?).bind enquire = none := by
  induction answers with
  | nil => rfl
  | cons a rest ih =>
    unfold walkKinds
    split
    · exact ih
    case h_2 fails => simpa using fails

theorem numberModules_getElem (before ks : List ModuleKind) (pos : Nat) :
    (numberModules before ks)[pos]? = ks[pos]?.map fun k =>
      ⟨k, true, 0, firstPoint k ((before ++ ks.take pos).filter fun x => decide (x = k)).length⟩ := by
  induction ks generalizing before pos with
  | nil => rfl
  | cons k rest ih =>
    cases pos with
    | zero => simp [numberModules]
    | succ pos =>
      rw [numberModules, List.getElem?_cons_succ, ih, List.getElem?_cons_succ]
      simp only [List.take_succ_cons, List.append_assoc, List.cons_append, List.nil_append]

theorem numberModules_kinds (before ks : List ModuleKind) : (numberModules before ks).map ModuleRecord.kind = ks := by
  induction ks generalizing before with
  | nil => rfl
  | cons k rest ih => rw [numberModules, List.map_cons, ih]

/-! ## The first scan (R5) -/

/-- The kinds and the numbering of a module list. -/
def numberingOf (l : List ModuleRecord) : List (ModuleKind × Option Nat) := l.map fun m => (m.kind, m.first)

theorem numberingOf_set {l : List ModuleRecord} {pos : Nat} {m n : ModuleRecord} (h : l[pos]? = some m)
    (kind : n.kind = m.kind) (first : n.first = m.first) : numberingOf (l.set pos n) = numberingOf l := by
  apply List.ext_getElem?
  intro q
  simp only [numberingOf, List.getElem?_map, List.getElem?_set]
  split_ifs with here inside
  · simp [← here, h, kind, first]
  · simp [← here, List.getElem?_eq_none (Nat.le_of_not_lt inside)]
  · rfl

theorem startReply_modules (l : FieldLoop) (first : Nat) (r : ModuleReply) :
    (l.startReply first r).modules = l.modules := by
  cases r <;> rfl

theorem startModule_numbering (l : FieldLoop) (replies : List (Option ModuleReply)) (pos : Nat) :
    numberingOf (l.startModule replies pos).modules = numberingOf l.modules := by
  unfold FieldLoop.startModule
  split
  case h_1 => rfl
  case h_2 m h =>
    extract_lets sent
    split
    · exact numberingOf_set h rfl rfl
    · split
      · rw [startReply_modules]
      · rfl

/-- The first scan keeps what the walk numbered, and takes the pins as they stand. -/
theorem startLoop_numbering (i : ColdStart) : numberingOf (startLoop i).modules = numberingOf (walk i.walk) := by
  have scanned : ∀ (ps : List Nat) (l : FieldLoop),
      numberingOf (ps.foldl (fun l pos => l.startModule i.first.replies pos) l).modules = numberingOf l.modules := by
    intro ps
    induction ps with
    | nil => exact fun _ => rfl
    | cons p rest ih => exact fun l => (ih _).trans (startModule_numbering l _ p)
  exact scanned _ { FieldLoop.blank with modules := walk i.walk }

theorem numberingOf_kinds (l : List ModuleRecord) : (numberingOf l).map Prod.fst = l.map ModuleRecord.kind := by
  simp only [numberingOf, List.map_map, Function.comp_def]

/-- The modules of a cold start are those the walk entered, numbered in loop order (R1, R2). -/
theorem startLoop_modules (i : ColdStart) :
    let l := (startLoop i).modules
    (∀ pos m, l[pos]? = some m → pos < 40 ∧ (i.walk[pos]?).bind enquire = some m.kind ∧
      (let before := ((l.take pos).filter fun x => decide (x.kind = m.kind)).length
       m.first = if pointsPer m.kind * before < capacity m.kind then some (pointsPer m.kind * before) else none)) ∧
    (l.length < 40 → (i.walk[l.length]?).bind enquire = none) := by
  intro l
  have kinds : l.map ModuleRecord.kind = (walkKinds i.walk).take 40 := by
    rw [← numberingOf_kinds, startLoop_numbering, numberingOf_kinds]
    exact numberModules_kinds [] _
  constructor
  · intro pos m hm
    have hkind : ((walkKinds i.walk).take 40)[pos]? = some m.kind := by
      rw [← kinds, List.getElem?_map, hm]
      rfl
    have hpos : pos < 40 := by
      have := (List.getElem?_eq_some_iff.mp hkind).1
      rw [List.length_take] at this
      omega
    rw [List.getElem?_take_of_lt hpos] at hkind
    refine ⟨hpos, walkKinds_enquire _ hkind, ?_⟩
    have counted : ((l.take pos).filter fun x => decide (x.kind = m.kind)).length =
        ((((walkKinds i.walk).take 40).take pos).filter fun x => decide (x = m.kind)).length := by
      rw [← kinds, ← List.map_take, List.filter_map, List.length_map]
      rfl
    have numbered : (numberingOf l)[pos]? = some (m.kind, m.first) := by
      simp only [numberingOf, List.getElem?_map, hm, Option.map_some]
    have listed : ((walkKinds i.walk).take 40)[pos]? = some m.kind := by
      rw [List.getElem?_take_of_lt hpos]
      exact hkind
    rw [show numberingOf l = numberingOf (walk i.walk) from startLoop_numbering i, numberingOf, List.getElem?_map, walk,
      numberModules_getElem, show Config.modulesMax = 40 from rfl, listed] at numbered
    simp only [Option.map_some, Option.some.injEq, Prod.mk.injEq, true_and, List.nil_append] at numbered
    dsimp only
    rw [← numbered, counted]
    rfl
  · intro few
    have short : l.length = min 40 (walkKinds i.walk).length := by
      rw [← List.length_map (f := ModuleRecord.kind), kinds, List.length_take]
    rw [show l.length = (walkKinds i.walk).length by omega]
    exact walkKinds_end i.walk

end Sys2Proof.Machine

/-! # The chain, the wear counts and the closing programme where a zone latches and the chain is at rest

A fire demand that finds the chain at rest moves shutters, which count closures and obstructions alone, and may take the
chain to HELD(FIRE); nothing of the drive starts or stops. -/

namespace Sys2Proof.Machine

/-! ## Relations that hold across one operation after another -/

structure Composes (R : Live → Live → Prop) : Prop where
  refl : ∀ s, R s s
  trans : ∀ {s t u : Live}, R s t → R t u → R s u

theorem Composes.foldl {R : Live → Live → Prop} (h : Composes R) {α : Type} (f : Live → α → Live)
    (hf : ∀ s x, R s (f s x)) (l : List α) (s : Live) : R s (l.foldl f s) := by
  induction l generalizing s with
  | nil => exact h.refl s
  | cons x rest ih => exact h.trans (hf s x) (ih _)

/-! ## Wear counts of the shutters (R46) -/

/-- The Chain Monitor stands but for the closures and obstructions counted. -/
def ShutterWear (s t : Live) : Prop :=
  ∃ w : WearCounts, t.monitor = { s.monitor with wear := w } ∧ w.links = s.monitor.wear.links ∧
    w.index = s.monitor.wear.index ∧ w.emergencyStops = s.monitor.wear.emergencyStops

theorem shutterWear_of_monitor {s t : Live} (h : t.monitor = s.monitor) : ShutterWear s t := ⟨_, h, rfl, rfl, rfl⟩

theorem shutterWear_composes : Composes ShutterWear where
  refl _ := shutterWear_of_monitor rfl
  trans := by
    rintro s t u ⟨w, ht, links, index, stops⟩ ⟨x, hu, links', index', stops'⟩
    rw [ht] at hu links' index' stops'
    exact ⟨x, hu, links'.trans links, index'.trans index, stops'.trans stops⟩

theorem Keeps.shutterWear {ps : List Part} {s t : Live} (h : Keeps ps s t) (hp : .monitor ∉ ps := by decide) :
    ShutterWear s t := shutterWear_of_monitor (h.parts .monitor hp)

theorem ShutterWear.after {s t u : Live} (h : ShutterWear t u) (hs : t.monitor = s.monitor) : ShutterWear s u :=
  shutterWear_composes.trans (shutterWear_of_monitor hs) h

theorem ShutterWear.next {ps : List Part} {s t u : Live} (h : ShutterWear s t) (g : Keeps ps t u)
    (hp : .monitor ∉ ps := by decide) : ShutterWear s u := shutterWear_composes.trans h (g.shutterWear hp)

theorem raiseWear_monitor (s : Live) (e : WearEvent) : (s.raiseWear e).monitor = { s.monitor with
    wear := if e.top ≤ s.monitor.wear.count e then s.monitor.wear
      else s.monitor.wear.setCount (s.monitor.wear.count e + 1) e } := by
  unfold Live.raiseWear
  dsimp only
  split
  · rfl
  · exact (postIf_only _ _ _).parts .monitor (by decide)

theorem raiseWear_closure (s : Live) (k : Nat) : ShutterWear s (s.raiseWear (.closure k)) :=
  ⟨_, raiseWear_monitor s _, by split <;> rfl, by split <;> rfl, by split <;> rfl⟩

theorem raiseWear_obstruction (s : Live) (k : Nat) : ShutterWear s (s.raiseWear (.obstruction k)) :=
  ⟨_, raiseWear_monitor s _, by split <;> rfl, by split <;> rfl, by split <;> rfl⟩

theorem closeAtLimit_shutterWear (s : Live) (k : Nat) : ShutterWear s (s.closeAtLimit k) :=
  shutterWear_composes.trans (changeShutter_only s k _).shutterWear (raiseWear_closure _ k)

theorem obstruct_shutterWear (s : Live) (k : Nat) : ShutterWear s (s.obstruct k) := by
  unfold Live.obstruct
  extract_lets r r' t
  have counted : ShutterWear s t :=
    ((raiseWear_obstruction (s.withShutter k r') k).after rfl).next (post_only _ _)
  exact ChainRule.either (counted.next (changeShutter_only t k _)) (counted.next (thirdObstruction_only t k))

theorem enterDescending_shutterWear (s : Live) (k : Nat) (r : ShutterRecord) : ShutterWear s (s.enterDescending k r) :=
  shutterWear_composes.trans (changeShutter_only s k _).shutterWear
    (ChainRule.either (closeAtLimit_shutterWear _ k)
      (ChainRule.either (obstruct_shutterWear _ k) (shutterWear_composes.refl _)))

theorem judge_shutterWear (s : Live) (k : Nat) : ShutterWear s (s.judge k) :=
  ChainRule.either
    (ChainRule.either (enterDescending_shutterWear s k _)
      (ChainRule.either ((enterDescending_shutterWear _ k _).after rfl)
        (ChainRule.either (shutterWear_composes.refl s) (shutterWear_of_monitor rfl))))
    (shutterWear_composes.refl s)

theorem takeChainState_shutterWear (s : Live) : ShutterWear s s.takeChainState :=
  ChainRule.either (shutterWear_composes.refl s)
    ((shutterWear_composes.foldl _
      (fun t k => ChainRule.either (judge_shutterWear t k) (shutterWear_composes.refl t)) _ _).after rfl)

/-! ## A chain at rest (R61, R66) -/

theorem sillLeavesOpen_atRest {s : Live} (rest : s.chain.state.atRest = true) (k : Nat) (byFire : Bool) :
    s.sillLeavesOpen k byFire = s := by
  unfold Live.sillLeavesOpen
  split <;> simp_all [ChainState.atRest]

theorem moveShutter_atRest {s : Live} (rest : s.chain.state.atRest = true) (k : Nat) (r : ShutterRecord) (b : Bool) :
    s.moveShutter k r b = s.changeShutter k r := by
  unfold Live.moveShutter
  dsimp only
  rw [sillLeavesOpen_atRest (by rw [(changeShutter_only s k r).parts .chain (by decide)]; exact rest), ite_self]

/-- What a fire demand leaves of the chain and its monitor where no drive moves. -/
def IssuesAtRest (s t : Live) : Prop := Keeps wearParts s t ∧ ShutterWear s t

theorem issuesAtRest_composes : Composes IssuesAtRest where
  refl s := ⟨keeps_refl _ s, shutterWear_composes.refl s⟩
  trans := fun ⟨keeps, wear⟩ ⟨keeps', wear'⟩ => ⟨keeps_trans keeps keeps', shutterWear_composes.trans wear wear'⟩

theorem changeShutter_issuesAtRest (s : Live) (k : Nat) (r : ShutterRecord) : IssuesAtRest s (s.changeShutter k r) :=
  ⟨keeps_widen (changeShutter_only s k r), (changeShutter_only s k r).shutterWear⟩

theorem closeRequest_issuesAtRest {s : Live} (rest : s.chain.state.atRest = true) (k : Nat) (cause : CloseCause) :
    IssuesAtRest s (s.closeRequest k cause) := by
  have arm : IssuesAtRest s (s.arm k cause) := by
    unfold Live.arm
    rw [moveShutter_atRest rest]
    exact issuesAtRest_composes.trans (changeShutter_issuesAtRest s k _)
      (ChainRule.either ⟨judge_only _ k, judge_shutterWear _ k⟩ (issuesAtRest_composes.refl _))
  have byState : IssuesAtRest s (s.closeByState k cause) := by
    unfold Live.closeByState
    split
    case h_6 | h_7 | h_8 | h_9 =>
      exact ChainRule.either (changeShutter_issuesAtRest s k _) (issuesAtRest_composes.refl s)
    case h_10 => exact issuesAtRest_composes.refl s
    all_goals exact arm
  exact ChainRule.either (issuesAtRest_composes.refl s) byState

theorem contribution_issuesAtRest {s : Live} (rest : s.chain.state.atRest = true) (ks : List Nat) :
    IssuesAtRest s (ks.foldl (fun s k => s.closeRequest k .fire) s) := by
  induction ks generalizing s with
  | nil => exact issuesAtRest_composes.refl s
  | cons k more ih =>
    have first := closeRequest_issuesAtRest rest k .fire
    exact issuesAtRest_composes.trans first (ih (by rw [first.1.parts .chain (by decide)]; exact rest))

theorem enterChain_chain (s : Live) (st : ChainState) : (s.enterChain st).chain = { s.chain with state := st } := by
  refine ((takeChainState_only _).parts .chain (by decide)).trans ?_
  unfold Live.setChain
  split
  · next same => rw [← same]
  · rfl

theorem setChain_monitor (s : Live) (st : ChainState) : (s.setChain st).monitor = s.monitor := by
  unfold Live.setChain
  split <;> rfl

theorem enterChain_shutterWear (s : Live) (st : ChainState) : ShutterWear s (s.enterChain st) :=
  (takeChainState_shutterWear _).after (setChain_monitor s st)

theorem fireStop_atRest {s : Live} (rest : s.chain.state.atRest = true) : s.fireStop = s.enterChain (.held .fire) := by
  unfold Live.fireStop
  split <;> simp_all [ChainState.atRest]

/-- The chain state after a zone's contribution is issued to a chain at rest (R61, R88). -/
def Live.restAfterIssue (s : Live) (z : Nat) : ChainState :=
  if s.plan.callsFireStop z then .held .fire else s.chain.state

theorem issue_atRest {s : Live} (rest : s.chain.state.atRest = true) (z : Nat) :
    (s.issue z).chain = { s.chain with state := s.restAfterIssue z } ∧ ShutterWear s (s.issue z) := by
  unfold Live.issue Live.restAfterIssue
  extract_lets t
  have ⟨keeps, wear⟩ : IssuesAtRest s t := contribution_issuesAtRest rest _
  have chain : t.chain = s.chain := keeps.parts .chain (by decide)
  rw [show t.plan = s.plan by simp only [Live.plan, show t.store = s.store from keeps.parts .store (by decide)],
    fireStop_atRest (by rw [chain]; exact rest)]
  split
  · exact ⟨by rw [enterChain_chain, chain], shutterWear_composes.trans wear (enterChain_shutterWear t _)⟩
  · exact ⟨chain, wear⟩

/-! ## What a zone's latching leaves -/

/-- Handing an alarm on changes no zone (R88 to R92). -/
theorem handAlarm_zones (s : Live) (before : Demand) (z : Nat) (entered : Bool) :
    (s.handAlarm before z entered).zones = s.zones := by
  unfold Live.handAlarm
  extract_lets g a b c
  have hb : b.zones = s.zones := (issue_only a z).parts .zones (by decide)
  have hc : c.zones = b.zones := by
    unfold c
    split
    · exact (suspendClosing_only b).parts .zones (by decide)
    · rfl
  exact ((handSpeech_only _ _).parts .zones (by decide)).trans
    (((handCircuits_only c _).parts .zones (by decide)).trans (hc.trans hb))

/-- The record of a zone that latches (R79). -/
def Live.latchedZone (s : Live) (z d : Nat) : ZoneRecord :=
  { s.zone z with state := .alarm, silenced := false, firstAlarm := some d, alarmSecond := some s.seconds }

/-- A zone in ALARM with its notices, before the alarm is handed on (R79). -/
def Live.enterAlarm (s : Live) (z d : Nat) : Live :=
  ((s.withZone z (s.latchedZone z d)).post (.zoneAlarm z d)).post (zoneNote z (s.latchedZone z d))

theorem latch_eq (s : Live) (z d : Nat) : s.latch z d = (s.enterAlarm z d).handAlarm s.demand z true := rfl

theorem latch_zones (s : Live) (z d : Nat) : (s.latch z d).zones = s.zones.put z (s.latchedZone z d) := by
  rw [latch_eq, handAlarm_zones]
  rfl

theorem suspendClosing_idle {s : Live} (idle : s.closing.state = .idle) : s.suspendClosing = s := by
  unfold Live.suspendClosing
  split <;> simp_all

/-- The contribution issued under the shutter set of the demand as it stands (R88). -/
def Live.issueAlarm (s : Live) (z : Nat) : Live :=
  ({ s with gear := { s.gear with fireSet := s.demand.shutters } } : Live).issue z

/-- With no programme running, an alarm goes to the shutters and the chain, the circuits and the channels (R88 to R91). -/
theorem handAlarm_idle {s : Live} (idle : s.closing.state = .idle) (before : Demand) (z : Nat) :
    s.handAlarm before z true = ((s.issueAlarm z).handCircuits before.circuits).handSpeech before := by
  have closing : (s.issueAlarm z).closing = s.closing := (issue_only _ z).parts .closing (by decide)
  have standing := suspendClosing_idle (s := s.issueAlarm z) (by rw [closing]; exact idle)
  show ((s.issueAlarm z).suspendClosing.handCircuits before.circuits).handSpeech before = _
  rw [standing]

theorem handAlarm_atRest {s : Live} (rest : s.chain.state.atRest = true) (idle : s.closing.state = .idle)
    (before : Demand) (z : Nat) :
    (s.handAlarm before z true).chain = { s.chain with state := s.restAfterIssue z } ∧
    ShutterWear s (s.handAlarm before z true) ∧ (s.handAlarm before z true).closing = s.closing := by
  rw [handAlarm_idle idle]
  have ⟨chain, wear⟩ : _ ∧ ShutterWear s (s.issueAlarm z) :=
    (issue_atRest (s := { s with gear := { s.gear with fireSet := s.demand.shutters } }) rest z).imp_right
      fun h => h.after rfl
  have closing : (s.issueAlarm z).closing = s.closing := (issue_only _ z).parts .closing (by decide)
  have circuits := handCircuits_only (s.issueAlarm z) before.circuits
  have speech := handSpeech_only ((s.issueAlarm z).handCircuits before.circuits) before
  exact ⟨(speech.parts .chain (by decide)).trans ((circuits.parts .chain (by decide)).trans chain),
    (wear.next circuits).next speech,
    (speech.parts .closing (by decide)).trans ((circuits.parts .closing (by decide)).trans closing)⟩

theorem latch_atRest {s : Live} (rest : s.chain.state.atRest = true) (idle : s.closing.state = .idle) (z d : Nat) :
    (s.latch z d).chain = { s.chain with state := s.restAfterIssue z } ∧ ShutterWear s (s.latch z d) ∧
      (s.latch z d).closing = s.closing := by
  rw [latch_eq]
  have ⟨chain, wear, closing⟩ := handAlarm_atRest (s := s.enterAlarm z d) rest idle s.demand z
  exact ⟨chain, wear.after rfl, closing⟩

end Sys2Proof.Machine

/-! # The circuits' masks and the speak queue

A mask changes by a setting alone (R149), and the speak queue by a request or a grant; no ring, fire call, push or
evacuation play does either. -/

namespace Sys2Proof.Machine

/-! ## The masks -/

/-- With no mask pending, every mask stands and none becomes pending. -/
def MasksStand (s t : Live) : Prop :=
  (∀ c, (s.circuit c).pendingMask = none) →
    ∀ c, (t.circuit c).pendingMask = none ∧ (t.circuit c).mask = (s.circuit c).mask

theorem masksStand_of_circuits {s t : Live} (h : t.circuits = s.circuits) : MasksStand s t := by
  intro none_pending c
  rw [show t.circuit c = s.circuit c by simp only [Live.circuit, h]]
  exact ⟨none_pending c, rfl⟩

theorem masksStand_composes : Composes MasksStand where
  refl _ := masksStand_of_circuits rfl
  trans h g none_pending c :=
    have first := h none_pending
    have second := g fun c => (first c).1
    ⟨(second c).1, (second c).2.trans (first c).2⟩

theorem Keeps.masksStand {ps : List Part} {s t : Live} (h : Keeps ps s t) (hp : .circuits ∉ ps := by decide) :
    MasksStand s t := masksStand_of_circuits (h.parts .circuits hp)

theorem MasksStand.next {ps : List Part} {s t u : Live} (h : MasksStand s t) (g : Keeps ps t u)
    (hp : .circuits ∉ ps := by decide) : MasksStand s u := masksStand_composes.trans h (g.masksStand hp)

theorem setCalls_masksStand (s : Live) (l : List CallRecord) : MasksStand s { s with calls := l } :=
  masksStand_of_circuits rfl

theorem setRing_masksStand (s : Live) (c : Nat) (g : Option Ring) :
    MasksStand s (s.withCircuit c { s.circuit c with ring := g }) := by
  intro none_pending c'
  have pending := Bank.read_put_modify s.circuits c c' ⟨none, 0, none⟩ { s.circuit c with ring := g }
    CircuitRecord.pendingMask
  have mask := Bank.read_put_modify s.circuits c c' ⟨none, 0, none⟩ { s.circuit c with ring := g } CircuitRecord.mask
  exact ⟨(pending rfl).trans (none_pending c'), mask rfl⟩

theorem beginRing_masksStand (s : Live) (c : Nat) (r : CallRecord) : MasksStand s (s.beginRing c r) :=
  ((setRing_masksStand s c _).next (writeSounder_only _ _ _)).next (updateCall_only _ _ _)

theorem choose_masksStand (s : Live) (c : Nat) : MasksStand s (s.choose c) := by
  unfold Live.choose
  refine ChainRule.either (masksStand_composes.refl s) ?_
  split
  · exact beginRing_masksStand s c _
  · exact masksStand_composes.refl s

/-- A boundary with no mask pending changes nothing. -/
theorem takeMask_masksStand (s : Live) (c : Nat) : MasksStand s (s.takeMask c) := by
  intro none_pending
  unfold Live.takeMask
  extract_lets r
  split
  · exact masksStand_composes.refl s none_pending
  · next m pending => exact absurd (none_pending c) (by rw [show (s.circuit c).pendingMask = some m from pending]; simp)

theorem stopRing_masksStand (s : Live) (c : Nat) : MasksStand s (s.stopRing c) :=
  masksStand_composes.trans
    (masksStand_composes.trans ((setRing_masksStand s c none).next (writeSounder_only _ _ _)) (takeMask_masksStand _ c))
    (choose_masksStand _ c)

theorem tellCircuit_masksStand (s : Live) (r : CallRecord) : MasksStand s (s.tellCircuit r) := by
  unfold Live.tellCircuit
  split
  · exact ChainRule.either
      (masksStand_composes.trans (updateCall_only s _ _).masksStand (beginRing_masksStand _ _ _))
      (masksStand_composes.refl s)
  · exact choose_masksStand s _

theorem stopIfRinging_masksStand (s : Live) (c : Nat) (key : CallKey) : MasksStand s (s.stopIfRinging c key) := by
  unfold Live.stopIfRinging
  split
  · exact ChainRule.either (stopRing_masksStand s c) (masksStand_composes.refl s)
  · exact masksStand_composes.refl s

theorem indicatorOn_masksStand (s : Live) (key : CallKey) : MasksStand s (indicatorOn s key) := by
  unfold indicatorOn
  split
  · exact (writeIndicator_only s _ true).masksStand
  · exact masksStand_composes.refl s

theorem indicatorOff_masksStand (s : Live) (key : CallKey) : MasksStand s (indicatorOff s key) := by
  unfold indicatorOff
  split
  · exact (writeIndicator_only s _ false).masksStand
  · exact masksStand_composes.refl s

theorem takeOut_masksStand (s : Live) (r : CallRecord) : MasksStand s (s.takeOut r) :=
  masksStand_composes.trans
    (masksStand_composes.trans (setCalls_masksStand s _) (stopIfRinging_masksStand _ _ _))
    (indicatorOff_masksStand _ _)

theorem removeCall_masksStand (s : Live) (r : CallRecord) (why : RemoveReason) : MasksStand s (s.removeCall r why) :=
  (takeOut_masksStand s r).next (post_only _ _)

theorem makeRoom_masksStand (s : Live) (r : CallRecord) : MasksStand s (s.makeRoom r).1 := by
  unfold Live.makeRoom
  split
  · exact masksStand_composes.refl s
  · split
    · exact masksStand_composes.refl s
    · split
      · exact (takeOut_masksStand s _).next (post_only _ _)
      · exact (post_only s _).masksStand

theorem join_masksStand (s : Live) (r : CallRecord) : MasksStand s (s.join r).1 := by
  unfold Live.join
  dsimp only
  split
  · refine masksStand_composes.trans ?_ (tellCircuit_masksStand _ r)
    refine masksStand_composes.trans ?_ (indicatorOn_masksStand _ _)
    refine MasksStand.next ?_ (post_only _ _)
    exact masksStand_composes.trans (makeRoom_masksStand s r) (setCalls_masksStand _ _)
  · exact makeRoom_masksStand s r

theorem pressAgain_masksStand (s : Live) (p : Nat) (r : CallRecord) : MasksStand s (s.pressAgain p r) := by
  unfold Live.pressAgain
  extract_lets n t
  have pressedAgain : MasksStand s t :=
    MasksStand.next (masksStand_of_circuits (by unfold Live.replaceCall; split <;> rfl))
      (post_only (s.replaceCall r n) _)
  exact ChainRule.either (masksStand_composes.trans pressedAgain (choose_masksStand t _)) pressedAgain

theorem press_masksStand (s : Live) (p : Nat) : MasksStand s (s.press p) := by
  unfold Live.press
  dsimp only
  split
  · split
    · exact pressAgain_masksStand s p _
    · exact join_masksStand s _
  · exact masksStand_composes.refl s

theorem attend_masksStand (s : Live) (p : Nat) : MasksStand s (s.attend p) := by
  unfold Live.attend
  split
  · exact removeCall_masksStand s _ _
  · exact masksStand_composes.refl s

theorem pushChange_masksStand (s : Live) (p : Nat) (old new : PushState) : MasksStand s (s.pushChange p old new) := by
  unfold Live.pushChange
  extract_lets t
  refine masksStand_composes.trans (t := t) (postIf_only s _ _).masksStand ?_
  split
  · exact press_masksStand t p
  · exact attend_masksStand t p
  · exact masksStand_composes.refl t
  · exact masksStand_composes.refl t

theorem fireCallEnter_masksStand (s : Live) (c : Nat) : MasksStand s (s.fireCallEnter c) := by
  unfold Live.fireCallEnter
  split
  · exact masksStand_composes.refl s
  · exact join_masksStand s _

theorem fireCallLeave_masksStand (s : Live) (c : Nat) : MasksStand s (s.fireCallLeave c) := by
  unfold Live.fireCallLeave
  split
  · exact removeCall_masksStand s _ _
  · exact masksStand_composes.refl s

theorem handCircuits_masksStand (s : Live) (l : List Nat) : MasksStand s (s.handCircuits l) :=
  masksStand_composes.trans (masksStand_composes.foldl _ fireCallLeave_masksStand _ s)
    (masksStand_composes.foldl _ fireCallEnter_masksStand _ _)

/-! ## The speak queue -/

def QueueStands (s t : Live) : Prop := t.speech.queue = s.speech.queue ∧ t.speech.nextTag = s.speech.nextTag

theorem queueStands_composes : Composes QueueStands where
  refl _ := ⟨rfl, rfl⟩
  trans := fun ⟨queue, tag⟩ ⟨queue', tag'⟩ => ⟨queue'.trans queue, tag'.trans tag⟩

theorem Keeps.queueStands {ps : List Part} {s t : Live} (h : Keeps ps s t) (hp : .speech ∉ ps := by decide) :
    QueueStands s t := by
  have speech : t.speech = s.speech := h.parts .speech hp
  exact ⟨by rw [speech], by rw [speech]⟩

theorem QueueStands.next {ps : List Part} {s t u : Live} (h : QueueStands s t) (g : Keeps ps t u)
    (hp : .speech ∉ ps := by decide) : QueueStands s u := queueStands_composes.trans h (g.queueStands hp)

theorem withPlayer_queueStands (s : Live) (pl : Player) (c : PlayerContext) : QueueStands s (s.withPlayer pl c) := by
  cases pl <;> exact ⟨rfl, rfl⟩

theorem withChannel_queueStands (s : Live) (ch : Nat) (c : Channel) : QueueStands s (s.withChannel ch c) :=
  QueueStands.next (t := { s with speech := { s.speech with channels := s.speech.channels.put ch c } }) ⟨rfl, rfl⟩
    (writeChannel_only _ _ _ _ _)

theorem takeChannel_queueStands (s : Live) (pl : Player) (ch : Nat) : QueueStands s (s.takeChannel pl ch) :=
  ChainRule.either (withChannel_queueStands s ch _) (withChannel_queueStands s ch _)

theorem freePlayer_queueStands (s : Live) (pl : Player) : QueueStands s (s.freePlayer pl) :=
  queueStands_composes.trans (queueStands_composes.foldl _ (fun t ch => withChannel_queueStands t ch _) _ s)
    (withPlayer_queueStands _ pl _)

theorem restAfter_queueStands (s : Live) (r : SpeakRequest) : QueueStands s (s.restAfter r) :=
  ChainRule.either ⟨rfl, rfl⟩ (queueStands_composes.refl s)

theorem stopPlay_queueStands (s : Live) (pl : Player) (why : AbandonReason) : QueueStands s (s.stopPlay pl why) := by
  unfold Live.stopPlay
  split
  · exact (freePlayer_queueStands s pl).next (post_only _ _)
  · exact queueStands_composes.refl s

theorem completePlay_queueStands (s : Live) (pl : Player) : QueueStands s (s.completePlay pl) := by
  unfold Live.completePlay
  split
  · exact queueStands_composes.trans ((freePlayer_queueStands s pl).next (post_only _ _)) (restAfter_queueStands _ _)
  · exact queueStands_composes.refl s

theorem failPlay_queueStands (s : Live) (pl : Player) : QueueStands s (s.failPlay pl) := by
  unfold Live.failPlay
  split
  · exact queueStands_composes.trans (stopPlay_queueStands s pl _) (restAfter_queueStands _ _)
  · exact queueStands_composes.refl s

theorem beginItem_queueStands (s : Live) (pl : Player) (r : SpeakRequest) (i : Nat) (it : Item) :
    QueueStands s (s.beginItem pl r i it).1 := by
  unfold Live.beginItem Live.beginPhrase
  dsimp only
  split
  case h_1 | h_2 => exact withPlayer_queueStands s pl _
  case h_3 =>
    split
    · exact withPlayer_queueStands s pl _
    · exact withPlayer_queueStands s pl _
  case h_4 =>
    split
    · exact withPlayer_queueStands s pl _
    · split
      · exact withPlayer_queueStands s pl _
      · exact (withPlayer_queueStands s pl _).next (postIf_only _ _ _)

theorem runItems_queueStands (fuel : Nat) (pl : Player) (s : Live) : QueueStands s (s.runItems fuel pl) := by
  induction fuel generalizing s with
  | zero => exact queueStands_composes.refl s
  | succ n ih =>
    unfold Live.runItems
    split
    · split
      · exact completePlay_queueStands s pl
      · dsimp only
        split
        · exact beginItem_queueStands s pl _ _ _
        · exact queueStands_composes.trans (beginItem_queueStands s pl _ _ _) (ih _)
    · exact queueStands_composes.refl s

theorem enterPlaying_queueStands (s : Live) (pl : Player) : QueueStands s (s.enterPlaying pl) :=
  queueStands_composes.trans
    (queueStands_composes.trans (withPlayer_queueStands s pl _)
      (queueStands_composes.foldl _
        (fun t ch => ChainRule.either (withChannel_queueStands t ch _) (queueStands_composes.refl t)) _ _))
    (runItems_queueStands _ pl _)

theorem checkPlayer_queueStands (s : Live) (pl : Player) : QueueStands s (s.checkPlayer pl) :=
  ChainRule.either (queueStands_composes.refl s) (ChainRule.either (failPlay_queueStands s pl)
    (ChainRule.either (enterPlaying_queueStands s pl) (queueStands_composes.refl s)))

theorem takeUp_queueStands (s : Live) (pl : Player) (r : SpeakRequest) : QueueStands s (s.takeUp pl r) :=
  queueStands_composes.trans
    (queueStands_composes.trans
      (queueStands_composes.trans
        (t := { s with speech := { s.speech with nextSequence := s.speech.nextSequence + 1 } }) ⟨rfl, rfl⟩
        (withPlayer_queueStands _ pl _))
      (queueStands_composes.foldl _ (fun t ch => takeChannel_queueStands t pl ch) _ _))
    (checkPlayer_queueStands _ pl)

theorem preemptPlayer_queueStands (s : Live) (l : List Nat) (pl : Player) : QueueStands s (s.preemptPlayer l pl) :=
  ChainRule.either (stopPlay_queueStands s pl _) (queueStands_composes.refl s)

theorem setEvac_queueStands (s : Live) (e : Evacuation) :
    QueueStands s { s with speech := { s.speech with evac := e } } := ⟨rfl, rfl⟩

theorem evacTake_queueStands (s : Live) (k : Nat) : QueueStands s (s.evacTake k) := by
  unfold Live.evacTake
  dsimp only
  refine queueStands_composes.trans ?_ (takeUp_queueStands _ _ _)
  refine queueStands_composes.trans ?_ (setEvac_queueStands _ _)
  have both : QueueStands s ((s.preemptPlayer s.speech.evac.channels .a).preemptPlayer s.speech.evac.channels .b) :=
    queueStands_composes.trans (preemptPlayer_queueStands s _ .a) (preemptPlayer_queueStands _ _ .b)
  exact ChainRule.either (queueStands_composes.trans both (stopPlay_queueStands _ _ _)) both

theorem evacBegin_queueStands (s : Live) : QueueStands s s.evacBegin := by
  unfold Live.evacBegin
  split
  · exact evacTake_queueStands s _
  · exact ⟨rfl, rfl⟩

theorem joinPlay_queueStands (s : Live) (pl : Player) (ch : Nat) : QueueStands s (s.joinPlay pl ch) :=
  ChainRule.either (queueStands_composes.refl s)
    (queueStands_composes.trans (preemptPlayer_queueStands s [ch] (otherPlayer pl)) (takeChannel_queueStands _ pl ch))

theorem evacChange_queueStands (s : Live) (pl : Player) : QueueStands s (s.evacChange pl) := by
  unfold Live.evacChange
  extract_lets chs c t u
  have released : QueueStands s u :=
    queueStands_composes.trans (withPlayer_queueStands s pl _)
      (queueStands_composes.foldl _
        (fun v ch => ChainRule.either (queueStands_composes.refl v) (withChannel_queueStands v ch _)) _ t)
  exact queueStands_composes.trans
    (queueStands_composes.trans released (queueStands_composes.foldl _ (fun v ch => joinPlay_queueStands v pl ch) _ u))
    (checkPlayer_queueStands _ pl)

/-- A grant pass over an empty queue grants nothing (R161). -/
theorem grants_emptyQueue {s : Live} (h : s.speech.queue = []) : s.grants = s := by
  rw [Live.grants, h]
  rfl

theorem evacDemand_emptyQueue {s : Live} (h : s.speech.queue = []) (chs : List Nat) (context : Option Nat) :
    QueueStands s (s.evacDemand chs context) := by
  unfold Live.evacDemand
  extract_lets st t u
  have taken : QueueStands s t := ⟨rfl, rfl⟩
  have changed : QueueStands t u := by
    unfold u
    split
    · split
      · exact queueStands_composes.trans (stopPlay_queueStands t _ _) ⟨rfl, rfl⟩
      · exact ⟨rfl, rfl⟩
    · split
      · exact evacBegin_queueStands t
      · exact evacChange_queueStands t _
      · exact queueStands_composes.refl t
  have both := queueStands_composes.trans taken changed
  rw [grants_emptyQueue (both.1.trans h)]
  exact both

/-! ## Where a zone latches -/

theorem handSpeech_emptyQueue {s : Live} (h : s.speech.queue = []) (before : Demand) :
    QueueStands s (s.handSpeech before) :=
  ChainRule.either (queueStands_composes.refl s) (evacDemand_emptyQueue h _ _)

theorem fireSet_only (s : Live) (g : ShutterGear) : Keeps chainParts s { s with gear := g } := by
  exact keeps_of (by intro q hq; cases q <;> simp_all [samePart]) rfl rfl

theorem issueAlarm_only (s : Live) (z : Nat) : Keeps chainParts s (s.issueAlarm z) :=
  keeps_trans (fireSet_only s _) (issue_only _ z)

section
variable {s : Live} (idle : s.closing.state = .idle) (z d : Nat)
include idle

theorem latch_masksStand : MasksStand s (s.latch z d) := by
  rw [latch_eq, handAlarm_idle (s := s.enterAlarm z d) idle]
  refine MasksStand.next ?_ (handSpeech_only _ _)
  refine masksStand_composes.trans ?_ (handCircuits_masksStand _ _)
  exact MasksStand.next (t := s.enterAlarm z d) (masksStand_of_circuits rfl) (issueAlarm_only _ z)

theorem latch_emptyQueue (h : s.speech.queue = []) : QueueStands s (s.latch z d) := by
  rw [latch_eq, handAlarm_idle (s := s.enterAlarm z d) idle]
  have issued : QueueStands s ((s.enterAlarm z d).issueAlarm z) :=
    QueueStands.next (t := s.enterAlarm z d) ⟨rfl, rfl⟩ (issueAlarm_only _ z)
  have circuits := issued.next (handCircuits_only _ s.demand.circuits)
  exact queueStands_composes.trans circuits (handSpeech_emptyQueue (circuits.1.trans h) _)

end

end Sys2Proof.Machine

/-! # The zones that latch at a cold start

The zones with a listed detector in ALARM latch in increasing number (R94). Each latches on what the field and the plan
say, which no latching changes, so what the first `n` latchings have done is stated over the state before them. -/

namespace Sys2Proof.Machine

/-! ## What the zones are judged on -/

theorem Stands.detector {s t : Live} (h : Stands s t) (d : Nat) : t.detector d = s.detector d := by
  simp only [Live.detector, h.detectors]

theorem plan_of_store {s t : Live} (h : t.store = s.store) : t.plan = s.plan := by
  simp only [Live.plan, h]

/-- The lowest alarmed detector of a zone rests on the inputs and the plan alone. -/
theorem Stands.alarmedDetector {s t : Live} (h : Stands s t) (hp : t.store = s.store) (z : Nat) :
    t.alarmedDetector z = s.alarmedDetector z := by
  simp only [Live.alarmedDetector, h.detector, plan_of_store hp]

theorem Stands.lineCondition {s t : Live} (h : Stands s t) (hp : t.store = s.store) (z : Nat) :
    t.lineCondition z = s.lineCondition z := by
  simp only [Live.lineCondition, h.detector, plan_of_store hp]

theorem lineCondition_cases (s : Live) (z : Nat) : s.lineCondition z = .fault ∨ s.lineCondition z = .normal := by
  unfold Live.lineCondition
  exact ite_eq_or_eq _ _ _

/-- A zone that is not present lists no detector. -/
theorem present_of_alarmedDetector {s : Live} {z d : Nat} (h : s.alarmedDetector z = some d) :
    (s.plan.zone z).present = true := by
  have listed := List.find?_some h
  simp only [Plan.detectorsOf, Bool.and_eq_true] at listed
  by_contra absent
  simp [absent] at listed

/-- Deriving afresh leaves no zone isolated or in ALARM (R94). -/
theorem derived_zone (s : Live) {z : Nat} (hz : z < 16) : (s.deriveZones false).zone z =
    ⟨((s.deriveZones false).plan.zone z).present, (s.deriveZones false).lineCondition z, false, none, none⟩ := by
  rw [(deriveZones_stands s false).lineCondition rfl]
  simp only [Live.zone, Live.deriveZones, Bank.read_build _ _ _ _ hz]
  rfl

/-! ## The zones latch in increasing number -/

/-- A cold start before its zones latch: the chain at rest, no programme, an empty speak queue, no zone isolated. -/
structure AwaitsLatching (s : Live) : Prop where
  atRest : s.chain.state.atRest = true
  idle : s.closing.state = .idle
  queue : s.speech.queue = []
  inService : ∀ z, z < 16 → (s.zone z).state ≠ .isolated

/-- The detector with which zone `z` has latched once the zones below `n` have. -/
def Live.latchedBelow (s : Live) (n z : Nat) : Option Nat := if z < n then s.alarmedDetector z else none

/-- Whether a zone below `n` latches and calls for a fire stop. -/
def Live.stopsBelow (s : Live) (n : Nat) : Bool :=
  (List.range n).any fun z => (s.alarmedDetector z).isSome && s.plan.callsFireStop z

/-- What the latching of the zones below `n` has made of `s`. -/
structure LatchedBelow (s : Live) (n : Nat) (t : Live) : Prop where
  keeps : Keeps zoneParts s t
  stands : Stands s t
  zones : ∀ z, t.zone z = ((s.latchedBelow n z).map (s.latchedZone z)).getD (s.zone z)
  offered : ∀ z d, s.latchedBelow n z = some d → t.offered (.zoneAlarm z d)
  chain : t.chain = { s.chain with state := if s.stopsBelow n then .held .fire else s.chain.state }
  wear : ShutterWear s t
  closing : t.closing = s.closing
  queue : QueueStands s t
  masks : MasksStand s t
  quiet : (∀ z, z < n → s.alarmedDetector z = none) → t = s

theorem latchedBelow_zero (s : Live) : LatchedBelow s 0 s where
  keeps := keeps_refl _ s
  stands := stands_refl s
  zones _ := rfl
  offered _ _ h := by simp [Live.latchedBelow] at h
  chain := rfl
  wear := shutterWear_composes.refl s
  closing := rfl
  queue := queueStands_composes.refl s
  masks := masksStand_composes.refl s
  quiet _ := rfl

/-- The zone that latches next. -/
def Live.latchNext (s : Live) (z : Nat) : Live :=
  match s.alarmedDetector z with
  | some d => if (s.zone z).state = .isolated then s else s.latch z d
  | none => s

theorem latchAlarmed_eq (s : Live) : s.latchAlarmed = (List.range 16).foldl Live.latchNext s := rfl

theorem stopsBelow_succ (s : Live) (n : Nat) :
    s.stopsBelow (n + 1) = (s.stopsBelow n || ((s.alarmedDetector n).isSome && s.plan.callsFireStop n)) := by
  simp only [Live.stopsBelow, List.range_succ, List.any_append, List.any_cons, List.any_nil, Bool.or_false]

theorem latchedBelow_succ_other (s : Live) {n z : Nat} (h : z ≠ n) : s.latchedBelow (n + 1) z = s.latchedBelow n z := by
  have : z < n + 1 ↔ z < n := by omega
  simp only [Live.latchedBelow, this]

theorem latchedBelow_succ_same (s : Live) (n : Nat) : s.latchedBelow (n + 1) n = s.alarmedDetector n := by
  simp [Live.latchedBelow]

/-- The notice of the alarm stands through what the alarm is handed to. -/
theorem latch_offered (s : Live) (z d : Nat) : (s.latch z d).offered (.zoneAlarm z d) := by
  rw [latch_eq]
  have posted := post_offered (s.withZone z (s.latchedZone z d)) (.zoneAlarm z d)
  exact (handAlarm_only _ _ z true).offered ((post_only _ (zoneNote z (s.latchedZone z d))).offered posted)

section
variable {s t : Live} {n : Nat} (start : AwaitsLatching s) (h : LatchedBelow s n t)
include start h

theorem LatchedBelow.atRest : t.chain.state.atRest = true := by
  rw [h.chain]
  dsimp only
  split
  · rfl
  · exact start.atRest

theorem LatchedBelow.succ_latch (hn : n < 16) {d : Nat} (alarmed : s.alarmedDetector n = some d) :
    LatchedBelow s (n + 1) (t.latch n d) := by
  have store : t.store = s.store := h.keeps.parts .store (by decide)
  have idle : t.closing.state = .idle := by rw [h.closing]; exact start.idle
  have ⟨chain, wear, closing⟩ := latch_atRest (h.atRest start) idle n d
  have zone : t.zone n = s.zone n := by simpa [Live.latchedBelow] using h.zones n
  have latched : t.latchedZone n d = s.latchedZone n d := by simp only [Live.latchedZone, zone, h.stands.seconds]
  refine ⟨keeps_trans h.keeps (latch_only t n d), h.stands.trans (latch_stands t n d), fun z => ?_, fun z d' hd => ?_,
    ?_, shutterWear_composes.trans h.wear wear, closing.trans h.closing,
    queueStands_composes.trans h.queue (latch_emptyQueue idle n d (h.queue.1.trans start.queue)),
    masksStand_composes.trans h.masks (latch_masksStand idle n d), fun none_alarmed => ?_⟩
  case refine_1 =>
    rw [Live.zone, latch_zones]
    by_cases hz : z = n
    · subst hz
      rw [Bank.read_put_same _ _ _ _ hn, latchedBelow_succ_same, alarmed, latched]
      rfl
    · rw [Bank.read_put_other _ _ _ _ _ (Ne.symm hz), latchedBelow_succ_other s hz]
      exact h.zones z
  case refine_2 =>
    by_cases hz : z = n
    · subst hz
      rw [latchedBelow_succ_same, alarmed] at hd
      cases hd
      exact latch_offered t z d
    · exact (latch_only t n d).offered (h.offered z d' ((latchedBelow_succ_other s hz).symm.trans hd))
  case refine_3 =>
    rw [chain, h.chain, Live.restAfterIssue, plan_of_store store, h.chain, stopsBelow_succ, alarmed]
    cases s.stopsBelow n <;> cases s.plan.callsFireStop n <;> rfl
  case refine_4 => rw [none_alarmed n (Nat.lt_succ_self n)] at alarmed; cases alarmed

omit start in
theorem LatchedBelow.succ_quiet (quiet : s.alarmedDetector n = none) : LatchedBelow s (n + 1) t := by
  have same : ∀ z, s.latchedBelow (n + 1) z = s.latchedBelow n z := by
    intro z
    by_cases hz : z = n
    · subst hz
      rw [latchedBelow_succ_same, quiet]
      simp [Live.latchedBelow]
    · exact latchedBelow_succ_other s hz
  exact { h with
    zones := fun z => by rw [same]; exact h.zones z
    offered := fun z d hd => h.offered z d ((same z).symm.trans hd)
    chain := by rw [stopsBelow_succ, quiet]; simpa using h.chain
    quiet := fun none_alarmed => h.quiet fun z hz => none_alarmed z (Nat.lt_succ_of_lt hz) }

theorem LatchedBelow.succ (hn : n < 16) : LatchedBelow s (n + 1) (t.latchNext n) := by
  have alarmed := h.stands.alarmedDetector (h.keeps.parts .store (by decide)) n
  have zone : t.zone n = s.zone n := by simpa [Live.latchedBelow] using h.zones n
  unfold Live.latchNext
  rw [alarmed, zone]
  split
  · next d hd =>
    rw [if_neg (start.inService n hn)]
    exact h.succ_latch start hn hd
  · next hd => exact h.succ_quiet hd

end

/-- What the latching of every zone with an alarmed detector makes of a cold start. -/
theorem latchAlarmed_latched {s : Live} (start : AwaitsLatching s) : LatchedBelow s 16 s.latchAlarmed := by
  have below : ∀ n, n ≤ 16 → LatchedBelow s n ((List.range n).foldl Live.latchNext s) := by
    intro n
    induction n with
    | zero => exact fun _ => latchedBelow_zero s
    | succ n ih =>
      intro hn
      rw [List.range_succ, List.foldl_append]
      exact (ih (by omega)).succ start (by omega)
  rw [latchAlarmed_eq]
  exact below 16 (le_refl _)

end Sys2Proof.Machine

/-! # What a cold start makes of the blocks

The blocks' start states, the shutters derived from their starting limits (R97), the zones derived and latched (R94),
then the push lines handed (R5); every clause is read off these in turn. -/

namespace Sys2Proof.Machine

/-! ## The shutters derived from their starting limits (R97) -/

/-- One shutter derived, with its outputs and its notice. -/
def Live.deriveShutter (s : Live) (k : Nat) : Live :=
  ((s.withShutter k (derivedShutter (s.input k))).writeGear k (derivedShutter (s.input k)).state).post
    (shutterNote k (derivedShutter (s.input k)))

theorem deriveShutters_eq (s : Live) : s.deriveShutters = (List.range 32).foldl Live.deriveShutter s := rfl

theorem deriveShutter_only (s : Live) (k : Nat) : Keeps gearParts s (s.deriveShutter k) :=
  Keeps.next (Keeps.next (keeps_widen (withShutter_only s k _)) (writeGear_only _ k _)) (post_only _ _)

theorem deriveShutter_stands (s : Live) (k : Nat) : Stands s (s.deriveShutter k) :=
  Stands.after (t := s.withShutter k (derivedShutter (s.input k)))
    ((writeGear_stands _ k (derivedShutter (s.input k)).state).trans (post_stands _ _)) rfl rfl

theorem deriveShutters_only (s : Live) : Keeps gearParts s s.deriveShutters := keeps_foldl _ deriveShutter_only _ s

theorem deriveShutters_stands (s : Live) : Stands s s.deriveShutters := stands_foldl _ deriveShutter_stands _ s

theorem deriveShutter_gear (s : Live) (k : Nat) :
    (s.deriveShutter k).gear = (s.withShutter k (derivedShutter (s.input k))).gear :=
  (writeGear_only (s.withShutter k (derivedShutter (s.input k))) k _).parts .gear (by decide)

theorem derivedShutter_state (i : GearInput) : (derivedShutter i).state =
    match i.up.value, i.down.value with
    | true, false => .opened
    | false, true => .closed
    | false, false => .unplaced
    | true, true => .jammed := by
  unfold derivedShutter
  cases i.up.value <;> cases i.down.value <;> rfl

/-- Each shutter's state stands as its own limits derive it. -/
theorem shutter_deriveShutters (s : Live) {k : Nat} (hk : k < 32) :
    (s.deriveShutters.shutter k).state = (derivedShutter (s.input k)).state := by
  rw [deriveShutters_eq]
  refine foldl_establishes (P := fun t => (t.shutter k).state = (derivedShutter (s.input k)).state)
    (Q := fun t => Stands s t) (fun t p _ h => h.trans (deriveShutter_stands t p)) (fun t h => ?_) (fun t p other h => ?_)
    List.nodup_range (List.mem_range.mpr hk) (stands_refl s)
  · rw [shutter_of_gear (deriveShutter_gear t k)]
    have own : (t.withShutter k (derivedShutter (t.input k))).shutter k = derivedShutter (t.input k) :=
      Bank.read_put_same _ _ _ _ hk
    rw [own, derivedShutter_state, derivedShutter_state, h.up, h.down]
  · rw [shutter_of_gear (deriveShutter_gear t p), shutter_withShutter_other t _ other]
    exact h

/-! ## The push lines handed (R5) -/

/-- One push line handed as a change from IDLE. -/
def Live.handPush (s : Live) (p : Nat) : Live :=
  if (s.pushInput p).line.value = .idle then s else s.pushChange p .idle (s.pushInput p).line.value

theorem handPushes_eq (s : Live) : s.handPushes = (List.range 64).foldl Live.handPush s := rfl

theorem handPushes_only (s : Live) : Keeps callParts s s.handPushes := by
  rw [handPushes_eq]
  exact keeps_foldl _ (fun t p => keeps_ite (keeps_refl _ t) (pushChange_only t p _ _)) _ s

theorem handPushes_stands (s : Live) : Stands s s.handPushes := by
  rw [handPushes_eq]
  exact stands_foldl _ (fun t p => stands_ite (stands_refl t) (pushChange_stands t p _ _)) _ s

theorem handPushes_masksStand (s : Live) : MasksStand s s.handPushes := by
  rw [handPushes_eq]
  exact masksStand_composes.foldl _
    (fun t p => ChainRule.either (masksStand_composes.refl t) (pushChange_masksStand t p _ _)) _ s

/-! ## The cold start, block by block -/

section
variable (n : NonVolatile) (i : ColdStart) (free : Nat)

/-- The blocks' start states once STARTED is posted. -/
def coldStarted : Live := (startLive n i free).post (.started .cold n.valid)

/-- The same with WEAR LOST, where it is due. -/
def coldNotified : Live := (coldStarted n i free).postIf n.readWear.isNone .wearLost

/-- The cold start before the zones latch. -/
def coldDerived : Live := (coldNotified n i free).deriveShutters.deriveZones false

theorem coldStartLive_eq : coldStartLive n i free = (coldDerived n i free).latchAlarmed.handPushes := rfl

theorem coldNotified_only : Keeps portsOnly (coldStarted n i free) (coldNotified n i free) := postIf_only _ _ _

/-- What is derived before the zones latch. -/
abbrev derivedParts : List Part := [.zones, .gear, .image, .loop, .portC, .portF]

theorem deriveZones_zonesOnly (s : Live) : Keeps derivedParts s (s.deriveZones false) :=
  keeps_of (by intro q hq; cases q <;> simp_all [samePart, Live.deriveZones]) rfl rfl

theorem deriveZones_gear (s : Live) (keep : Bool) : (s.deriveZones keep).gear = s.gear := rfl

theorem coldDerived_only : Keeps derivedParts (coldNotified n i free) (coldDerived n i free) :=
  keeps_trans (keeps_widen (deriveShutters_only _)) (deriveZones_zonesOnly _)

theorem coldDerived_started : Keeps derivedParts (coldStarted n i free) (coldDerived n i free) :=
  keeps_trans (keeps_widen (coldNotified_only n i free)) (coldDerived_only n i free)

theorem coldDerived_stands : Stands (coldNotified n i free) (coldDerived n i free) :=
  (deriveShutters_stands _).trans (deriveZones_stands _ false)

theorem coldDerived_zone {z : Nat} (hz : z < 16) : (coldDerived n i free).zone z =
    ⟨((coldDerived n i free).plan.zone z).present, (coldDerived n i free).lineCondition z, false, none, none⟩ :=
  derived_zone _ hz

theorem coldDerived_awaits : AwaitsLatching (coldDerived n i free) := by
  have keeps := coldDerived_started n i free
  refine ⟨?_, ?_, ?_, fun z hz => ?_⟩
  · rw [show (coldDerived n i free).chain = (coldStarted n i free).chain from keeps.parts .chain (by decide)]
    rfl
  · rw [show (coldDerived n i free).closing = (coldStarted n i free).closing from keeps.parts .closing (by decide)]
    rfl
  · rw [show (coldDerived n i free).speech = (coldStarted n i free).speech from keeps.parts .speech (by decide)]
    rfl
  · rw [coldDerived_zone n i free hz]
    rcases lineCondition_cases (coldDerived n i free) z with h | h <;> simp [h]

theorem coldLatched : LatchedBelow (coldDerived n i free) 16 (coldDerived n i free).latchAlarmed :=
  latchAlarmed_latched (coldDerived_awaits n i free)

theorem coldStartLive_only : Keeps zoneParts (coldNotified n i free) (coldStartLive n i free) :=
  Keeps.next (Keeps.next (keeps_widen (coldDerived_only n i free)) (coldLatched n i free).keeps) (handPushes_only _)

theorem coldStartLive_stands : Stands (coldNotified n i free) (coldStartLive n i free) :=
  ((coldDerived_stands n i free).trans (coldLatched n i free).stands).trans (handPushes_stands _)

/-! ### The clock, the store and the ports -/

theorem coldStartLive_clock : (coldStartLive n i free).seconds = 0 ∧ (coldStartLive n i free).startCause = .cold ∧
    (coldStartLive n i free).rateIsHigh = i.strapHigh ∧ (coldStartLive n i free).restart = false := by
  have ⟨seconds, cause, rate, restart, _⟩ :=
    (keeps_trans (keeps_widen (coldNotified_only n i free)) (coldStartLive_only n i free)).parts .clock (by decide)
  exact ⟨seconds, cause, rate, restart⟩

theorem coldStartLive_store : (coldStartLive n i free).store = startStore n :=
  (keeps_trans (keeps_widen (coldNotified_only n i free)) (coldStartLive_only n i free)).parts .store (by decide)

/-- A port's exchange of frames begins afresh, and STARTED is the first notice queued (R186, R193). -/
theorem coldStartLive_port (p : Port) : ((coldStartLive n i free).port p).wire = (.hunting, 0, false, none) ∧
    ((coldStartLive n i free).port p).notices.head? = some ⟨.started .cold n.valid, 0, false⟩ := by
  have keeps : Keeps zoneParts (coldStarted n i free) (coldStartLive n i free) :=
    keeps_trans (keeps_widen (coldNotified_only n i free)) (coldStartLive_only n i free)
  obtain ⟨receiver, gap, pending, reply⟩ := keeps.wire p
  obtain ⟨later, notices⟩ := (keeps.notices p).1
  rw [PortRecord.wire, receiver, gap, pending, reply, ← notices]
  cases p <;> exact ⟨rfl, rfl⟩

theorem coldStartLive_wearLost (h : n.readWear = none) : (coldStartLive n i free).offered .wearLost := by
  refine (coldStartLive_only n i free).offered ?_
  rw [coldNotified, h]
  exact post_offered _ _

theorem coldStartLive_modules : (coldStartLive n i free).loop.modules = (startLoop i).modules := by
  rw [(coldStartLive_stands n i free).modules]
  exact congrArg FieldLoop.modules ((coldNotified_only n i free).parts .loop (by decide))

/-! ### The zones -/

theorem coldStartLive_derivedStore : (coldStartLive n i free).store = (coldDerived n i free).store :=
  ((handPushes_only _).parts .store (by decide)).trans ((coldLatched n i free).keeps.parts .store (by decide))

theorem coldStartLive_derivedStands : Stands (coldDerived n i free) (coldStartLive n i free) :=
  (coldLatched n i free).stands.trans (handPushes_stands _)

theorem coldStartLive_zone {z : Nat} (hz : z < 16) :
    ((coldStartLive n i free).alarmedDetector z = none → (coldStartLive n i free).zone z =
      ⟨((coldStartLive n i free).plan.zone z).present, (coldStartLive n i free).lineCondition z, false, none, none⟩) ∧
    (∀ d, (coldStartLive n i free).alarmedDetector z = some d →
      (coldStartLive n i free).zone z = ⟨true, .alarm, false, some d, some 0⟩ ∧
      (coldStartLive n i free).offered (.zoneAlarm z d)) := by
  have stands := coldStartLive_derivedStands n i free
  have store := coldStartLive_derivedStore n i free
  have zones : (coldStartLive n i free).zone z = (coldDerived n i free).latchAlarmed.zone z := by
    simp only [Live.zone, coldStartLive_eq]
    rw [show (coldDerived n i free).latchAlarmed.handPushes.zones = _ from (handPushes_only _).parts .zones (by decide)]
  have derived := coldDerived_zone n i free hz
  have latched : (coldDerived n i free).latchedBelow 16 z = (coldDerived n i free).alarmedDetector z := if_pos hz
  rw [stands.alarmedDetector store, stands.lineCondition store, plan_of_store store, zones,
    (coldLatched n i free).zones z, latched]
  constructor
  · intro quiet
    rw [quiet]
    exact derived
  · intro d alarmed
    have seconds : (coldDerived n i free).seconds = 0 :=
      stands.seconds.symm.trans (coldStartLive_clock n i free).1
    refine ⟨?_, (handPushes_only _).offered ((coldLatched n i free).offered z d (latched.trans alarmed))⟩
    simp only [alarmed, Option.map_some, Option.getD_some, Live.latchedZone, derived, seconds,
      present_of_alarmedDetector alarmed]

/-- A zone is in ALARM exactly where it has latched. -/
theorem coldStartLive_inAlarm {z : Nat} (hz : z < 16) :
    (coldStartLive n i free).inAlarm z = ((coldDerived n i free).alarmedDetector z).isSome := by
  have ⟨quiet, alarmed⟩ := coldStartLive_zone n i free hz
  have same := (coldStartLive_derivedStands n i free).alarmedDetector (coldStartLive_derivedStore n i free) z
  rw [← same, Live.inAlarm]
  cases h : (coldStartLive n i free).alarmedDetector z with
  | none =>
    rw [quiet h]
    rcases lineCondition_cases (coldStartLive n i free) z with l | l <;> rw [l] <;> rfl
  | some d => rw [(alarmed d h).1]; rfl

theorem inAlarm_beyond (s : Live) {z : Nat} (hz : 16 ≤ z) : s.inAlarm z = false := by
  rw [Live.inAlarm, Live.zone, Bank.read_beyond _ _ _ hz]
  rfl

theorem coldDerived_noneAlarmed (h : ∀ z, (coldStartLive n i free).inAlarm z = false) :
    (coldDerived n i free).latchAlarmed = coldDerived n i free :=
  (coldLatched n i free).quiet fun z hz => by
    simpa [coldStartLive_inAlarm n i free hz] using h z

/-! ### The chain and its monitor -/

theorem coldDerived_stopsBelow : (coldDerived n i free).stopsBelow 16 = true ↔
    ∃ z, (coldStartLive n i free).inAlarm z = true ∧ (coldStartLive n i free).plan.callsFireStop z = true := by
  simp only [Live.stopsBelow, List.any_eq_true, List.mem_range, Bool.and_eq_true,
    plan_of_store (coldStartLive_derivedStore n i free)]
  constructor
  · rintro ⟨z, hz, alarmed, calls⟩
    exact ⟨z, (coldStartLive_inAlarm n i free hz).trans alarmed, calls⟩
  · rintro ⟨z, alarm, calls⟩
    have hz : z < 16 := by
      by_contra beyond
      rw [inAlarm_beyond _ (Nat.le_of_not_lt beyond)] at alarm
      cases alarm
    exact ⟨z, hz, (coldStartLive_inAlarm n i free hz).symm.trans alarm, calls⟩

theorem coldStartLive_chain : (coldStartLive n i free).chain = { ChainDrive.start with
    state := if (coldDerived n i free).stopsBelow 16 then .held .fire else .parked
    flapTop := i.first.pins.flapTop, flapBottom := i.first.pins.flapBottom, slow := i.first.pins.slow } := by
  have derived : (coldDerived n i free).chain = (coldStarted n i free).chain :=
    (coldDerived_started n i free).parts .chain (by decide)
  have handed : (coldStartLive n i free).chain = (coldDerived n i free).latchAlarmed.chain :=
    (handPushes_only _).parts .chain (by decide)
  rw [handed, (coldLatched n i free).chain, derived]
  rfl

theorem coldDerived_monitor :
    (coldDerived n i free).monitor = .start (startStore n).active (n.readWear.getD .zero) :=
  (coldDerived_started n i free).parts .monitor (by decide)

theorem coldStartLive_monitor : ShutterWear (coldDerived n i free) (coldStartLive n i free) :=
  (coldLatched n i free).wear.next (handPushes_only _)

theorem coldStartLive_quietMonitor (h : ∀ z, (coldStartLive n i free).inAlarm z = false) :
    (coldStartLive n i free).monitor = (coldDerived n i free).monitor := by
  rw [coldStartLive_eq, coldDerived_noneAlarmed n i free h]
  exact (handPushes_only _).parts .monitor (by decide)

/-! ### The programme, the speak queue, the circuits and the shutters -/

theorem coldStartLive_closing : (coldStartLive n i free).closing.state = .idle := by
  have handed : (coldStartLive n i free).closing = (coldDerived n i free).latchAlarmed.closing :=
    (handPushes_only _).parts .closing (by decide)
  rw [handed, (coldLatched n i free).closing]
  exact (coldDerived_awaits n i free).idle

theorem coldDerived_speech : (coldDerived n i free).speech = .start :=
  (coldDerived_started n i free).parts .speech (by decide)

theorem coldStartLive_speech : (coldStartLive n i free).speech.queue = [] ∧
    (coldStartLive n i free).speech.nextTag = 1 := by
  have ⟨queue, tag⟩ : QueueStands (coldDerived n i free) (coldStartLive n i free) :=
    (coldLatched n i free).queue.next (handPushes_only _)
  rw [queue, tag, coldDerived_speech]
  exact ⟨rfl, rfl⟩

theorem coldDerived_circuits : (coldDerived n i free).circuits = startCircuits (startStore n).active :=
  (coldDerived_started n i free).parts .circuits (by decide)

theorem startCircuits_read (p : Plan) {c : Nat} (hc : c < 16) : (startCircuits p).read c ⟨none, 0, none⟩ =
    ⟨none, if (p.circuit c).present then (p.circuit c).resetMask else 0, none⟩ := Bank.read_build _ _ _ _ hc

theorem startCircuits_pending (p : Plan) (c : Nat) : ((startCircuits p).read c ⟨none, 0, none⟩).pendingMask = none := by
  by_cases hc : c < 16
  · rw [startCircuits_read p hc]
  · rw [Bank.read_beyond _ _ _ (Nat.le_of_not_lt hc)]

theorem coldStartLive_circuit {c : Nat} (hc : c < 16) : ((coldStartLive n i free).circuit c).pendingMask = none ∧
    ((coldStartLive n i free).circuit c).mask =
      if ((coldStartLive n i free).plan.circuit c).present then ((coldStartLive n i free).plan.circuit c).resetMask
      else 0 := by
  have circuit : ∀ c, (coldDerived n i free).circuit c = (startCircuits (startStore n).active).read c ⟨none, 0, none⟩ :=
    fun c => by rw [Live.circuit, coldDerived_circuits]
  have masks := masksStand_composes.trans (coldLatched n i free).masks (handPushes_masksStand _)
  obtain ⟨pending, mask⟩ := masks (fun c => by rw [circuit]; exact startCircuits_pending _ c) c
  refine ⟨pending, mask.trans ?_⟩
  rw [circuit, startCircuits_read _ hc, Live.plan, coldStartLive_store]

theorem coldStartLive_shutter (h : ∀ z, (coldStartLive n i free).inAlarm z = false) {k : Nat} (hk : k < 32) :
    ((coldStartLive n i free).shutter k).state =
      match ((coldStartLive n i free).input k).up.value, ((coldStartLive n i free).input k).down.value with
      | true, false => .opened
      | false, true => .closed
      | false, false => .unplaced
      | true, true => .jammed := by
  have gear : (coldStartLive n i free).gear = (coldNotified n i free).deriveShutters.gear := by
    rw [coldStartLive_eq, coldDerived_noneAlarmed n i free h]
    exact ((handPushes_only (coldDerived n i free)).parts .gear (by decide)).trans (deriveZones_gear _ false)
  have stands := coldStartLive_stands n i free
  rw [shutter_of_gear gear, shutter_deriveShutters _ hk, derivedShutter_state, stands.up, stands.down]

end

end Sys2Proof.Machine

/-! # O60: RESET low, the loss of supply, and the cold start -/

namespace Sys2Proof.Machine

theorem resetLow_cuts (s : State) (torn : Bool) (on : s.power = .on) :
    exec (.resetLow torn) s = .next (cut s .resetLow torn) := if_pos on

theorem powerLoss_cuts (s : State) (torn : Bool) (supplied : s.power ≠ .off) :
    exec (.powerLoss torn) s = .next (cut s .off torn) := if_neg supplied

theorem coldStart_starts (s : State) (i : ColdStart) : exec (.coldStart i) s = .next { s with
    power := .on
    nv := { s.nv with lastIsB := s.nv.takenIsB }
    live := coldStartLive s.nv i s.live.free } := rfl

theorem powerLoss_off (s : State) (torn : Bool) (off : s.power = .off) : exec (.powerLoss torn) s = .next s := if_pos off

/-- The wear counts a cold start takes, by the places that hold a valid record (R47). -/
theorem readWear_counts (n : NonVolatile) : n.readWear.getD .zero =
    match n.wearA, n.wearB with
    | some a, some b => if b.sequence < a.sequence then a.counts else b.counts
    | some a, none => a.counts
    | none, some b => b.counts
    | none, none => .zero := by
  unfold NonVolatile.readWear
  cases n.wearA <;> cases n.wearB <;> rfl

theorem readWear_absent {n : NonVolatile} (a : n.wearA = none) (b : n.wearB = none) : n.readWear = none := by
  rw [NonVolatile.readWear, a, b]

theorem startStore_read (n : NonVolatile) : (startStore n).active = (if n.valid then n.plan else emptyPlan) ∧
    (startStore n).pending = (startStore n).active ∧ (startStore n).cursor = .closed ∧
    (startStore n).storeGood = n.valid := by
  unfold startStore
  cases n.valid <;> exact ⟨rfl, rfl, rfl, rfl⟩

section
variable (n : NonVolatile) (i : ColdStart) (free : Nat)

/-- The position is UNKNOWN at count 0, and every wear count but the shutters' is the record's (R47, R49). -/
theorem coldStartLive_count : (coldStartLive n i free).monitor.count = 0 ∧
    (coldStartLive n i free).monitor.position = .unknown ∧ (coldStartLive n i free).monitor.speed = 0 := by
  obtain ⟨w, monitor, -⟩ := coldStartLive_monitor n i free
  rw [monitor, coldDerived_monitor]
  exact ⟨rfl, rfl, rfl⟩

theorem coldStartLive_wear :
    let wear := n.readWear.getD .zero
    (coldStartLive n i free).monitor.wear.links = wear.links ∧ (coldStartLive n i free).monitor.wear.index = wear.index ∧
    (coldStartLive n i free).monitor.wear.emergencyStops = wear.emergencyStops ∧
    ((∀ z, (coldStartLive n i free).inAlarm z = false) → (coldStartLive n i free).monitor.wear = wear) := by
  obtain ⟨w, monitor, links, index, stops⟩ := coldStartLive_monitor n i free
  rw [coldDerived_monitor] at links index stops
  refine ⟨?_, ?_, ?_, fun quiet => ?_⟩
  · rw [monitor]; exact links
  · rw [monitor]; exact index
  · rw [monitor]; exact stops
  · rw [coldStartLive_quietMonitor n i free quiet, coldDerived_monitor]
    rfl

theorem coldStartLive_chainState :
    (coldStartLive n i free).chain = ChainDrive.mk (coldStartLive n i free).chain.state .brake none none none none none
      none none none false i.first.pins.flapTop i.first.pins.flapBottom i.first.pins.slow ∧
    ((∀ z, (coldStartLive n i free).inAlarm z = true → (coldStartLive n i free).plan.callsFireStop z = false) →
      (coldStartLive n i free).chain.state = .parked) ∧
    (∀ z, (coldStartLive n i free).inAlarm z = true → (coldStartLive n i free).plan.callsFireStop z = true →
      (coldStartLive n i free).chain.state = .held .fire) := by
  have stops := coldDerived_stopsBelow n i free
  have chain := coldStartLive_chain n i free
  generalize (coldDerived n i free).stopsBelow 16 = stop at stops chain
  have state : (coldStartLive n i free).chain.state = if stop then .held .fire else .parked :=
    congrArg ChainDrive.state chain
  refine ⟨?_, fun none_calls => ?_, fun z alarm calls => ?_⟩
  · rw [state, chain]
    rfl
  · refine state.trans (if_neg fun stopped => ?_)
    obtain ⟨z, alarm, calls⟩ := stops.mp stopped
    rw [none_calls z alarm] at calls
    cases calls
  · exact state.trans (if_pos (stops.mpr ⟨z, alarm, calls⟩))

end

/-- Settles O60: each clause is one block's lemma over the cold start. -/
theorem powerAndColdStart : Obligations.PowerAndColdStart := by
  refine ⟨fun s torn => ⟨fun on => ?_, fun supplied => ?_, powerLoss_off s torn⟩, fun s i => ?_⟩
  case refine_1 => rw [resetLow_cuts s torn on, cut_eq]
  case refine_2 => rw [powerLoss_cuts s torn supplied, cut_eq]
  case refine_3 =>
    have ⟨seconds, cause, rate, restart⟩ := coldStartLive_clock s.nv i s.live.free
    have ⟨count, position, speed⟩ := coldStartLive_count s.nv i s.live.free
    have ⟨queue, tag⟩ := coldStartLive_speech s.nv i s.live.free
    have store := coldStartLive_store s.nv i s.live.free
    have ⟨active, pending, cursor, good⟩ := startStore_read s.nv
    have ⟨modules, walked⟩ := startLoop_modules i
    have ⟨links, index, stops, quietWear⟩ := coldStartLive_wear s.nv i s.live.free
    have ⟨chain, parked, held⟩ := coldStartLive_chainState s.nv i s.live.free
    have closing := coldStartLive_closing s.nv i s.live.free
    have port := coldStartLive_port s.nv i s.live.free
    have lost : s.nv.wearA = none → s.nv.wearB = none → (coldStartLive s.nv i s.live.free).offered .wearLost :=
      fun a b => coldStartLive_wearLost s.nv i s.live.free (readWear_absent a b)
    have zones := fun z (hz : z < 16) => coldStartLive_zone s.nv i s.live.free hz
    have circuits := fun c (hc : c < 16) => coldStartLive_circuit s.nv i s.live.free hc
    have shutters := fun quiet k (hk : k < 32) => coldStartLive_shutter s.nv i s.live.free quiet (k := k) hk
    rw [← store] at active pending cursor good
    rw [← coldStartLive_modules s.nv i s.live.free] at modules walked
    rw [readWear_counts] at links index stops quietWear
    refine ⟨_, coldStart_starts s i, rfl, rfl, rfl, rfl, ?_⟩
    dsimp only
    clear store
    generalize coldStartLive s.nv i s.live.free = t at *
    exact ⟨seconds, cause, rate, restart, congrArg ChainDrive.drive chain, count, position, speed, closing, queue, tag,
      active, pending, cursor, good, port, modules, walked, ⟨links, index, stops, quietWear, lost⟩, chain, parked, held,
      zones, circuits, shutters⟩

end Sys2Proof.Machine

/-! # A request that is taken: what its port, its load and its reply become

A request whose rule is reached leaves its port and its load as R17 and R188 say, whatever its rule; the rule is then read off
`onLive_request_answered` or `onLive_request_waits`. -/

namespace Sys2Proof.Machine

-- one thread: a proof that waits for the theorems before it would hold a thread of its own
set_option Elab.async false

/-! ## The port's exchange -/

theorem onLive_of_on {s : State} (on : s.power = .on) (f : Live → Live) :
    onLive s f = .next { s with live := f s.live } := if_pos on

/-- The frame is taken first and the load broken after it; the two touch different parts. -/
theorem takeFrame_breakLoad (s : Live) (p : Port) (b : Cursor → Bool) :
    (s.takeFrame p).breakLoad p b = (s.breakLoad p b).takeFrame p := by
  unfold Live.breakLoad
  cases p
  · by_cases h : b s.store.cursor = true
    · rw [if_pos ⟨rfl, h⟩, if_pos ⟨rfl, h⟩]; rfl
    · rw [if_neg (h ·.2), if_neg (h ·.2)]
  · rw [if_neg (nofun ∘ And.left), if_neg (nofun ∘ And.left)]

theorem breakLoad_never (s : Live) (p : Port) : s.breakLoad p breaksNever = s := if_neg (nofun ∘ And.right)

theorem breakLoad_always (s : State) (p : Port) :
    ({ s with live := s.live.breakLoad p breaksAlways } : State) = s.loadClosed p := by
  cases p
  · exact congrArg (State.mk s.pending s.power s.samples s.nv) (if_pos ⟨rfl, rfl⟩)
  · exact congrArg (State.mk s.pending s.power s.samples s.nv) (if_neg (nofun ∘ And.left))

/-- A reply put on a port whose frame has been taken. -/
theorem takeFrame_putReply (s : State) (l : Live) (p : Port) (k : Kind) (r : Result) (f : Fields) :
    ({ s with live := (l.takeFrame p).putReply p k.replyCode r f } : State) =
      ({ s with live := l } : State).served p k r f := by
  cases p <;> rfl

theorem loadClosed_only (s : State) (p : Port) : onlyParts [.store] s.live (s.loadClosed p).live := by
  rw [← breakLoad_always]
  exact breakLoad_only s.live p _

/-! ## The checks of R188 -/

section
variable {s : State} {p : Port} {k : Kind} {b : Cursor → Bool} {fit : Bool} {h : Live → Handled}

/-- R188, step 2: the kind is not permitted on the port. -/
theorem onLive_request_notPermitted (taken : s.canTake .f k) (barred : k.onPortF = false) :
    onLive s (takeRequest .f k b fit h) = .next (s.served .f k .notPermitted .none) := by
  rw [onLive_of_on taken.1, takeRequest, if_pos taken.2, if_pos ⟨rfl, barred⟩, takeFrame_breakLoad]
  exact congrArg Host.Outcome.next (takeFrame_putReply s _ .f k _ _)

section
variable (taken : s.canTake p k) (permitted : p = .f → k.onPortF = true)
include taken permitted

/-- R188, step 3: the body does not fit. -/
theorem onLive_request_misfit (misfit : fit = false) : onLive s (takeRequest p k b fit h) =
    .next (({ s with live := s.live.breakLoad p b } : State).served p k .badLength .none) := by
  have allowed : ¬ (p = .f ∧ k.onPortF = false) := fun ⟨hp, hk⟩ => by simp [permitted hp] at hk
  rw [onLive_of_on taken.1, takeRequest, if_pos taken.2, if_neg allowed, if_pos misfit, takeFrame_breakLoad]
  exact congrArg Host.Outcome.next (takeFrame_putReply s _ p k _ _)

theorem onLive_request_handled (fits : fit = true) : onLive s (takeRequest p k b fit h) =
    .next { s with live := Live.putHandled p k (h ((s.live.breakLoad p b).takeFrame p)) } := by
  have allowed : ¬ (p = .f ∧ k.onPortF = false) := fun ⟨hp, hk⟩ => by simp [permitted hp] at hk
  rw [onLive_of_on taken.1, takeRequest, if_pos taken.2, if_neg allowed, if_neg (by simp [fits]), takeFrame_breakLoad]

/-- R188, step 4: the request's rule answers at once. -/
theorem onLive_request_answered {l : Live} {r : Result} {f : Fields} (fits : fit = true)
    (rule : h ((s.live.breakLoad p b).takeFrame p) = (l.takeFrame p, some (r, f))) :
    onLive s (takeRequest p k b fit h) = .next (({ s with live := l } : State).served p k r f) := by
  rw [onLive_request_handled taken permitted fits, rule]
  exact congrArg Host.Outcome.next (takeFrame_putReply s l p k r f)

/-- R22, R30: the reply comes at a later step. -/
theorem onLive_request_waits {l : Live} (fits : fit = true)
    (rule : h ((s.live.breakLoad p b).takeFrame p) = (l, none)) :
    onLive s (takeRequest p k b fit h) = .next { s with live := l } := by
  rw [onLive_request_handled taken permitted fits, rule]
  rfl

end

/-- A misfitting request that breaks no load. -/
theorem takeRequest_misfit (taken : s.canTake p k) (permitted : p = .f → k.onPortF = true) :
    onLive s (takeRequest p k breaksNever false h) = .next (s.served p k .badLength .none) := by
  have refused := onLive_request_misfit (b := breaksNever) (h := h) taken permitted rfl
  rwa [breakLoad_never] at refused

/-- A misfitting request that breaks a load. -/
theorem breakingRequest_misfit {α : Type} {h : α → Live → Handled} (taken : s.canTake p k)
    (permitted : p = .f → k.onPortF = true) :
    onLive s (breakingRequest p k .misfit h) = .next ((s.loadClosed p).served p k .badLength .none) := by
  rw [← breakLoad_always s p]
  exact onLive_request_misfit taken permitted rfl

end

/-! ## PLAN ADOPT beside the other requests -/

/-- A PLAN ADOPT that begins no store write changes the running part alone. -/
theorem execPlanAdopt_refused {s t : State} {p : Port} {body : Body Unit}
    (ran : onLive s (breakingRequest p .planAdopt body fun _ => planAdopt) = .next t)
    (on : s.power = .on) (writing : t.live.store.storeWriting = s.live.store.storeWriting) :
    exec (.planAdopt p body) s = .next t := by
  rw [onLive_of_on on] at ran
  obtain rfl : _ = t := Host.Outcome.next.inj ran
  change whenOn s _ = _
  have began : (s.live.store.storeWriting && !s.live.store.storeWriting) = false := by simp
  simp only [whenOn, if_pos on] at writing ⊢
  rw [writing, began]
  rfl

/-! ## O4: kinds not permitted on port F, and kind codes that name no request -/

theorem exec_notPermitted {i : Instr} {s : State} {k : Kind} (asks : requestOf i = some (.f, k))
    (barred : k.onPortF = false) (taken : s.canTake .f k) : exec i s = .next (s.served .f k .notPermitted .none) := by
  have refused : ∀ {b : Cursor → Bool} {fit : Bool} {h : Live → Handled},
      onLive s (takeRequest .f k b fit h) = .next (s.served .f k .notPermitted .none) :=
    onLive_request_notPermitted taken barred
  cases i <;> cases asks
  case planAdopt => exact execPlanAdopt_refused refused taken.1 rfl
  all_goals exact refused

theorem execUnknownKind_answers (p : Port) (code : Byte) (s : State) (on : s.power = .on)
    (takes : s.live.takes p code.toNat = true) (unknown : knownKind code.toNat = false) :
    exec (.unknownKind p code) s =
      .next { s with live := ((s.loadClosed p).live.takeFrame p).putReply p 0xFF .unknownKind .none } := by
  have due : (s.live.takes p code.toNat && !knownKind code.toNat) = true := by simp [takes, unknown]
  change onLive s (unknownKindStep p code) = _
  rw [onLive_of_on on, unknownKindStep, if_pos due, takeFrame_breakLoad]
  exact congrArg (fun l : State => Host.Outcome.next { s with live := (l.live.takeFrame p).putReply p 0xFF .unknownKind .none })
    (breakLoad_always s p)

/-- Settles O4. -/
theorem privilegedAndUnknownKinds : Obligations.PrivilegedAndUnknownKinds := by
  refine ⟨fun i s k asks barred taken => exec_notPermitted asks barred taken, fun p code s on takes unknown => ?_⟩
  refine ⟨_, execUnknownKind_answers p code s on takes unknown, ?_, ?_, ⟨rfl, rfl, rfl, rfl⟩, ?_⟩
  · cases p <;> rfl
  · cases p <;> rfl
  · have port : ∀ (t : Live) (r : PortRecord), onlyParts [.store, portPart p] t (t.withPort p r) := fun t r =>
      onlyParts_widen (withPort_only t p r) (by simp)
    exact onlyParts_trans (onlyParts_trans (onlyParts_widen (loadClosed_only s p) (by simp)) (port _ _)) (port _ _)

/-! ## O5: bodies that do not fit -/

theorem execPlanAdopt_misfit {s : State} (taken : s.canTake .c .planAdopt) :
    exec (.planAdopt .c .misfit) s = .next ((s.loadClosed .c).served .c .planAdopt .badLength .none) :=
  execPlanAdopt_refused (breakingRequest_misfit taken nofun) taken.1 rfl

theorem execPlanEntry_misfit {s : State} (taken : s.canTake .c .planEntry) : exec (.planEntry .c .misfit) s =
    match s.live.store.cursor with
    | .table _ _ => .next (s.served .c .planEntry .badLength .none)
    | _ => .next ((s.loadClosed .c).served .c .planEntry .badLength .none) := by
  have refused := onLive_request_misfit (b := breaksUnlessTable) (h := onBody .misfit planEntry) taken nofun rfl
  refine Eq.trans (b := onLive s _) rfl (refused.trans ?_)
  unfold Live.breakLoad
  cases s.live.store.cursor <;> rfl

theorem execSampleData_misfit {s : State} (taken : s.canTake .c .sampleData) : exec (.sampleData .c .misfit) s =
    match s.live.store.cursor with
    | .sample _ _ _ _ => .next (s.served .c .sampleData .badLength .none)
    | _ => .next ((s.loadClosed .c).served .c .sampleData .badLength .none) := by
  have refused := onLive_request_misfit (b := breaksUnlessSample) (h := onBody .misfit sampleData) taken nofun rfl
  refine Eq.trans (b := onLive s _) rfl (refused.trans ?_)
  unfold Live.breakLoad
  cases s.live.store.cursor <;> rfl

/-- Settles O5: every row but the two loads' and PLAN ADOPT is a read or a breaking request. -/
theorem misfitsAnsweredBadLength : Obligations.MisfitsAnsweredBadLength := by
  have read : ∀ {α : Type} {s : State} {p : Port} {k : Kind} {r : α → Live → Result × Fields}, k.onPortF = true →
      s.canTake p k → onLive s (readRequest p k .misfit r) = .next (s.served p k .badLength .none) :=
    fun hk taken => takeRequest_misfit taken fun _ => hk
  have breaks : ∀ {α : Type} {s : State} {p : Port} {k : Kind} {h : α → Live → Handled}, (p = .f → k.onPortF = true) →
      s.canTake p k →
      onLive s (breakingRequest p k .misfit h) = .next ((s.loadClosed p).served p k .badLength .none) :=
    fun hk taken => breakingRequest_misfit taken hk
  refine ⟨fun p s => ⟨read rfl, read rfl, read rfl, read rfl, read rfl, read rfl, read rfl,
      fun taken => ⟨read rfl taken, takeRequest_misfit taken fun _ => rfl⟩, read rfl,
      fun taken => takeRequest_misfit taken fun _ => rfl,
      breaks fun _ => rfl, breaks fun _ => rfl, breaks fun _ => rfl, breaks fun _ => rfl, breaks fun _ => rfl⟩,
    fun s => ⟨breaks nofun, breaks nofun, execPlanAdopt_misfit, breaks nofun, breaks nofun, breaks nofun, breaks nofun,
      breaks nofun, breaks nofun, breaks nofun, breaks nofun, breaks nofun, breaks nofun,
      fun taken => ⟨breaks nofun taken, breaks nofun taken⟩, breaks nofun,
      fun taken => ⟨breaks nofun taken, takeRequest_misfit taken nofun⟩, breaks nofun, breaks nofun, breaks nofun,
      breaks nofun, breaks nofun, execPlanEntry_misfit, execSampleData_misfit⟩⟩

end Sys2Proof.Machine

/-! # Status reads -/

namespace Sys2Proof.Machine

-- one thread: a proof that waits for the theorems before it would hold a thread of its own
set_option Elab.async false

/-- A read that does not look at the frame just taken on its port is answered from the state as it stands. -/
theorem readRequest_answered {α : Type} {s : State} {p : Port} {k : Kind} {a : α} {read : α → Live → Result × Fields}
    {r : Result} {f : Fields} (taken : s.canTake p k) (permitted : p = .f → k.onPortF = true)
    (frame : read a (s.live.takeFrame p) = read a s.live) (value : read a s.live = (r, f)) :
    onLive s (readRequest p k (.fits a) read) = .next (s.served p k r f) := by
  refine onLive_request_answered (l := s.live) taken permitted rfl ?_
  rw [breakLoad_never]
  exact congrArg (fun x => (s.live.takeFrame p, some x)) (frame.trans value)

/-! ## The reads with a selector -/

section
variable {s : State} {p : Port} {r : Result} {f : Fields}

theorem exec_zoneRead {x : ZoneSelector} (taken : s.canTake p .zoneRead) (value : zoneRead x s.live = (r, f)) :
    exec (.zoneRead p (.fits x)) s = .next (s.served p .zoneRead r f) :=
  readRequest_answered taken (fun _ => rfl) (by cases p <;> rfl) value

theorem exec_shutterRead {x : ShutterSelector} (taken : s.canTake p .shutterRead) (value : shutterRead x s.live = (r, f)) :
    exec (.shutterRead p (.fits x)) s = .next (s.served p .shutterRead r f) :=
  readRequest_answered taken (fun _ => rfl) (by cases p <;> rfl) value

theorem exec_callList {n : Nat} (taken : s.canTake p .callList) (value : callList n s.live = (r, f)) :
    exec (.callList p (.fits n)) s = .next (s.served p .callList r f) :=
  readRequest_answered taken (fun _ => rfl) (by cases p <;> rfl) value

theorem exec_planRead {x : PlanReadFields} (taken : s.canTake p .planRead) (value : planRead x s.live = (r, f)) :
    exec (.planRead p (.fits x)) s = .next (s.served p .planRead r f) :=
  readRequest_answered taken (fun _ => rfl) (by cases p <;> rfl) value

theorem exec_circuitRead {c : Nat} (taken : s.canTake .c .callMask) (value : circuitRead c s.live = (r, f)) :
    exec (.circuitRead .c (.fits c)) s = .next (s.served .c .callMask r f) :=
  readRequest_answered taken nofun rfl value

end

/-! ## PLAN READ's selectors (R23) -/

theorem planRead_active {t : PlanTable} {i : Nat} (s : Live) (h : i < tableSize t) : planRead ⟨some .active, some t, i⟩ s =
    (.done, .plan (s.store.active.readEntry t i) (if t = .geometry then some s.store.fullClear.length else none)) := by
  simp [planRead, h]

theorem planRead_pending {t : PlanTable} {i : Nat} (s : Live) (h : i < tableSize t) :
    planRead ⟨some .pending, some t, i⟩ s = (.done, .plan (s.store.pending.readEntry t i) none) := by
  simp [planRead, h]

theorem planRead_beyond {t : PlanTable} {i : Nat} (s : Live) (c : Option PlanCopy) (h : tableSize t ≤ i) :
    planRead ⟨c, some t, i⟩ s = (.noSuch, .none) := by
  cases c with
  | none => rfl
  | some c => exact if_neg (Nat.not_lt.mpr h)

theorem planRead_noTable (s : Live) (c : Option PlanCopy) (i : Nat) : planRead ⟨c, none, i⟩ s = (.noSuch, .none) := by
  cases c <;> rfl

theorem circuitRead_noSuch {s : Live} {c : Nat} (h : 16 ≤ c ∨ (s.plan.circuit c).present = false) :
    circuitRead c s = (.noSuch, .none) := by
  refine if_neg fun ⟨low, present⟩ => ?_
  rcases h with high | absent
  · omega
  · exact Bool.noConfusion (absent.symm.trans present)

/-- Settles O28. -/
theorem statusReadsAnswer : Obligations.StatusReadsAnswer := by
  intro p s
  refine ⟨fun taken => ?unit, fun taken => ?zone, fun taken => ?shutter, fun taken => ?chain, fun taken => ?calls,
    fun taken => ?speak, fun taken => ?closing, fun taken => ?wear, fun taken => ?plan, fun taken c => ?circuit⟩
  case unit | chain | speak | closing | wear =>
    exact readRequest_answered taken (fun _ => rfl) (by cases p <;> rfl) rfl
  case zone =>
    exact ⟨fun z hz => exec_zoneRead taken (if_pos hz), fun z hz => exec_zoneRead taken (if_neg (Nat.not_lt.mpr hz)),
      exec_zoneRead taken rfl, exec_zoneRead taken rfl, exec_zoneRead taken rfl⟩
  case shutter =>
    exact ⟨fun k hk => exec_shutterRead taken (if_pos hk), fun k hk => exec_shutterRead taken (if_neg (Nat.not_lt.mpr hk)),
      exec_shutterRead taken rfl⟩
  case calls =>
    exact ⟨fun n hn => exec_callList taken (if_neg (Nat.not_le.mpr hn)), fun n hn => exec_callList taken (if_pos hn)⟩
  case plan =>
    exact ⟨fun t i h => exec_planRead taken (planRead_active s.live h),
      fun t i h => exec_planRead taken (planRead_pending s.live h),
      fun c t i h => exec_planRead taken (planRead_beyond s.live c h), fun t i => exec_planRead taken rfl,
      fun c i => exec_planRead taken (planRead_noTable s.live c i)⟩
  case circuit =>
    exact ⟨fun hc present => exec_circuitRead taken (if_pos ⟨hc, present⟩),
      fun absent => exec_circuitRead taken (circuitRead_noSuch absent)⟩

end Sys2Proof.Machine

/-! # Sample memory: a byte written is the byte read, and every step keeps the canonical form -/

namespace Sys2Proof.Machine

-- one thread: a proof that waits for the theorems before it would hold a thread of its own
set_option Elab.async false

theorem readSample_cons (k : Nat) (v : Byte) (rest : List Host.Cell) (a : Nat) :
    readSample ((k, v) :: rest) a = if k = a then v else readSample rest a := rfl

/-- In a memory listed from `lo` on, a write at or above `lo` is read back, and every other byte stands. -/
theorem readSample_writeSample_from {lo a : Nat} (m : List Host.Cell) (b : Nat) (x : Byte) (form : samplesFrom lo m = true)
    (ha : lo ≤ a) : readSample (writeSample m a x) b = if b = a then x else readSample m b := by
  induction m generalizing lo with
  | nil =>
    by_cases hx : x = Config.erasedSample
    · simp [writeSample, readSample, hx]
    · simp [writeSample, readSample, hx, eq_comm]
  | cons c rest ih =>
    obtain ⟨k, v⟩ := c
    have listed := form
    simp only [samplesFrom, Bool.and_eq_true, decide_eq_true_eq] at listed
    obtain ⟨⟨low, used⟩, above⟩ := listed
    have erasedHere : readSample rest k = Config.erasedSample := readSample_below rest above k.lt_succ_self
    rcases Nat.lt_trichotomy a k with before | rfl | beyond
    · have erasedThere : readSample ((k, v) :: rest) a = Config.erasedSample :=
        readSample_below (lo := k) _ (by simp [samplesFrom, used, above]) before
      rcases eq_or_ne b a with rfl | hb
      · by_cases erases : x = Config.erasedSample <;> simp [writeSample, before, erases, erasedThere, readSample_cons b]
      · by_cases erases : x = Config.erasedSample <;> simp [writeSample, before, erases, hb, readSample_cons a, hb.symm]
    · rcases eq_or_ne b a with rfl | hb
      · by_cases erases : x = Config.erasedSample <;> simp [writeSample, erases, erasedHere, readSample_cons]
      · by_cases erases : x = Config.erasedSample <;> simp [writeSample, erases, hb, readSample_cons, hb.symm]
    · have later : ¬ a < k ∧ a ≠ k := by omega
      simp only [writeSample, if_neg later.1, if_neg later.2, readSample_cons, ih above beyond]
      split_ifs <;> first | rfl | omega

theorem readSample_writeSample {m : List Host.Cell} (form : Memory.wf m = true) (a b : Nat) (x : Byte) :
    readSample (writeSample m a x) b = if b = a then x else readSample m b :=
  readSample_writeSample_from m b x form (Nat.zero_le a)

theorem execSampleWriteDone_wf {s t : State} (form : Memory.wf s.samples = true) (ran : execSampleWriteDone s = .next t) :
    Memory.wf t.samples = true := by
  unfold execSampleWriteDone whenOn at ran
  split at ran
  case isFalse => cases ran; exact form
  split at ran
  case h_1 => cases ran; exact form
  case h_2 bytes _ =>
    split at ran <;> cases ran
    exact writeSamples_wf s bytes.length form

theorem execScan_wf {s t : State} {i : ScanInput} (form : Memory.wf s.samples = true) (ran : execScan i s = .next t) :
    Memory.wf t.samples = true := by
  unfold execScan whenOn at ran
  split at ran
  case isFalse => cases ran; exact form
  split at ran <;> cases ran
  exact writeSamples_wf s i.bytesWritten form

/-- SCAN and SAMPLE_WRITE_DONE alone write sample memory, and they write it byte by byte. -/
theorem exec_wf {i : Instr} {s t : State} (form : Memory.wf s.samples = true) (ran : exec i s = .next t) :
    Memory.wf t.samples = true := by
  have stands := (whatOnlyItsOwnCommandChanges i s t ran).2.1
  cases i with
  | scan x => exact execScan_wf form ran
  | sampleWriteDone => exact execSampleWriteDone_wf form ran
  | _ => exact (stands nofun nofun) ▸ form

/-- Settles O19. -/
theorem sampleMemoryKeepsForm : Obligations.SampleMemoryKeepsForm := by
  refine ⟨fun s t form stepped => ?_, fun m a b x form => readSample_writeSample form a b x⟩
  unfold step at stepped
  split at stepped
  · cases stepped
    exact form
  · exact exec_wf (by exact form) stepped

/-! ## A region written from its pointer (R22) -/

/-- The write pointer `n` bytes on, from offset `o` of a region. -/
def regionAt (start len o n : Nat) : Nat := start + (o + n) % len

section
variable {start len o : Nat}

theorem regionAt_zero (inside : o < len) : regionAt start len o 0 = start + o := by
  simp [regionAt, Nat.mod_eq_of_lt inside]

theorem regionAt_succ (n : Nat) : regionAt start len ((o + 1) % len) n = regionAt start len o (n + 1) := by
  simp [regionAt, Nat.add_assoc, Nat.add_comm 1 n]

/-- Fewer than `len` bytes on, the pointer has not come round to where it began. -/
theorem regionAt_ne {n : Nat} (inside : o < len) (short : n + 1 < len) : regionAt start len o (n + 1) ≠ start + o := by
  unfold regionAt
  rcases Nat.lt_or_ge (o + (n + 1)) len with low | high
  · rw [Nat.mod_eq_of_lt low]; omega
  · rw [Nat.mod_eq_sub_mod high, Nat.mod_eq_of_lt (by omega)]; omega

theorem writeRegion_cons (x : Byte) (rest : List Byte) (m : List Host.Cell) (inside : o < len) :
    writeRegion start len (x :: rest) (start + o) m =
      writeRegion start len rest (start + (o + 1) % len) (writeSample m (start + o) x) := by
  have next : (if start + o + 1 < start + len then start + o + 1 else start) = start + (o + 1) % len := by
    split
    · rw [Nat.mod_eq_of_lt (by omega)]; omega
    · obtain rfl : o + 1 = len := by omega
      simp
  rw [writeRegion, next]

theorem writeRegion_pointer (bytes : List Byte) (m : List Host.Cell) (inside : o < len) :
    (writeRegion start len bytes (start + o) m).1 = regionAt start len o bytes.length := by
  induction bytes generalizing o m with
  | nil => exact (regionAt_zero inside).symm
  | cons x rest ih =>
    rw [writeRegion_cons x rest m inside, ih _ (Nat.mod_lt _ (by omega)), regionAt_succ, List.length_cons]

theorem readSample_writeRegion_other {y : Nat} (bytes : List Byte) (m : List Host.Cell) (form : Memory.wf m = true)
    (inside : o < len) (apart : ∀ j, j < bytes.length → y ≠ regionAt start len o j) :
    readSample (writeRegion start len bytes (start + o) m).2 y = readSample m y := by
  induction bytes generalizing o m with
  | nil => rfl
  | cons x rest ih =>
    have first : y ≠ start + o := regionAt_zero (start := start) inside ▸ apart 0 (by simp)
    rw [writeRegion_cons x rest m inside, ih _ (writeSample_wf m _ x form) (Nat.mod_lt _ (by omega)),
      readSample_writeSample form, if_neg first]
    intro j hj
    rw [regionAt_succ]
    exact apart (j + 1) (by simpa using hj)

theorem readSample_writeRegion {j : Nat} (bytes : List Byte) (m : List Host.Cell) (form : Memory.wf m = true)
    (inside : o < len) (short : bytes.length ≤ len) (hj : j < bytes.length) :
    readSample (writeRegion start len bytes (start + o) m).2 (regionAt start len o j) = bytes.getD j 0 := by
  induction bytes generalizing o m j with
  | nil => exact absurd hj (Nat.not_lt_zero j)
  | cons x rest ih =>
    have round : rest.length + 1 ≤ len := short
    have inside' : (o + 1) % len < len := Nat.mod_lt _ (by omega)
    have form' := writeSample_wf m (start + o) x form
    rw [writeRegion_cons x rest m inside]
    cases j with
    | zero =>
      rw [regionAt_zero inside, readSample_writeRegion_other rest _ form' inside', readSample_writeSample form, if_pos rfl]
      · rfl
      · intro i hi
        rw [regionAt_succ]
        exact (regionAt_ne inside (by omega)).symm
    | succ j =>
      rw [← regionAt_succ, ih _ form' inside' (by omega) (by simpa using hj)]
      rfl

end

end Sys2Proof.Machine

/-! # Table loads and sample loads -/

namespace Sys2Proof.Machine

-- one thread: a proof that waits for the theorems before it would hold a thread of its own
set_option Elab.async false

/-- A request that breaks a load, where its rule answers at once. -/
theorem breakingRequest_answered {α : Type} {s : State} {p : Port} {k : Kind} {a : α} {h : α → Live → Handled} {l : Live}
    {r : Result} {f : Fields} (taken : s.canTake p k) (permitted : p = .f → k.onPortF = true)
    (rule : h a ((s.loadClosed p).live.takeFrame p) = (l.takeFrame p, some (r, f))) :
    onLive s (breakingRequest p k (.fits a) h) = .next (({ s with live := l } : State).served p k r f) := by
  rw [← breakLoad_always] at rule
  exact onLive_request_answered taken permitted rfl rule

/-! ## PLAN OPEN, PLAN CLOSE and PLAN DISCARD (R18, R20, R24) -/

section
variable {s : State}

theorem execPlanOpen_opens (taken : s.canTake .c .planOpen) {t : PlanTable} {i : Nat} (h : i < tableSize t) :
    exec (.planOpen .c (.fits ⟨some t, i⟩)) s =
      .next ((s.withStore { s.live.store with cursor := .table t i }).served .c .planOpen .done .none) :=
  breakingRequest_answered taken nofun (if_pos h)

theorem execPlanOpen_beyond (taken : s.canTake .c .planOpen) {t : PlanTable} {i : Nat} (h : tableSize t ≤ i) :
    exec (.planOpen .c (.fits ⟨some t, i⟩)) s = .next ((s.loadClosed .c).served .c .planOpen .badValue .none) :=
  breakingRequest_answered taken nofun (if_neg (Nat.not_lt.mpr h))

end

/-! ## PLAN ENTRY (R19) -/

/-- The plan with the entries of `es` written from index `i` on. -/
def Plan.setEntries (p : Plan) (i : Nat) (es : List PlanEntry) : Plan :=
  ((List.range es.length).zip es).foldl (fun p x => p.setEntry (i + x.1) x.2) p

theorem Plan.setEntries_cons (p : Plan) (i : Nat) (e : PlanEntry) (es : List PlanEntry) :
    p.setEntries i (e :: es) = (p.setEntry i e).setEntries (i + 1) es := by
  simp [Plan.setEntries, List.range_succ_eq_map, List.zip_map_left, List.foldl_map, Nat.add_assoc, Nat.add_comm 1]

/-- Entries that all pass their ranges and have room are taken in order; the rest of the frame follows them. -/
theorem loadEntries_taken {t : PlanTable} {taken : List PlanItem} {es : List PlanEntry}
    (valid : taken.map (itemEntry t) = es.map some) (i : Nat) (p : Plan) (room : es = [] ∨ i + es.length ≤ tableSize t)
    (rest : List PlanItem) : loadEntries t (taken ++ rest) i p = loadEntries t rest (i + es.length) (p.setEntries i es) := by
  induction taken generalizing es i p with
  | nil =>
    obtain rfl : es = [] := by simpa using valid.symm
    rfl
  | cons x taken ih =>
    cases es with
    | nil => simp at valid
    | cons e es =>
      obtain ⟨head, tail⟩ : itemEntry t x = some e ∧ taken.map (itemEntry t) = es.map some := by simpa using valid
      have fit : i + (es.length + 1) ≤ tableSize t := room.resolve_left nofun
      have low : ¬ tableSize t ≤ i := by omega
      simp only [List.cons_append, loadEntries, if_neg low, head]
      rw [ih tail _ _ (.inr (by omega)), Plan.setEntries_cons, List.length_cons, Nat.add_assoc, Nat.add_comm 1]

theorem loadEntries_full {t : PlanTable} {i : Nat} (x : PlanItem) (rest : List PlanItem) (p : Plan)
    (h : tableSize t ≤ i) : loadEntries t (x :: rest) i p = (p, i, .full) := if_pos h

theorem loadEntries_badValue {t : PlanTable} {i : Nat} {x : PlanItem} (rest : List PlanItem) (p : Plan)
    (low : i < tableSize t) (bad : itemEntry t x = none) : loadEntries t (x :: rest) i p = (p, i, .badValue) := by
  rw [loadEntries, if_neg (Nat.not_le.mpr low), bad]

section
variable {s : State} {t : PlanTable} {i : Nat}

theorem breakLoad_ofTable (loading : s.live.store.cursor = .table t i) : s.live.breakLoad .c breaksUnlessTable = s.live :=
  if_neg (by simp [loading, breaksUnlessTable])

theorem breakLoad_ofNoTable (noTable : ∀ t i, s.live.store.cursor ≠ .table t i) :
    s.live.breakLoad .c breaksUnlessTable = (s.loadClosed .c).live := by
  refine if_pos ⟨rfl, ?_⟩
  cases h : s.live.store.cursor with
  | table t i => exact absurd h (noTable t i)
  | closed | sample => rfl

theorem planEntry_loads {u : Live} {items : List PlanItem} {p : Plan} {j : Nat} {r : Result}
    (loading : u.store.cursor = .table t i) (form : ofTable t items = true)
    (loads : loadEntries t items i u.store.pending = (p, j, r)) : planEntry (.entries items) u =
      ({ u with store := { u.store with pending := p, cursor := .table t j } }, some (r, .index j)) := by
  simp only [planEntry, loading, form, if_true, loads]
  rfl

theorem planEntry_indivisible {u : Live} {f : EntryFrame} (loading : u.store.cursor = .table t i)
    (h : f = .indivisible ∨ ∃ items, f = .entries items ∧ ofTable t items = false) :
    planEntry f u = (u, some (.badLength, .none)) := by
  rcases h with rfl | ⟨items, rfl, form⟩
  · simp only [planEntry, loading]; rfl
  · simp only [planEntry, loading, form, Bool.false_eq_true, if_false]; rfl

/-- The frame divides: its entries are loaded. -/
theorem execPlanEntry_sent {items : List PlanItem} {p : Plan} {j : Nat} {r : Result} (taken : s.canTake .c .planEntry)
    (loading : s.live.store.cursor = .table t i) (some_ : items ≠ []) (form : ofTable t items = true)
    (loads : loadEntries t items i s.live.store.pending = (p, j, r)) :
    exec (.planEntry .c (.fits (.entries items))) s =
      .next ((s.withStore { s.live.store with pending := p, cursor := .table t j }).served .c .planEntry r (.index j)) := by
  refine onLive_request_answered (b := breaksUnlessTable) taken nofun (by simpa [entryFrameFits] using some_) ?_
  rw [breakLoad_ofTable loading]
  exact planEntry_loads (u := s.live.takeFrame .c) loading form loads

/-- The frame does not divide by the open table's form. -/
theorem execPlanEntry_indivisible {f : EntryFrame} (taken : s.canTake .c .planEntry)
    (loading : s.live.store.cursor = .table t i)
    (h : f = .indivisible ∨ ∃ items, f = .entries items ∧ items ≠ [] ∧ ofTable t items = false) :
    exec (.planEntry .c (.fits f)) s = .next (s.served .c .planEntry .badLength .none) := by
  have fits : entryFrameFits (.fits f) = true := by
    rcases h with rfl | ⟨items, rfl, some_, _⟩
    · rfl
    · simpa [entryFrameFits] using some_
  refine onLive_request_answered (b := breaksUnlessTable) (l := s.live) taken nofun fits ?_
  rw [breakLoad_ofTable loading]
  exact planEntry_indivisible (u := s.live.takeFrame .c) loading (h.imp_right fun ⟨items, hf, _, form⟩ => ⟨items, hf, form⟩)

/-- Without a table load every frame is refused. -/
theorem execPlanEntry_noSuch {f : EntryFrame} (taken : s.canTake .c .planEntry)
    (noTable : ∀ t i, s.live.store.cursor ≠ .table t i) (some_ : f ≠ .entries []) :
    exec (.planEntry .c (.fits f)) s = .next ((s.loadClosed .c).served .c .planEntry .noSuch .none) := by
  have fits : entryFrameFits (.fits f) = true := by
    cases f with
    | indivisible => rfl
    | entries items => simpa [entryFrameFits] using some_
  refine onLive_request_answered (b := breaksUnlessTable) taken nofun fits ?_
  rw [breakLoad_ofNoTable noTable]
  rfl

end

/-- Settles O33. -/
theorem tableLoads : Obligations.TableLoads := by
  intro s cursor
  refine ⟨fun taken => ⟨fun t i h => execPlanOpen_opens taken h, fun t i h => execPlanOpen_beyond taken h,
      fun i => breakingRequest_answered taken nofun rfl⟩,
    fun taken => breakingRequest_answered taken nofun rfl, fun taken => breakingRequest_answered taken nofun rfl,
    fun taken => ⟨fun t i loading => ?loaded, fun f noTable some_ => execPlanEntry_noSuch taken noTable some_⟩⟩
  case loaded =>
    refine ⟨execPlanEntry_indivisible taken loading (.inl rfl),
      fun items some_ form => execPlanEntry_indivisible taken loading (.inr ⟨items, rfl, some_, form⟩),
      fun items es some_ form valid room => execPlanEntry_sent taken loading some_ form ?all,
      fun accepted es x rest form valid room => ⟨fun low bad => execPlanEntry_sent taken loading (by simp) form ?bad,
        fun full => execPlanEntry_sent taken loading (by simp) form ?full⟩⟩
    case all =>
      rw [← List.append_nil items, loadEntries_taken valid i _ (.inr room)]
      rfl
    case bad => exact (loadEntries_taken valid i _ room _).trans (loadEntries_badValue rest _ low bad)
    case full => exact (loadEntries_taken valid i _ room _).trans (loadEntries_full x rest _ full)

/-! ## SAMPLE OPEN and SAMPLE DATA (R21, R22) -/

section
variable {s : State} {ph start len ptr : Nat} {bytes : List Byte}

theorem execSampleOpen_opens (taken : s.canTake .c .sampleOpen) (low : ph < 128)
    (recorded : (s.live.plan.phrase ph).length ≠ 0) :
    let e := s.live.plan.phrase ph
    exec (.sampleOpen .c (.fits ph)) s =
      .next ((s.withStore { s.live.store with cursor := .sample ph e.start e.length e.start }).served
        .c .sampleOpen .done .none) :=
  breakingRequest_answered taken nofun ((if_neg (Nat.not_le.mpr low)).trans (if_neg recorded))

theorem execSampleOpen_noSuch (taken : s.canTake .c .sampleOpen) (low : ph < 128)
    (blank : (s.live.plan.phrase ph).length = 0) :
    exec (.sampleOpen .c (.fits ph)) s = .next ((s.loadClosed .c).served .c .sampleOpen .noSuch .none) :=
  breakingRequest_answered taken nofun ((if_neg (Nat.not_le.mpr low)).trans (if_pos blank))

theorem execSampleOpen_badValue (taken : s.canTake .c .sampleOpen) (high : 128 ≤ ph) :
    exec (.sampleOpen .c (.fits ph)) s = .next ((s.loadClosed .c).served .c .sampleOpen .badValue .none) :=
  breakingRequest_answered taken nofun (if_pos high)

theorem readsIn_iff (c : PlayerContext) : c.readsIn start len = true ↔
    ∃ a, c.pointer = some a ∧ c.remaining ≠ some 0 ∧ start ≤ a ∧ a < start + len := by
  unfold PlayerContext.readsIn
  cases c.pointer <;> simp [and_assoc]

theorem regionPlaying_iff (s : Live) : s.regionPlaying start len = true ↔ ∃ pl a, (s.player pl).pointer = some a ∧
    (s.player pl).remaining ≠ some 0 ∧ start ≤ a ∧ a < start + len := by
  rw [Live.regionPlaying, Bool.or_eq_true, readsIn_iff, readsIn_iff]
  refine ⟨fun h => h.elim (⟨.a, ·⟩) (⟨.b, ·⟩), fun ⟨pl, h⟩ => ?_⟩
  cases pl
  · exact .inl h
  · exact .inr h

theorem sampleDataFits_of (some_ : 1 ≤ bytes.length) (short : bytes.length ≤ 192) : sampleDataFits (.fits bytes) = true := by
  simp [sampleDataFits, within, Config.sampleDataMax, some_, short]

theorem breakLoad_ofSample (loading : s.live.store.cursor = .sample ph start len ptr) :
    s.live.breakLoad .c breaksUnlessSample = s.live :=
  if_neg (by simp [loading, breaksUnlessSample])

theorem breakLoad_ofNoSample (noSample : ∀ ph start len ptr, s.live.store.cursor ≠ .sample ph start len ptr) :
    s.live.breakLoad .c breaksUnlessSample = (s.loadClosed .c).live := by
  refine if_pos ⟨rfl, ?_⟩
  cases h : s.live.store.cursor with
  | sample ph start len ptr => exact absurd h (noSample ph start len ptr)
  | closed | table => rfl

theorem sampleData_begins {u : Live} (loading : u.store.cursor = .sample ph start len ptr)
    (idle : u.regionPlaying start len = false) :
    sampleData bytes u = ({ u with store := { u.store with sampleWrite := some bytes } }, none) := by
  simp [sampleData, loading, idle]

theorem sampleData_busy {u : Live} (loading : u.store.cursor = .sample ph start len ptr)
    (playing : u.regionPlaying start len = true) : sampleData bytes u =
      ({ u with free := u.free + 1 }, some (.busy (Config.freeReason u.free) (Config.freeSubject u.free), .none)) := by
  simp [sampleData, loading, playing, busyAnyReason, answer]

section
variable (taken : s.canTake .c .sampleData) (fits : sampleDataFits (.fits bytes) = true)
include taken fits

/-- The bytes of a SAMPLE DATA go to the memory, and its reply waits for them. -/
theorem execSampleData_begins (loading : s.live.store.cursor = .sample ph start len ptr)
    (idle : s.live.regionPlaying start len = false) : exec (.sampleData .c (.fits bytes)) s =
      .next { s with live := { s.live.takeFrame .c with store := { s.live.store with sampleWrite := some bytes } } } := by
  refine onLive_request_waits (b := breaksUnlessSample) taken nofun fits ?_
  rw [breakLoad_ofSample loading]
  exact sampleData_begins (u := s.live.takeFrame .c) loading idle

/-- A region that is being played is not written. -/
theorem execSampleData_busy (loading : s.live.store.cursor = .sample ph start len ptr)
    (playing : s.live.regionPlaying start len = true) : exec (.sampleData .c (.fits bytes)) s =
      .next (({ s with live := { s.live with free := s.live.free + 1 } } : State).served .c .sampleData
        (.busy (Config.freeReason s.live.free) (Config.freeSubject s.live.free)) .none) := by
  refine onLive_request_answered (b := breaksUnlessSample) taken nofun fits ?_
  rw [breakLoad_ofSample loading]
  exact sampleData_busy (u := s.live.takeFrame .c) loading playing

theorem execSampleData_noSuch (noSample : ∀ ph start len ptr, s.live.store.cursor ≠ .sample ph start len ptr) :
    exec (.sampleData .c (.fits bytes)) s = .next ((s.loadClosed .c).served .c .sampleData .noSuch .none) := by
  refine onLive_request_answered (b := breaksUnlessSample) taken nofun fits ?_
  rw [breakLoad_ofNoSample noSample]
  rfl

end

/-! ## The end of a sample write -/

/-- SAMPLE_WRITE_DONE in a sample load within the memory: every byte of the frame is written from the pointer on. -/
theorem execSampleWriteDone_writes (on : s.power = .on) (sent : s.live.store.sampleWrite = some bytes)
    (loading : s.live.store.cursor = .sample ph start len ptr) (inMemory : start + len ≤ 1048576) :
    exec .sampleWriteDone s = .next { s with
      samples := (writeRegion start len bytes ptr s.samples).2
      live := { s.live with store := { s.live.store with
        sampleWrite := none, cursor := .sample ph start len (writeRegion start len bytes ptr s.samples).1 } }.putReply .c
          Kind.sampleData.replyCode .done (.pointer ((writeRegion start len bytes ptr s.samples).1 - start)) } := by
  have fits : s.live.writeInMemory = true := by
    rw [Live.writeInMemory, loading]
    exact decide_eq_true inMemory
  have wrote : s.writeSamples bytes.length = { s with
      samples := (writeRegion start len bytes ptr s.samples).2
      live := { s.live with store := { s.live.store with
        sampleWrite := some [], cursor := .sample ph start len (writeRegion start len bytes ptr s.samples).1 } } } := by
    simp [State.writeSamples, sent, loading]
  change whenOn s _ = _
  simp only [whenOn, if_pos on, sent, fits, if_true, wrote]
  rfl

end

/-- Settles O35. -/
theorem sampleLoadsAndWrites : Obligations.SampleLoadsAndWrites := by
  constructor
  · intro s cursor
    refine ⟨fun taken => ⟨fun ph => execSampleOpen_opens taken, fun ph => execSampleOpen_noSuch taken,
      fun ph => execSampleOpen_badValue taken⟩, fun taken bytes some_ short => ?_⟩
    have fits := sampleDataFits_of some_ short
    refine ⟨fun ph start len ptr loading => ?_, execSampleData_noSuch taken fits⟩
    refine ⟨fun idle => ?begins, fun playing => ?busy⟩
    case begins =>
      rw [← regionPlaying_iff s.live, Bool.not_eq_true] at idle
      refine ⟨_, execSampleData_begins taken fits loading idle, rfl, rfl, ⟨rfl, rfl, rfl, rfl⟩, fun part hp => ?_⟩
      cases part <;> simp_all [samePart, Live.takeFrame, Live.withPort]
    case busy =>
      refine ⟨_, _, _, execSampleData_busy taken fits loading ((regionPlaying_iff s.live).mpr playing), ⟨rfl, rfl⟩, rfl,
        ⟨rfl, rfl, rfl, rfl⟩, fun part hp => ?_⟩
      cases part <;> simp_all [samePart, State.served, Live.withPort]
  · intro s bytes ph start len ptr on form sent loading low high inMemory short
    obtain ⟨o, rfl⟩ := Nat.exists_eq_add_of_le low
    have inside : o < len := by omega
    refine ⟨_, execSampleWriteDone_writes on sent loading inMemory, fun j hj => ?_, fun x apart => ?_, ?_, rfl,
      fun part hp => ?_, rfl⟩
    · rw [Nat.add_sub_cancel_left]
      exact readSample_writeRegion bytes s.samples form inside short hj
    · rw [Nat.add_sub_cancel_left] at apart
      exact readSample_writeRegion_other bytes s.samples form inside apart
    · rw [writeRegion_pointer bytes s.samples inside]
      simp [State.replyOn, Live.putReply, regionAt, Kind.replyCode, Kind.code]
    · cases part <;> simp_all [samePart, Live.putReply, Live.withPort]

end Sys2Proof.Machine

/-! # The frames of the request handlers, and the plan under every command

A handler outside the Plan Store touches neither the store nor the clock, and of a port only its notices; so only PLAN_ADOPT
and COLD_START can change the active plan. -/

namespace Sys2Proof.Machine

-- one thread: a proof that waits for the theorems before it would hold a thread of its own
set_option Elab.async false

/-- What the handler of a request outside the Plan Store touches. -/
abbrev handlerParts : List Part := .free :: zoneParts

/-- A BUSY refusal draws free values and changes nothing else. -/
theorem free_only (s : Live) (n : Nat) : Keeps [.free] s { s with free := n } :=
  keeps_of (by intro q hq; cases q <;> simp_all [samePart]) rfl rfl

/-! ## The handlers -/

section
variable {h : Live → Handled} (hh : ∀ s, Keeps handlerParts s (h s).1)
include hh

theorem onZone_only (z : Nat) (s : Live) : Keeps handlerParts s (onZone z h s).1 := by
  unfold onZone
  split_ifs
  · exact keeps_refl _ s
  · exact hh s
  · exact keeps_refl _ s

theorem onShutter_only (k : Nat) (s : Live) : Keeps handlerParts s (onShutter k h s).1 := by
  unfold onShutter
  split_ifs
  · exact keeps_refl _ s
  · exact hh s
  · exact keeps_refl _ s

theorem onRowCode_only (code : RowCode) (s : Live) : Keeps handlerParts s (onRowCode h code s).1 := by
  cases code with
  | named => exact hh s
  | unnamed => exact keeps_refl _ s

end

theorem zoneIsolate_only (z : Nat) (s : Live) : Keeps handlerParts s (zoneIsolate z s).1 := by
  unfold zoneIsolate
  split
  · exact keeps_widen (setZone_only s z _)
  · exact keeps_widen (setZone_only s z _)
  all_goals exact keeps_refl _ s

theorem zoneRestore_only (z : Nat) (s : Live) : Keeps handlerParts s (zoneRestore z s).1 := by
  unfold zoneRestore
  split
  · exact keeps_widen (restoreZone_only s z)
  all_goals exact keeps_refl _ s

theorem zoneSilence_only (z : Nat) (s : Live) : Keeps handlerParts s (zoneSilence z s).1 := by
  unfold zoneSilence
  split
  · exact keeps_widen (silenceZone_only s z)
  all_goals exact keeps_refl _ s

theorem zoneReset_only (z : Nat) (s : Live) : Keeps handlerParts s (zoneReset z s).1 := by
  unfold zoneReset
  split
  · split
    · exact keeps_refl _ s
    · exact keeps_widen (resetZone_only s z)
  all_goals exact keeps_refl _ s

theorem shutterLower_only (k : Nat) (s : Live) : Keeps handlerParts s (shutterLower k s).1 := by
  unfold shutterLower
  split
  · exact keeps_widen (free_only s _)
  · exact keeps_widen (closeByState_only s k _)

theorem shutterRaise_only (k : Nat) (s : Live) : Keeps handlerParts s (shutterRaise k s).1 := by
  unfold shutterRaise
  split_ifs
  case neg => exact keeps_widen (raiseShutter_only s k)
  all_goals exact keeps_widen (free_only s _)

theorem shutterHalt_only (k : Nat) (s : Live) : Keeps handlerParts s (shutterHalt k s).1 := by
  unfold shutterHalt
  split
  case h_5 => exact keeps_widen (haltShutter_only s k)
  case h_6 => exact keeps_refl _ s
  case h_1 | h_2 | h_3 | h_4 =>
    split
    · exact keeps_widen (free_only s _)
    · exact keeps_widen (haltShutter_only s k)
  all_goals exact keeps_widen (free_only s _)

theorem chainStart_only (s : Live) : Keeps handlerParts s (chainStart s).1 := by
  unfold chainStart
  split
  · split
    · exact keeps_refl _ s
    · exact keeps_widen (enterWarning_only s none)
  · exact keeps_refl _ s

theorem inspectOn_only (s : Live) : Keeps handlerParts s (inspectOn s).1 := by
  unfold inspectOn
  split
  · split
    · exact keeps_refl _ s
    · exact keeps_widen (enterChain_only s _)
  · exact keeps_refl _ s

theorem inspectOff_only (s : Live) : Keeps handlerParts s (inspectOff s).1 := by
  unfold inspectOff
  split
  · exact keeps_widen (enterChain_only s _)
  all_goals exact keeps_refl _ s

theorem chainStep_only (n : Nat) (s : Live) : Keeps handlerParts s (chainStep n s).1 := by
  unfold chainStep
  split_ifs
  · exact keeps_refl _ s
  · split
    · exact keeps_refl _ s
    · exact keeps_widen (keeps_trans (keeps_trans (chain_only s _) (driveTo_only _ .creep)) (enterChain_only _ _))
  · exact keeps_refl _ s

theorem replacePlaced_only (s : Live) (old : CallRecord) (f : CallPlaceFields) :
    Keeps callParts s (s.replacePlaced old f) := by
  unfold Live.replacePlaced
  extract_lets c r t u
  have replaced : Keeps callParts s t := replaceCall_only s old r
  have told : Keeps callParts t u := keeps_ite (stopIfRinging_only t _ _) (choose_only t _)
  exact (keeps_trans replaced told).next (post_only _ _)

theorem callPlace_only (f : CallPlaceFields) (s : Live) : Keeps handlerParts s (callPlace f s).1 := by
  unfold callPlace
  split_ifs
  · exact keeps_refl _ s
  · exact keeps_refl _ s
  · split
    · exact keeps_widen (replacePlaced_only s _ f)
    · dsimp only
      split_ifs
      · exact keeps_widen (join_only s _)
      · exact keeps_widen (join_only s _)

theorem callClear_only (f : Option CallKey) (s : Live) : Keeps handlerParts s (callClear f s).1 := by
  unfold callClear
  split
  · exact keeps_refl _ s
  · split_ifs
    · exact keeps_refl _ s
    · split
      · exact keeps_refl _ s
      · split_ifs
        · exact keeps_widen (free_only s _)
        · exact keeps_widen (removeCall_only s _ _)

theorem callMask_only (f : CallMaskFields) (s : Live) : Keeps handlerParts s (callMask f s).1 := by
  unfold callMask
  split_ifs
  · exact keeps_refl _ s
  · exact keeps_widen (setMask_only s _ _)
  · exact keeps_refl _ s

theorem speak_only (p : Port) (f : SpeakFields) (s : Live) : Keeps handlerParts s (speak p f s).1 := by
  unfold speak
  split_ifs
  case neg =>
    extract_lets r e
    have entered : Keeps handlerParts s e.1 := keeps_widen (enterQueue_only s r)
    split
    · exact entered
    · exact entered
  all_goals exact keeps_refl _ s

theorem speakCancel_only (p : Port) (t : Nat) (s : Live) : Keeps handlerParts s (speakCancel p t s).1 := by
  unfold speakCancel
  split_ifs
  · exact keeps_refl _ s
  · exact keeps_widen (free_only s _)
  · split
    · split_ifs
      · exact keeps_refl _ s
      · exact keeps_widen (keeps_trans ((unqueue_only s t).next (post_only _ _)) (grants_only _))
    · split
      · split_ifs
        · exact keeps_refl _ s
        · exact keeps_widen (keeps_trans (stopPlay_only s _ _) (grants_only _))
      · exact keeps_refl _ s

/-- PROGRAMME STATE is a notice. -/
theorem postProgramme_only (s : Live) (why : ProgrammeReason) : Keeps portsOnly s (s.postProgramme why) := post_only s _

theorem closingBegin_only (n : Nat) (s : Live) : Keeps handlerParts s (closingBegin n s).1 := by
  unfold closingBegin
  extract_lets marks
  split_ifs
  · exact keeps_refl _ s
  · exact keeps_refl _ s
  · exact keeps_widen (free_only s _)
  · split
    · exact keeps_refl _ s
    · exact keeps_widen (keeps_trans ((withClosing_only s _).next (postProgramme_only _ _)) (takeDue_only _ _ _))

theorem closingPostpone_only (n : Nat) (s : Live) : Keeps handlerParts s (closingPostpone n s).1 := by
  unfold closingPostpone
  split_ifs
  · exact keeps_refl _ s
  · split
    · split
      · exact keeps_refl _ s
      · exact keeps_widen ((withClosing_only s _).next (postProgramme_only _ _))
    · exact keeps_widen (free_only s _)

theorem closingAbort_only (s : Live) : Keeps handlerParts s (closingAbort s).1 := by
  unfold closingAbort
  split
  · exact keeps_widen (free_only s _)
  all_goals
    exact keeps_widen (((((withClosing_only s _).next (withdrawCalls_only _)).next (withdrawSpeech_only _)).next
      (clearSweep_only _)).next (postProgramme_only _ _))

theorem closingResume_only (s : Live) : Keeps handlerParts s (closingResume s).1 := by
  unfold closingResume
  split
  · split
    · exact keeps_refl _ s
    · exact keeps_widen (keeps_trans ((withClosing_only s _).next (postProgramme_only _ _)) (takeDue_only _ _ _))
  all_goals exact keeps_widen (free_only s _)

theorem wearReadClear_only (p : Port) (s : Live) : Keeps handlerParts s (wearReadClear p s).1 := by
  unfold wearReadClear
  split
  · exact keeps_refl _ s
  · exact keeps_of (by intro q hq; cases q <;> simp_all [samePart, answerWith]) rfl rfl

/-! ## The restart -/

theorem restartChain_only (s : Live) : Keeps chainParts s s.restartChain := by
  unfold Live.restartChain
  extract_lets moving holds chain t u
  have cleared : Keeps chainParts s t := (chain_only s _).next (writeGongs_only _ _)
  have stopped : Keeps chainParts t u :=
    keeps_ite ((driveTo_only t .brake).next (raiseWear_only _ _)) (keeps_refl _ t)
  exact keeps_trans (keeps_trans cleared stopped) (keeps_ite (enterChain_only u _) (keeps_refl _ u))

theorem evacEnd_only (s : Live) : Keeps speechParts s s.evacEnd := speech_only s _

theorem restartSpeech_only (s : Live) : Keeps speechParts s s.restartSpeech :=
  keeps_trans (keeps_trans (keeps_trans (keeps_trans (freePlayer_only s .a) (freePlayer_only _ .b))
    (setEvacuation_only _ [] none)) (evacEnd_only _)) (speech_only _ _)

theorem rehand_only (s : Live) : Keeps zoneParts s s.rehand :=
  keeps_trans (keeps_widen (keeps_foldl _ fireCallEnter_only _ s)) (keeps_widen (evacDemand_only _ _ _))

/-! ## The plan and its set A -/

/-- The active plan stands, with its set A. -/
def PlanStands (s t : Live) : Prop := t.store.active = s.store.active ∧ t.store.fullClear = s.store.fullClear

theorem planStands_of_store {s t : Live} (h : t.store = s.store) : PlanStands s t := by simp [PlanStands, h]

theorem planStands_composes : Composes PlanStands where
  refl _ := ⟨rfl, rfl⟩
  trans := fun ⟨active, set⟩ ⟨active', set'⟩ => ⟨active'.trans active, set'.trans set⟩

theorem onlyParts.planStands {ps : List Part} {s t : Live} (h : onlyParts ps s t) (hp : .store ∉ ps := by decide) :
    PlanStands s t := planStands_of_store (h .store hp)

theorem Keeps.planStands {ps : List Part} {s t : Live} (h : Keeps ps s t) (hp : .store ∉ ps := by decide) :
    PlanStands s t := onlyParts.planStands h.parts hp

theorem planStands_ite {s t u : Live} {c : Prop} [Decidable c] (ht : PlanStands s t) (hu : PlanStands s u) :
    PlanStands s (if c then t else u) := ChainRule.either ht hu

/-- The rows that act only where they are due. -/
theorem planStands_whenDue {f : Live → Live} (hf : ∀ l, PlanStands l (f l)) (due : Live → Bool) (l : Live) :
    PlanStands l (if due l then f l else l) := planStands_ite (hf l) (planStands_composes.refl l)

theorem withPort_planStands (s : Live) (p : Port) (r : PortRecord) : PlanStands s (s.withPort p r) :=
  planStands_of_store (s.withPort_store p r)

theorem breakLoad_planStands (s : Live) (p : Port) (b : Cursor → Bool) : PlanStands s (s.breakLoad p b) :=
  planStands_ite ⟨rfl, rfl⟩ (planStands_composes.refl s)

theorem takeRequest_planStands (p : Port) (k : Kind) (b : Cursor → Bool) (fit : Bool) {h : Live → Handled}
    (hh : ∀ s, PlanStands s (h s).1) (s : Live) : PlanStands s (takeRequest p k b fit h s) := by
  unfold takeRequest
  refine planStands_ite ?_ (planStands_composes.refl s)
  extract_lets t
  have taken : PlanStands s t := planStands_composes.trans (withPort_planStands s p _) (breakLoad_planStands _ p b)
  refine planStands_composes.trans taken
    (planStands_ite (withPort_planStands _ _ _) (planStands_ite (withPort_planStands _ _ _) ?_))
  unfold Live.putHandled
  split
  · exact planStands_composes.trans (hh t) (withPort_planStands _ _ _)
  · exact hh t

section
variable {α : Type} {h : α → Live → Handled}

theorem onBody_planStands (body : Body α) (hh : ∀ a s, PlanStands s (h a s).1) (s : Live) :
    PlanStands s (onBody body h s).1 := by
  cases body with
  | fits a => exact hh a s
  | misfit => exact planStands_composes.refl s

theorem breakingRequest_planStands (p : Port) (k : Kind) (body : Body α) (hh : ∀ a s, PlanStands s (h a s).1) (s : Live) :
    PlanStands s (breakingRequest p k body h s) := takeRequest_planStands p k _ _ (onBody_planStands body hh) s

/-- A request whose handler stands outside the Plan Store. -/
theorem breakingRequest_outside (p : Port) (k : Kind) (body : Body α) (hh : ∀ a s, Keeps handlerParts s (h a s).1)
    (s : Live) : PlanStands s (breakingRequest p k body h s) :=
  breakingRequest_planStands p k body (fun a s => (hh a s).planStands) s

end

/-! ### The Plan Store's own rows -/

theorem planOpen_planStands (f : PlanOpenFields) (s : Live) : PlanStands s (planOpen f s).1 := by
  unfold planOpen
  split
  · exact planStands_composes.refl s
  · split
    · exact ⟨rfl, rfl⟩
    · exact planStands_composes.refl s

theorem planEntry_planStands (f : EntryFrame) (s : Live) : PlanStands s (planEntry f s).1 := by
  unfold planEntry
  split
  · split
    · exact planStands_composes.refl s
    · split
      · exact ⟨rfl, rfl⟩
      · exact planStands_composes.refl s
  · exact planStands_composes.refl s

theorem sampleOpen_planStands (ph : Nat) (s : Live) : PlanStands s (sampleOpen ph s).1 := by
  unfold sampleOpen
  split
  · exact planStands_composes.refl s
  · extract_lets e
    split
    · exact planStands_composes.refl s
    · exact ⟨rfl, rfl⟩

theorem sampleData_planStands (bytes : List Byte) (s : Live) : PlanStands s (sampleData bytes s).1 := by
  unfold sampleData
  split
  · split
    · exact ⟨rfl, rfl⟩
    · exact ⟨rfl, rfl⟩
  · exact planStands_composes.refl s

theorem noticeFetch_planStands (p : Port) (s : Live) : PlanStands s (noticeFetch p s).1 := by
  unfold noticeFetch
  dsimp only
  split
  · exact planStands_composes.refl s
  · exact withPort_planStands s p _

theorem warmRestart_planStands (s : Live) : PlanStands s s.warmRestart := by
  unfold Live.warmRestart
  extract_lets fresh started store reverted restarted
  have copied : PlanStands s reverted := ⟨rfl, rfl⟩
  have chain : Keeps zoneParts reverted reverted.restartChain := keeps_widen (restartChain_only reverted)
  have restart : Keeps zoneParts reverted restarted :=
    ((chain.next (emptyCalls_only _)).next (resetCircuits_only _)).next (restartSpeech_only _)
  exact planStands_composes.trans copied ((restart.next (withClosing_only _ _)).next (rehand_only _)).planStands

/-! ## The non-volatile copy -/

/-- The non-volatile copy of the plan stands, with its set and its validity; the wear record may have been written. -/
def CopyStands (n m : NonVolatile) : Prop := m.plan = n.plan ∧ m.fullClear = n.fullClear ∧ m.valid = n.valid

theorem writeWear_copyStands (n : NonVolatile) (w : WearCounts) : CopyStands n (n.writeWear w) := by
  unfold NonVolatile.writeWear
  dsimp only
  split <;> exact ⟨rfl, rfl, rfl⟩

theorem tearWear_copyStands (n : NonVolatile) (inStoreWrite torn : Bool) : CopyStands n (tearWear n inStoreWrite torn) := by
  unfold tearWear
  split_ifs <;> exact ⟨rfl, rfl, rfl⟩

/-! ## The plan under every command -/

/-- The active plan and the non-volatile copy stand. -/
def PlanKept (s t : State) : Prop := PlanStands s.live t.live ∧ CopyStands s.nv t.nv

theorem planKept_refl (s : State) : PlanKept s s := ⟨⟨rfl, rfl⟩, rfl, rfl, rfl⟩

theorem whenOn_planKept {s t : State} {out : Out} (hout : out = .next t → PlanKept s t) (h : whenOn s out = .next t) :
    PlanKept s t := by
  unfold whenOn at h
  split at h
  · exact hout h
  · cases h
    exact planKept_refl s

theorem onLive_planKept {s t : State} {f : Live → Live} (hf : ∀ l, PlanStands l (f l)) (h : onLive s f = .next t) :
    PlanKept s t :=
  whenOn_planKept (fun hn => by cases hn; exact ⟨hf _, rfl, rfl, rfl⟩) h

theorem onLive_outside {ps : List Part} {s t : State} {f : Live → Live} (hf : ∀ l, Keeps ps l (f l))
    (h : onLive s f = .next t) (hp : .store ∉ ps := by decide) : PlanKept s t :=
  onLive_planKept (fun l => (hf l).planStands hp) h

/-- A row outside the Plan Store that acts only where it is due. -/
theorem onLive_whenDue {ps : List Part} {s t : State} {f : Live → Live} (due : Live → Bool) (hf : ∀ l, Keeps ps l (f l))
    (h : onLive s (fun l => if due l then f l else l) = .next t) (hp : .store ∉ ps := by decide) : PlanKept s t :=
  onLive_planKept (planStands_whenDue (fun l => (hf l).planStands hp) due) h

theorem cut_planKept (s : State) (p : Power) (torn : Bool) : PlanKept s (cut s p torn) :=
  ⟨⟨rfl, rfl⟩, tearWear_copyStands _ _ _⟩

theorem writeSamples_planKept (s : State) (n : Nat) : PlanKept s (s.writeSamples n) := by
  unfold State.writeSamples
  split
  · exact ⟨⟨rfl, rfl⟩, rfl, rfl, rfl⟩
  · exact planKept_refl s

theorem sampleDoneReply_planStands (s : Live) : PlanStands s (sampleDoneReply s) := by
  unfold sampleDoneReply
  split
  · exact planStands_composes.trans (t := { s with store := { s.store with sampleWrite := none } }) ⟨rfl, rfl⟩
      (withPort_planStands _ _ _)
  · exact planStands_composes.refl s

theorem execSampleWriteDone_planKept {s t : State} (h : execSampleWriteDone s = .next t) : PlanKept s t :=
  whenOn_planKept (fun hn => by
    split at hn
    · cases hn; exact planKept_refl s
    · split at hn <;> cases hn
      obtain ⟨live, copy⟩ := writeSamples_planKept s _
      exact ⟨planStands_composes.trans live (sampleDoneReply_planStands _), copy⟩) h

theorem execScan_planKept {s t : State} {i : ScanInput} (h : execScan i s = .next t) : PlanKept s t :=
  whenOn_planKept (fun hn => by
    split at hn <;> cases hn
    obtain ⟨live, copy⟩ := writeSamples_planKept s i.bytesWritten
    exact ⟨planStands_composes.trans live (scanStep_only _ i _).planStands, copy⟩) h

theorem execPowerLoss_planKept {s t : State} (torn : Bool) (h : execPowerLoss torn s = .next t) : PlanKept s t := by
  unfold execPowerLoss at h
  split at h <;> cases h
  · exact planKept_refl s
  · exact cut_planKept s _ torn

theorem execWearWrite_planKept {s t : State} (h : execWearWrite s = .next t) : PlanKept s t :=
  whenOn_planKept (fun hn => by
    split at hn <;> cases hn
    · exact ⟨⟨rfl, rfl⟩, writeWear_copyStands _ _⟩
    · exact planKept_refl s) h

theorem execPhraseEnd_planKept {s t : State} (pl : Player) (h : execPhraseEnd pl s = .next t) : PlanKept s t :=
  whenOn_planKept (fun hn => by
    split at hn <;> cases hn
    exact ⟨(phraseEndStep_only _ pl _).planStands, rfl, rfl, rfl⟩) h

theorem secondsTickStep_planStands (s : Live) : PlanStands s (secondsTickStep s) :=
  planStands_ite ⟨rfl, rfl⟩ (planStands_composes.refl s)

/-! ### The byte stream -/

theorem frameGapStep_planStands (p : Port) (s : Live) : PlanStands s (frameGapStep p s) := by
  unfold frameGapStep
  split
  · exact planStands_ite (withPort_planStands s p _) (planStands_composes.refl s)
  · exact planStands_composes.refl s

theorem frameDiscardStep_planStands (p : Port) (s : Live) : PlanStands s (frameDiscardStep p s) := by
  unfold frameDiscardStep
  split
  · exact planStands_ite (withPort_planStands s p _) (planStands_composes.refl s)
  · exact planStands_composes.refl s

theorem replySentStep_planStands (p : Port) (s : Live) : PlanStands s (replySentStep p s) :=
  planStands_ite (withPort_planStands s p _) (planStands_composes.refl s)

theorem frameByteStep_planStands (p : Port) (b : Byte) (s : Live) : PlanStands s (frameByteStep p b s) :=
  planStands_ite (withPort_planStands s p _) (planStands_composes.refl s)

theorem unknownKindStep_planStands (p : Port) (code : Byte) (s : Live) : PlanStands s (unknownKindStep p code s) :=
  planStands_ite
    (planStands_composes.trans
      (planStands_composes.trans (withPort_planStands s p _) (breakLoad_planStands _ p _)) (withPort_planStands _ _ _))
    (planStands_composes.refl s)

/-! ### Every row but PLAN_ADOPT, STORE_WRITE_DONE and COLD_START -/

/-- The rows that write the active plan or the validity of the stored one. -/
def Instr.writesPlan : Instr → Bool
  | .coldStart _ | .planAdopt _ _ | .storeWriteDone _ => true
  | _ => false

theorem exec_planKept {i : Instr} {s t : State} (hi : Instr.writesPlan i = false) (h : exec i s = .next t) :
    PlanKept s t := by
  cases i with
  | coldStart x | planAdopt p body | storeWriteDone m => cases hi
  | scan x => exact execScan_planKept h
  | secondsTick => exact onLive_planKept secondsTickStep_planStands h
  | sampleWriteDone => exact execSampleWriteDone_planKept h
  | pushBlankingEnd p x => exact onLive_outside (pushBlankingEndStep_only p x) h
  | edgeBlankingEnd k x => exact onLive_outside (edgeBlankingEndStep_only k x) h
  | resetLow torn => exact whenOn_planKept (fun hn => by cases hn; exact cut_planKept s _ torn) h
  | powerLoss torn => exact execPowerLoss_planKept torn h
  | linkPulse phase => exact onLive_outside (pulse_only phase) h
  | decelPoint phase => exact onLive_whenDue Live.reachesDecel (pulse_only phase) h
  | stopTargetReached phase => exact onLive_whenDue Live.reachesTarget (pulse_only phase) h
  | sweepEnd phase => exact onLive_whenDue Live.reachesSweepEnd (pulse_only phase) h
  | stepRemainderEnd phase => exact onLive_whenDue Live.reachesStepEnd (pulse_only phase) h
  | missedIndex phase => exact onLive_whenDue Live.reachesMissed (pulse_only phase) h
  | indexPulse => exact onLive_outside indexStep_only h
  | chainSettled => exact onLive_outside chainSettledStep_only h
  | stall => exact onLive_outside stallStep_only h
  | startWarningEnd => exact onLive_outside startWarningEndStep_only h
  | warningGongToggle => exact onLive_outside warningGongStep_only h
  | sweepGongTimer => exact onLive_outside sweepGongStep_only h
  | wearWrite => exact execWearWrite_planKept h
  | reRing key => exact onLive_outside (reRingStep_only key) h
  | closingStepDue => exact onLive_outside (takeDue_only _ _) h
  | shutterWarningExpiry k => exact onLive_whenDue (Live.warnExpired · k) (judge_only · k) h
  | holdOffExpiry k => exact onLive_whenDue (Live.holdExpired · k) (judge_only · k) h
  | retractExpiry k => exact onLive_outside (retractStep_only k) h
  | pauseExpiry k => exact onLive_outside (pauseStep_only k) h
  | descentLimitExpiry k => exact onLive_outside (descentLimitStep_only k) h
  | raiseLimitExpiry k => exact onLive_outside (raiseLimitStep_only k) h
  | phaseEnd c => exact onLive_outside (phaseEndStep_only c) h
  | itemTimerExpiry pl =>
    exact onLive_whenDue (f := fun l => (l.endItem pl).grants) (Live.itemDue · pl)
      (fun l => keeps_trans (endItem_only l pl) (grants_only _)) h
  | phraseEnd pl => exact execPhraseEnd_planKept pl h
  | ampWaitExpiry ch => exact onLive_outside (ampWaitStep_only ch) h
  | ampHoldExpiry ch => exact onLive_outside (ampHoldStep_only ch) h
  | evacuationRestExpiry => exact onLive_outside evacRestStep_only h
  | frameGapTimeout p => exact onLive_planKept (frameGapStep_planStands p) h
  | frameDiscard p => exact onLive_planKept (frameDiscardStep_planStands p) h
  | replySent p => exact onLive_planKept (replySentStep_planStands p) h
  | frameByte p byte => exact onLive_planKept (frameByteStep_planStands p byte) h
  | unknownKind p code => exact onLive_planKept (unknownKindStep_planStands p code) h
  | unitRead p body | zoneRead p body | shutterRead p body | chainRead p body | callList p body | speakList p body
  | closingRead p body | wearRead p body | planRead p body | circuitRead p body =>
    exact onLive_planKept (takeRequest_planStands p _ _ _ (onBody_planStands body fun _ s => ⟨rfl, rfl⟩)) h
  | wearReadClear p body =>
    exact onLive_planKept (takeRequest_planStands p _ _ _
      (onBody_planStands body fun _ s => (wearReadClear_only p s).planStands)) h
  | noticeFetch p body =>
    exact onLive_planKept (takeRequest_planStands p _ _ _ (onBody_planStands body fun _ => noticeFetch_planStands p)) h
  | planOpen p body => exact onLive_planKept (breakingRequest_planStands p _ body planOpen_planStands) h
  | planEntry p body =>
    exact onLive_planKept (takeRequest_planStands p _ _ _ (onBody_planStands body planEntry_planStands)) h
  | planClose p body => exact onLive_planKept (breakingRequest_planStands p _ body fun _ s => ⟨rfl, rfl⟩) h
  | planDiscard p body => exact onLive_planKept (breakingRequest_planStands p _ body fun _ s => ⟨rfl, rfl⟩) h
  | sampleOpen p body => exact onLive_planKept (breakingRequest_planStands p _ body sampleOpen_planStands) h
  | sampleData p body =>
    exact onLive_planKept (takeRequest_planStands p _ _ _ (onBody_planStands body sampleData_planStands)) h
  | zoneIsolate p body =>
    exact onLive_planKept (breakingRequest_outside p _ body fun z => onZone_only (zoneIsolate_only z) z) h
  | zoneRestore p body =>
    exact onLive_planKept (breakingRequest_outside p _ body fun z => onZone_only (zoneRestore_only z) z) h
  | zoneSilence p body =>
    exact onLive_planKept (breakingRequest_outside p _ body fun z => onZone_only (zoneSilence_only z) z) h
  | zoneReset p body =>
    exact onLive_planKept (breakingRequest_outside p _ body fun z => onZone_only (zoneReset_only z) z) h
  | shutterLower p body =>
    exact onLive_planKept (breakingRequest_outside p _ body fun k => onShutter_only (shutterLower_only k) k) h
  | shutterRaise p body =>
    exact onLive_planKept (breakingRequest_outside p _ body fun k => onShutter_only (shutterRaise_only k) k) h
  | shutterHalt p body =>
    exact onLive_planKept (breakingRequest_outside p _ body fun k => onShutter_only (shutterHalt_only k) k) h
  | chainStart p body => exact onLive_planKept (breakingRequest_outside p _ body fun _ => chainStart_only) h
  | chainStop p body =>
    exact onLive_planKept (breakingRequest_outside p _ body fun _ s => keeps_widen (stopChain_only s)) h
  | chainInspectOn p body => exact onLive_planKept (breakingRequest_outside p _ body (onRowCode_only inspectOn_only)) h
  | chainInspectOff p body => exact onLive_planKept (breakingRequest_outside p _ body (onRowCode_only inspectOff_only)) h
  | chainStep p body => exact onLive_planKept (breakingRequest_outside p _ body chainStep_only) h
  | callPlace p body => exact onLive_planKept (breakingRequest_outside p _ body callPlace_only) h
  | callClear p body => exact onLive_planKept (breakingRequest_outside p _ body callClear_only) h
  | callMask p body => exact onLive_planKept (breakingRequest_outside p _ body callMask_only) h
  | speak p body => exact onLive_planKept (breakingRequest_outside p _ body (speak_only p)) h
  | speakCancel p body => exact onLive_planKept (breakingRequest_outside p _ body (speakCancel_only p)) h
  | closingBegin p body => exact onLive_planKept (breakingRequest_outside p _ body closingBegin_only) h
  | closingPostpone p body => exact onLive_planKept (breakingRequest_outside p _ body closingPostpone_only) h
  | closingAbort p body => exact onLive_planKept (breakingRequest_outside p _ body fun _ => closingAbort_only) h
  | closingResume p body => exact onLive_planKept (breakingRequest_outside p _ body fun _ => closingResume_only) h
  | unitRestart p body => exact onLive_planKept (breakingRequest_planStands p _ body fun _ s => ⟨rfl, rfl⟩) h
  | warmRestart => exact onLive_planKept (fun l => planStands_ite (warmRestart_planStands l) (planStands_composes.refl l)) h

/-- The end of the store write judges the copy and writes nothing else of the plan (R30). -/
theorem execStoreWriteDone_plan {s t : State} (matched : Bool) (h : exec (.storeWriteDone matched) s = .next t) :
    PlanStands s.live t.live ∧ t.nv.plan = s.nv.plan ∧ t.nv.fullClear = s.nv.fullClear := by
  change whenOn s _ = _ at h
  unfold whenOn at h
  split_ifs at h <;> cases h <;> exact ⟨⟨rfl, rfl⟩, rfl, rfl⟩

/-- Settles O20. -/
theorem planChangesOnlyByAdoption : Obligations.PlanChangesOnlyByAdoption := by
  intro i s t ran notAdopt
  by_cases writes : Instr.writesPlan i = true
  case neg =>
    obtain ⟨stands, plan, set, valid⟩ := exec_planKept (Bool.eq_false_iff.mpr writes) ran
    exact ⟨fun _ => stands, plan, set, fun _ => valid⟩
  cases i with
  | planAdopt p body => exact absurd rfl (notAdopt p body)
  | coldStart x =>
    cases ran
    exact ⟨fun notCold => absurd rfl (notCold x), rfl, rfl, fun _ => rfl⟩
  | storeWriteDone matched =>
    obtain ⟨stands, plan, set⟩ := execStoreWriteDone_plan matched ran
    exact ⟨fun _ => stands, plan, set, fun other => absurd rfl (other matched)⟩
  | _ => cases writes

end Sys2Proof.Machine

/-! # The full-clear residue set and the stop target

A sill forbids a residue exactly where a car's floor or roof comes within the keep-clear distance of it: both sides are said
as congruences modulo the pitch, and the cars stand one pitch apart. -/

namespace Sys2Proof.Machine

-- one thread: a proof that waits for the theorems before it would hold a thread of its own
set_option Elab.async false

/-! ## Nearness on a circle of links -/

/-- `x` lies within `b` of `y`, taken modulo `m`. -/
def Near (m b : Nat) (x y : Int) : Prop := ∃ j : Int, -b ≤ j ∧ j ≤ b ∧ x ≡ y + j [ZMOD m]

theorem near_congr {m b : Nat} {x y x' y' : Int} (h : x - y ≡ x' - y' [ZMOD m]) : Near m b x y ↔ Near m b x' y' := by
  have shift : ∀ {u v u' v' : Int}, u - v ≡ u' - v' [ZMOD m] → ∀ j, u ≡ v + j [ZMOD m] → u' ≡ v' + j [ZMOD m] := by
    intro u v u' v' huv j hj
    have step : u' - v' ≡ j [ZMOD m] := huv.symm.trans (by simpa using hj.sub_right v)
    simpa [add_comm] using step.add_right v'
  exact exists_congr fun j => and_congr_right fun _ => and_congr_right fun _ => ⟨shift h j, shift h.symm j⟩

theorem modNat_eq_iff {m : Nat} (hm : 0 < m) (a : Int) (r : Nat) (hr : r < m) : modNat a m = r ↔ (r : Int) ≡ a [ZMOD m] := by
  have low := Int.emod_nonneg a (by omega : (m : Int) ≠ 0)
  rw [modNat, Int.ModEq, Int.emod_eq_of_lt (a := (r : Int)) (by omega) (by omega)]
  omega

theorem inBand_iff {m b r : Nat} (hr : r < m) (centre : Int) : inBand m b centre r = true ↔ Near m b r centre := by
  have hm : 0 < m := by omega
  simp only [inBand, List.any_eq_true, List.mem_range, beq_iff_eq, modNat_eq_iff hm _ r hr]
  constructor
  · rintro ⟨d, hd, at_⟩
    exact ⟨d - b, by omega, by omega, by rwa [show centre + ((d : Int) - b) = centre - b + d by ring]⟩
  · rintro ⟨j, low, high, at_⟩
    refine ⟨(j + b).toNat, by omega, ?_⟩
    rwa [Int.toNat_of_nonneg (by omega), show centre - b + (j + b) = centre + j by ring]

/-- A remainder is at most `b` exactly where some number from 0 to `b` is congruent. -/
theorem modNat_le_iff {l : Nat} (hl : 0 < l) (b : Nat) (a : Int) :
    modNat a l ≤ b ↔ ∃ j : Int, 0 ≤ j ∧ j ≤ b ∧ a ≡ j [ZMOD l] := by
  have low := Int.emod_nonneg a (by omega : (l : Int) ≠ 0)
  constructor
  · intro h
    exact ⟨a % l, low, by unfold modNat at h; omega, (Int.mod_modEq a l).symm⟩
  · rintro ⟨j, hj, hb, at_⟩
    have bound : j % (l : Int) ≤ j := by
      have nonneg := Int.mul_nonneg (by omega : (0 : Int) ≤ l) (Int.ediv_nonneg hj (by omega : (0 : Int) ≤ l))
      have split := Int.emod_add_mul_ediv j l
      omega
    unfold modNat
    rw [show a % (l : Int) = j % l from at_]
    omega

theorem loopDistance_le_iff {l : Nat} (hl : 0 < l) (b x y : Nat) : loopDistance l x y ≤ b ↔ Near l b x y := by
  rw [loopDistance, min_le_iff, modNat_le_iff hl, modNat_le_iff hl]
  have move : ∀ j : Int, (x : Int) - y ≡ j [ZMOD l] ↔ (x : Int) ≡ y + j [ZMOD l] := fun j =>
    ⟨fun h => by simpa [add_comm] using h.add_right (y : Int), fun h => by simpa using h.sub_right (y : Int)⟩
  have flip : ∀ j : Int, (y : Int) - x ≡ j [ZMOD l] ↔ (x : Int) - y ≡ -j [ZMOD l] := fun j =>
    ⟨fun h => by simpa using h.neg, fun h => by simpa using h.neg⟩
  constructor
  · rintro (⟨j, low, high, at_⟩ | ⟨j, low, high, at_⟩)
    · exact ⟨j, by omega, high, (move j).mp at_⟩
    · exact ⟨-j, by omega, by omega, (move _).mp ((flip j).mp at_)⟩
  · rintro ⟨j, low, high, at_⟩
    rcases Int.le_total 0 j with up | down
    · exact .inl ⟨j, up, high, (move j).mpr at_⟩
    · exact .inr ⟨-j, by omega, by omega, (flip _).mpr (by simpa using (move j).mpr at_)⟩

/-- Near modulo the pitch is near, modulo the loop, for one of the `n` positions a pitch apart. -/
theorem near_pitch_iff {m n b : Nat} (hn : 0 < n) (x y : Int) :
    Near m b x y ↔ ∃ k, k < n ∧ Near (m * n) b (x + (k * m : Nat)) y := by
  constructor
  · rintro ⟨j, low, high, at_⟩
    obtain ⟨q, hq⟩ := at_.dvd
    have hn' : (n : Int) ≠ 0 := by omega
    have low' := Int.emod_nonneg q hn'
    have high' := Int.emod_lt_of_pos q (by omega : (0 : Int) < n)
    refine ⟨(q % n).toNat, by omega, j, low, high, ?_⟩
    refine (Int.modEq_iff_dvd).mpr ⟨q / n, ?_⟩
    have whole := Int.emod_add_mul_ediv q n
    push_cast [Int.toNat_of_nonneg low']
    linear_combination hq - (m : Int) * whole
  · rintro ⟨k, _, j, low, high, at_⟩
    refine ⟨j, low, high, ?_⟩
    have pitch : x + (k * m : Nat) ≡ y + j [ZMOD m] := at_.of_mul_right n
    have car : ((k * m : Nat) : Int) ≡ 0 [ZMOD m] := (Int.modEq_zero_iff_dvd).mpr ⟨k, by push_cast; ring⟩
    simpa using (Int.ModEq.rfl.add car.symm).trans pitch

/-! ## The cars and the sills (R27, R35, R43) -/

section
variable {p : Plan}

/-- The checks of R25 make the loop a whole number of pitches, one to each car. -/
theorem geometryOk_pitch (ok : p.geometryOk = true) :
    p.geometry.loopLength = p.pitch * p.geometry.cars ∧ 0 < p.pitch ∧ 0 < p.geometry.cars := by
  simp only [Plan.geometryOk, Bool.and_eq_true, beq_iff_eq, decide_eq_true_eq] at ok
  obtain ⟨⟨⟨⟨⟨⟨⟨⟨-, whole⟩, -⟩, -⟩, -⟩, -⟩, height⟩, -⟩, -⟩ := ok
  have pitch : 0 < p.pitch := by omega
  refine ⟨(Nat.div_mul_cancel (Nat.dvd_of_mod_eq_zero whole)).symm, pitch, Nat.pos_of_ne_zero fun none_ => ?_⟩
  simp [Plan.pitch, none_] at pitch

theorem carFloor_modEq (c k : Nat) : (p.carFloor c k : Int) ≡ c + (k * p.pitch : Nat) [ZMOD p.geometry.loopLength] := by
  rw [Plan.carFloor]
  exact_mod_cast Nat.mod_modEq (c + k * p.pitch) p.geometry.loopLength

/-- A car's roof stands off a sill as its floor stands off the middle of the sill's roof band. -/
theorem carRoof_modEq (hl : 0 < p.geometry.loopLength) (e : SillEntry) (c k : Nat) :
    (p.carRoof c k e.run : Int) - p.sillPosition e ≡ (c : Int) + (k * p.pitch : Nat) - p.roofCentre e
      [ZMOD p.geometry.loopLength] := by
  have floor := carFloor_modEq (p := p) c k
  cases run : e.run with
  | up =>
    have roof : (p.carRoof c k .up : Int) ≡ p.carFloor c k + p.geometry.carHeight [ZMOD p.geometry.loopLength] := by
      rw [Plan.carRoof]
      exact_mod_cast Nat.mod_modEq (p.carFloor c k + p.geometry.carHeight) p.geometry.loopLength
    simp only [Plan.roofCentre, run]
    convert (roof.trans (floor.add_right _)).sub_right _ using 1
    ring
  | down =>
    have roof : (p.carRoof c k .down : Int) ≡ p.carFloor c k - p.geometry.carHeight [ZMOD p.geometry.loopLength] := by
      rw [Plan.carRoof, modNat, Int.toNat_of_nonneg (Int.emod_nonneg _ (by omega))]
      exact Int.mod_modEq _ _
    simp only [Plan.roofCentre, run]
    convert (roof.trans (floor.sub_right _)).sub_right _ using 1
    ring

/-- A sill forbids the count's residue exactly where some car's floor or roof is not clear of it. -/
theorem sillForbids_iff (ok : p.geometryOk = true) (e : SillEntry) (c : Nat) :
    p.sillForbids e (c % p.pitch) = true ↔ p.sillClear e c = false := by
  obtain ⟨loop, pitch, cars⟩ := geometryOk_pitch ok
  have hl : 0 < p.geometry.loopLength := loop ▸ Nat.mul_pos pitch cars
  have residue : ((c % p.pitch : Nat) : Int) ≡ c [ZMOD p.pitch] := by
    rw [Int.natCast_mod]
    exact Int.mod_modEq _ _
  have band : ∀ y : Int, inBand p.pitch p.geometry.keepClear y (c % p.pitch) = true ↔
      ∃ k, k < p.geometry.cars ∧ Near p.geometry.loopLength p.geometry.keepClear (c + (k * p.pitch : Nat)) y := fun y => by
    rw [inBand_iff (Nat.mod_lt c pitch), near_congr (residue.sub_right y), near_pitch_iff cars, loop]
  have floor : ∀ k, loopDistance p.geometry.loopLength (p.carFloor c k) (p.sillPosition e) ≤ p.geometry.keepClear ↔
      Near p.geometry.loopLength p.geometry.keepClear (c + (k * p.pitch : Nat)) (p.sillPosition e) := fun k => by
    rw [loopDistance_le_iff hl, near_congr ((carFloor_modEq c k).sub_right _)]
  have roof : ∀ k, loopDistance p.geometry.loopLength (p.carRoof c k e.run) (p.sillPosition e) ≤ p.geometry.keepClear ↔
      Near p.geometry.loopLength p.geometry.keepClear (c + (k * p.pitch : Nat)) (p.roofCentre e) := fun k => by
    rw [loopDistance_le_iff hl, near_congr (carRoof_modEq hl e c k)]
  simp only [Plan.sillForbids, Bool.or_eq_true, band, Plan.sillClear, List.all_eq_false, List.mem_range, Bool.and_eq_true,
    decide_eq_true_eq, not_and_or, Nat.not_lt, floor, roof, and_or_left, exists_or]

theorem sill_beyond (p : Plan) {i : Nat} (h : 16 ≤ i) : (p.sill i).present = false := by
  rw [Plan.sill, Bank.read_beyond p.sills i emptySill h]
  rfl

/-- R27, R43: the set A holds the count's residue exactly where every present sill is clear. -/
theorem mem_residues_iff (ok : p.geometryOk = true) (c : Nat) :
    c % p.pitch ∈ p.residues ↔ ∀ i, (p.sill i).present = true → p.sillClear (p.sill i) c = true := by
  have pitch := (geometryOk_pitch ok).2.1
  have allowed : ∀ i, p.sillForbids (p.sill i) (c % p.pitch) = false ↔ p.sillClear (p.sill i) c = true := fun i => by
    rw [← Bool.not_eq_true, sillForbids_iff ok, Bool.not_eq_false]
  simp only [Plan.residues, List.mem_filter, List.mem_range, Nat.mod_lt c pitch, true_and, List.all_eq_true, Bool.or_eq_true,
    Bool.not_eq_true', allowed]
  constructor
  · intro clear i present
    rcases Nat.lt_or_ge i 16 with low | high
    · exact (clear i low).resolve_left (by simp [present])
    · simp [sill_beyond p high] at present
  · intro clear i _
    cases present : (p.sill i).present with
    | false => exact .inl rfl
    | true => exact .inr (clear i present)

end

/-! ## The stop target (R57) -/

section
variable {a : List Nat} {m : Nat} (c d : Nat)

/-- Where A holds a residue, one lies fewer than a pitch beyond any count. -/
theorem exists_residue_ahead (some_ : ∃ r ∈ a, r < m) : ∃ i, i < m ∧ (c + d + i) % m ∈ a := by
  obtain ⟨r, hr, low⟩ := some_
  have hm : 0 < m := by omega
  have at_ := Nat.mod_lt (c + d) hm
  refine ⟨(r + (m - (c + d) % m)) % m, Nat.mod_lt _ hm, ?_⟩
  have reach : (c + d + (r + (m - (c + d) % m)) % m) % m = r := by
    rw [Nat.add_mod_mod, ← Nat.mod_add_mod, show (c + d) % m + (r + (m - (c + d) % m)) = r + m by omega,
      Nat.add_mod_right, Nat.mod_eq_of_lt low]
  rwa [reach]

/-- The stop distance is the least that is at least the allowance and lands on a residue of A. -/
theorem stopDistance_least (some_ : ∃ r ∈ a, r < m) : d ≤ stopDistance c d m a ∧ stopDistance c d m a < d + m ∧
    (c + stopDistance c d m a) % m ∈ a ∧ ∀ x, d ≤ x → x < stopDistance c d m a → (c + x) % m ∉ a := by
  unfold stopDistance
  cases found : (List.range m).find? fun i => a.contains ((c + d + i) % m) with
  | none =>
    obtain ⟨i, low, hit⟩ := exists_residue_ahead c d some_
    have miss := List.find?_range_eq_none.mp found i low
    simp [hit] at miss
  | some i =>
    obtain ⟨hit, low, before⟩ := List.find?_range_eq_some.mp found
    dsimp only
    have low : i < m := List.mem_range.mp low
    refine ⟨Nat.le_add_right d i, by omega, by simpa [Nat.add_assoc] using hit, fun x hx hxi => ?_⟩
    obtain ⟨j, rfl⟩ := Nat.exists_eq_add_of_le hx
    simpa [Nat.add_assoc] using before j (by omega)

end

theorem exists_residue {p : Plan} (some_ : p.residues ≠ []) : ∃ r ∈ p.residues, r < p.pitch := by
  obtain ⟨r, hr⟩ := List.exists_mem_of_ne_nil _ some_
  exact ⟨r, hr, List.mem_range.mp (List.mem_filter.mp hr).1⟩

/-- The stop target has the residue of the count it is placed ahead of. -/
theorem placeStop_residue {p : Plan} (ok : p.geometryOk = true) (some_ : p.residues ≠ []) (c v : Nat) :
    (placeStop p p.residues c v).target % p.pitch ∈ p.residues := by
  have lands := (stopDistance_least c (stopAllowance v p.geometry.decelTime) (exists_residue some_)).2.2.1
  have whole : p.pitch ∣ p.geometry.loopLength := ⟨_, (geometryOk_pitch ok).1⟩
  rwa [← Nat.mod_mod_of_dvd _ whole] at lands

/-- Settles O26. -/
theorem fullClearSetAndStopTarget : Obligations.FullClearSetAndStopTarget := by
  refine ⟨⟨fun p c ok => mem_residues_iff ok c, fun p c v ok some_ => ?_⟩, fun p a c v some_ => ?_⟩
  · exact (mem_residues_iff ok _).mp (placeStop_residue ok some_ c v)
  · obtain ⟨far, near, lands, first⟩ := stopDistance_least c (stopAllowance v p.geometry.decelTime) some_
    exact ⟨rfl, far, near, lands, first, rfl, rfl⟩

end Sys2Proof.Machine

/-! # Right after reset -/

namespace Sys2Proof.Machine

-- one thread: a proof that waits for the theorems before it would hold a thread of its own
set_option Elab.async false

/-- No module was listed, so no point is numbered. -/
theorem reset_numbered (k : ModuleKind) (i : Nat) : State.reset.live.loop.numbered k i = false := by
  simp [FieldLoop.numbered, FieldLoop.countOf, State.reset, resetLive, FieldLoop.blank]

theorem reset_inAlarm (z : Nat) : State.reset.live.inAlarm z = false := by
  have rest : State.reset.live.zone z = .start false := Bank.read_replicate 16 _ z
  rw [Live.inAlarm, rest]
  rfl

theorem reset_channel (ch : Nat) : State.reset.live.channel ch = .rest := Bank.read_replicate 8 _ ch

theorem emptyPlan_pushLevels : emptyPlan.pushLevels := fun k => by
  rw [show emptyPlan.push k = emptyPush from Bank.read_replicate 64 _ k]
  decide

theorem reset_interlock : Interlock State.reset.live := ⟨nofun, fun moving => absurd rfl moving⟩

theorem reset_chainItems : ChainItems State.reset.live := ⟨nofun, nofun, nofun, nofun, nofun, nofun, nofun, nofun⟩

theorem reset_alarmStopsProgramme : AlarmStopsProgramme State.reset.live := fun z alarm =>
  absurd (alarm.symm.trans (reset_inAlarm z)) nofun

theorem reset_portQueue : PortQueue resetPort := ⟨by decide, rfl⟩

theorem reset_callOrder : CallOrder State.reset.live.calls := ⟨by decide, .nil, .nil, nofun, nofun⟩

theorem reset_pushLevels : PushLevels State.reset := ⟨emptyPlan_pushLevels, emptyPlan_pushLevels, emptyPlan_pushLevels⟩

theorem reset_speakQueue : SpeakQueue State.reset.live := ⟨by decide, nofun, .nil, .nil, nofun, nofun, by decide⟩

theorem reset_gearDriven : GearDriven State.reset.live := fun k numbered =>
  absurd (numbered.symm.trans (reset_numbered _ k)) nofun

theorem reset_soundersFollow : SoundersFollow State.reset.live := fun c numbered =>
  absurd (numbered.symm.trans (reset_numbered _ c)) nofun

theorem reset_indicatorsFollow : IndicatorsFollow State.reset.live := fun p numbered =>
  absurd (numbered.symm.trans (reset_numbered _ p)) nofun

theorem reset_channels : Channels State.reset.live where
  request pl := by cases pl <;> decide
  holder ch pl held := by rw [reset_channel] at held; cases held
  routed ch pl routed := by rw [reset_channel] at routed; cases routed
  selects ch numbered := absurd (numbered.symm.trans (reset_numbered _ ch)) nofun

theorem reset_countInLoop : CountInLoop State.reset := ⟨by decide, by decide⟩

theorem reset_speedFollowsRing : SpeedFollowsRing State.reset.live.monitor := ⟨by decide, nofun, rfl, by decide⟩

theorem reset_port (p : Port) : State.reset.live.port p = resetPort := by cases p <;> rfl

/-- Settles O7. -/
theorem resetStateMeetsInvariants : Obligations.ResetStateMeetsInvariants := by
  refine ⟨⟨rfl, rfl, rfl, rfl, rfl, rfl, rfl, rfl, rfl, rfl, rfl, rfl, rfl, rfl, rfl, rfl, rfl, rfl, rfl, rfl, fun p => ?_⟩,
    reset_interlock, reset_chainItems, reset_alarmStopsProgramme, reset_portQueue, reset_portQueue, reset_callOrder,
    reset_pushLevels, reset_speakQueue, reset_gearDriven, reset_soundersFollow, reset_indicatorsFollow, reset_channels,
    reset_countInLoop, reset_speedFollowsRing, reset_wf⟩
  rw [reset_port]
  exact ⟨rfl, rfl, rfl⟩

end Sys2Proof.Machine

/-! # What lights no indicator and enters no call but a fire call

A zone that latches moves shutters and the chain, enters fire calls and takes up an evacuation play; of the call list and the
indicators it adds only the fire calls (R88 to R92). -/

namespace Sys2Proof.Machine

-- one thread: a proof that waits for the theorems before it would hold a thread of its own
set_option Elab.async false

/-- Each call is a fire call or was in the list before, and an indicator that was off stays off. -/
structure Subsides (s t : Live) : Prop where
  calls : ∀ r ∈ t.calls, (∃ c, r.key = .fire c) ∨ ∃ x ∈ s.calls, x.key = r.key
  indicators : ∀ p, s.image.indicators.read p false = false → t.image.indicators.read p false = false

theorem subsides_of_same {s t : Live} (calls : t.calls = s.calls) (indicators : t.image.indicators = s.image.indicators) :
    Subsides s t := ⟨fun r hr => .inr ⟨r, calls ▸ hr, rfl⟩, fun p off => by rw [indicators]; exact off⟩

theorem subsides_composes : Composes Subsides where
  refl _ := subsides_of_same rfl rfl
  trans h g := {
    calls := fun r hr => by
      rcases g.calls r hr with fire | ⟨x, hx, same⟩
      · exact .inl fire
      · exact same ▸ h.calls x hx
    indicators := fun p off => g.indicators p (h.indicators p off) }

theorem Keeps.subsides {ps : List Part} {s t : Live} (h : Keeps ps s t) (calls : .calls ∉ ps := by decide)
    (image : .image ∉ ps := by decide) : Subsides s t :=
  subsides_of_same (h.parts .calls calls) (congrArg Image.indicators (h.parts .image image))

theorem Subsides.next {ps : List Part} {s t u : Live} (h : Subsides s t) (g : Keeps ps t u)
    (calls : .calls ∉ ps := by decide) (image : .image ∉ ps := by decide) : Subsides s u :=
  subsides_composes.trans h (g.subsides calls image)

/-- An operation after a change that leaves the call list and the indicators. -/
theorem Subsides.after {s t u : Live} (h : Subsides t u) (calls : t.calls = s.calls)
    (indicators : t.image.indicators = s.image.indicators) : Subsides s u :=
  subsides_composes.trans (subsides_of_same calls indicators) h

/-! ## Shutters and a chain that no fire stop sets moving -/

theorem blankEdge_subsides (s : Live) (k : Nat) : Subsides s (s.blankEdge k) :=
  ChainRule.either (subsides_of_same rfl rfl) (subsides_composes.refl s)

theorem writeGear_subsides (s : Live) (k : Nat) (st : ShutterState) : Subsides s (s.writeGear k st) := by
  unfold Live.writeGear
  extract_lets o braked image t
  have written : Subsides s t := subsides_of_same rfl rfl
  exact ChainRule.either
    (ChainRule.either (subsides_composes.trans written (blankEdge_subsides t k)) written) (subsides_composes.refl s)

theorem changeShutter_subsides (s : Live) (k : Nat) (r : ShutterRecord) : Subsides s (s.changeShutter k r) := by
  unfold Live.changeShutter
  extract_lets old t u
  have written : Subsides t u := ChainRule.either (subsides_composes.refl t) (writeGear_subsides t k _)
  have changed : Subsides s u := written.after rfl rfl
  exact changed.next (postIf_only u _ _)

theorem raiseWear_subsides (s : Live) (e : WearEvent) : Subsides s (s.raiseWear e) := (raiseWear_only s e).subsides

theorem closeAtLimit_subsides (s : Live) (k : Nat) : Subsides s (s.closeAtLimit k) :=
  subsides_composes.trans (changeShutter_subsides s k _) (raiseWear_subsides _ _)

theorem thirdObstruction_subsides (s : Live) (k : Nat) : Subsides s (s.thirdObstruction k) :=
  ChainRule.either (subsides_of_same rfl rfl) ((changeShutter_subsides s k _).next (post_only _ _))

theorem obstruct_subsides (s : Live) (k : Nat) : Subsides s (s.obstruct k) := by
  unfold Live.obstruct
  extract_lets r r' t
  have counted : Subsides s t :=
    Subsides.next ((raiseWear_subsides (s.withShutter k r') (.obstruction k)).after rfl rfl) (post_only _ _)
  exact subsides_composes.trans counted (ChainRule.either (changeShutter_subsides t k _) (thirdObstruction_subsides t k))

theorem enterDescending_subsides (s : Live) (k : Nat) (r : ShutterRecord) : Subsides s (s.enterDescending k r) :=
  subsides_composes.trans (changeShutter_subsides s k _)
    (ChainRule.either (closeAtLimit_subsides _ k) (ChainRule.either (obstruct_subsides _ k) (subsides_composes.refl _)))

theorem judge_subsides (s : Live) (k : Nat) : Subsides s (s.judge k) :=
  ChainRule.either
    (ChainRule.either (enterDescending_subsides s k _)
      (ChainRule.either ((enterDescending_subsides _ k _).after rfl rfl)
        (ChainRule.either (subsides_composes.refl s) (subsides_of_same rfl rfl))))
    (subsides_composes.refl s)

theorem judgeWhere_subsides (s : Live) (which : Nat → Bool) : Subsides s (s.judgeWhere which) :=
  subsides_composes.foldl _ (fun t k => ChainRule.either (judge_subsides t k) (subsides_composes.refl t)) _ s

theorem takeChainState_subsides (s : Live) : Subsides s s.takeChainState :=
  ChainRule.either (subsides_composes.refl s) ((judgeWhere_subsides _ _).after rfl rfl)

theorem setChain_subsides (s : Live) (st : ChainState) : Subsides s (s.setChain st) :=
  ChainRule.either (subsides_composes.refl s) (subsides_of_same rfl rfl)

theorem enterChain_subsides (s : Live) (st : ChainState) : Subsides s (s.enterChain st) :=
  subsides_composes.trans (setChain_subsides s st) (takeChainState_subsides _)

theorem rejudgeSill_subsides (s : Live) (i : Nat) : Subsides s (s.rejudgeSill i) :=
  ChainRule.either (subsides_composes.refl s) ((judgeWhere_subsides _ _).after rfl rfl)

theorem rejudge_subsides (s : Live) : Subsides s s.rejudge := subsides_composes.foldl _ rejudgeSill_subsides _ s

/-! ## Calls and circuits -/

theorem updateCall_subsides (s : Live) (key : CallKey) {f : CallRecord → CallRecord} (hf : ∀ r, (f r).key = r.key) :
    Subsides s (s.updateCall key f) where
  calls := by
    intro r hr
    obtain ⟨x, hx, rfl⟩ := List.mem_map.mp hr
    refine .inr ⟨x, hx, ?_⟩
    split
    · exact (hf x).symm
    · rfl
  indicators _ off := off

theorem dropKey_subsides (s : Live) (key : CallKey) : Subsides s { s with calls := dropKey key s.calls } where
  calls r hr := .inr ⟨r, List.mem_of_mem_filter hr, rfl⟩
  indicators _ off := off

theorem writeSounder_subsides (s : Live) (c : Nat) (on : Bool) : Subsides s (s.writeSounder c on) :=
  ChainRule.either (subsides_of_same rfl rfl) (subsides_composes.refl s)

theorem blankPush_subsides (s : Live) (p : Nat) : Subsides s (s.blankPush p) :=
  ChainRule.either (subsides_of_same rfl rfl) (subsides_composes.refl s)

theorem writeIndicator_subsides (s : Live) (p : Nat) : Subsides s (s.writeIndicator p false) := by
  unfold Live.writeIndicator
  refine ChainRule.either (subsides_composes.trans ?_ (blankPush_subsides _ p)) (subsides_composes.refl s)
  exact {
    calls := fun r hr => .inr ⟨r, hr, rfl⟩
    indicators := fun q off => (Bank.read_put_cases s.image.indicators p q false false).elim (·.trans off) And.right }

theorem beginRing_subsides (s : Live) (c : Nat) (r : CallRecord) : Subsides s (s.beginRing c r) :=
  subsides_composes.trans (t := (s.withCircuit c { s.circuit c with
      ring := some ⟨r.key, r.pattern, firstStroke r.pattern, .on, 0⟩ }).writeSounder c true)
    ((writeSounder_subsides _ c true).after rfl rfl) (updateCall_subsides _ r.key fun _ => rfl)

theorem choose_subsides (s : Live) (c : Nat) : Subsides s (s.choose c) := by
  unfold Live.choose
  refine ChainRule.either (subsides_composes.refl s) ?_
  split
  · exact beginRing_subsides s c _
  · exact subsides_composes.refl s

theorem takeMask_subsides (s : Live) (c : Nat) : Subsides s (s.takeMask c) := by
  unfold Live.takeMask
  extract_lets r
  split
  · exact subsides_composes.refl s
  · exact ((postIf_only _ _ _).subsides).after rfl rfl

theorem stopRing_subsides (s : Live) (c : Nat) : Subsides s (s.stopRing c) :=
  have silenced : Subsides s ((s.withCircuit c { s.circuit c with ring := none }).writeSounder c false) :=
    (writeSounder_subsides _ c false).after rfl rfl
  subsides_composes.trans (subsides_composes.trans silenced (takeMask_subsides _ c)) (choose_subsides _ c)

theorem tellCircuit_subsides (s : Live) (r : CallRecord) : Subsides s (s.tellCircuit r) := by
  unfold Live.tellCircuit
  split
  · next ring _ =>
    have gaveUp := updateCall_subsides s ring.key (f := fun x => { x with state := .waiting }) fun _ => rfl
    exact ChainRule.either (subsides_composes.trans gaveUp (beginRing_subsides _ _ _)) (subsides_composes.refl s)
  · exact choose_subsides s _

theorem stopIfRinging_subsides (s : Live) (c : Nat) (key : CallKey) : Subsides s (s.stopIfRinging c key) := by
  unfold Live.stopIfRinging
  split
  · exact ChainRule.either (stopRing_subsides s c) (subsides_composes.refl s)
  · exact subsides_composes.refl s

theorem indicatorOff_subsides (s : Live) (key : CallKey) : Subsides s (indicatorOff s key) := by
  unfold indicatorOff
  split
  · exact writeIndicator_subsides s _
  · exact subsides_composes.refl s

theorem takeOut_subsides (s : Live) (r : CallRecord) : Subsides s (s.takeOut r) :=
  subsides_composes.trans (subsides_composes.trans (dropKey_subsides s _) (stopIfRinging_subsides _ _ _))
    (indicatorOff_subsides _ _)

theorem makeRoom_subsides (s : Live) (r : CallRecord) : Subsides s (s.makeRoom r).1 := by
  unfold Live.makeRoom
  split
  · exact subsides_composes.refl s
  · split
    · exact subsides_composes.refl s
    · split
      · exact (takeOut_subsides s _).next (post_only _ _)
      · exact (post_only s _).subsides

theorem mem_insertCall {r x : CallRecord} {l : List CallRecord} : x ∈ insertCall r l ↔ x = r ∨ x ∈ l := by
  induction l with
  | nil => simp [insertCall]
  | cons y rest ih =>
    unfold insertCall
    split
    · simp only [List.mem_cons, ih]; tauto
    · simp only [List.mem_cons]

/-- The list with a fire call in its place. -/
theorem insertCall_subsides (s : Live) {r : CallRecord} {c : Nat} (fire : r.key = .fire c) :
    Subsides s { s with calls := insertCall r s.calls } where
  calls x hx := (mem_insertCall.mp hx).elim (fun new => .inl ⟨c, by rw [new, fire]⟩) fun old => .inr ⟨x, old, rfl⟩
  indicators _ off := off

theorem join_fire_subsides (s : Live) {r : CallRecord} {c : Nat} (fire : r.key = .fire c) : Subsides s (s.join r).1 := by
  unfold Live.join
  extract_lets room entering t u
  split
  · have placed : Subsides s t := subsides_composes.trans (makeRoom_subsides s r) (insertCall_subsides _ fire)
    have told : Subsides u (indicatorOn u r.key) := by rw [fire]; exact subsides_composes.refl u
    have entered : Subsides s u := placed.next (post_only t _)
    exact subsides_composes.trans (subsides_composes.trans entered told) (tellCircuit_subsides _ r)
  · exact makeRoom_subsides s r

theorem fireCallEnter_subsides (s : Live) (c : Nat) : Subsides s (s.fireCallEnter c) := by
  unfold Live.fireCallEnter
  split
  · exact subsides_composes.refl s
  · exact join_fire_subsides s rfl

theorem fireCallLeave_subsides (s : Live) (c : Nat) : Subsides s (s.fireCallLeave c) := by
  unfold Live.fireCallLeave
  split
  · exact (takeOut_subsides s _).next (post_only _ _)
  · exact subsides_composes.refl s

theorem handCircuits_subsides (s : Live) (l : List Nat) : Subsides s (s.handCircuits l) :=
  subsides_composes.trans (subsides_composes.foldl _ fireCallLeave_subsides _ s)
    (subsides_composes.foldl _ fireCallEnter_subsides _ _)

/-! ## Channels and players -/

theorem setSpeech_subsides (s : Live) (sp : Speech) : Subsides s { s with speech := sp } := subsides_of_same rfl rfl

theorem withPlayer_subsides (s : Live) (pl : Player) (c : PlayerContext) : Subsides s (s.withPlayer pl c) := by
  cases pl <;> exact subsides_of_same rfl rfl

theorem withChannel_subsides (s : Live) (ch : Nat) (c : Channel) : Subsides s (s.withChannel ch c) :=
  Subsides.after (t := { s with speech := { s.speech with channels := s.speech.channels.put ch c } })
    (ChainRule.either (subsides_of_same rfl rfl) (subsides_composes.refl _)) rfl rfl

theorem takeChannel_subsides (s : Live) (pl : Player) (ch : Nat) : Subsides s (s.takeChannel pl ch) :=
  ChainRule.either (withChannel_subsides s ch _) (withChannel_subsides s ch _)

theorem freePlayer_subsides (s : Live) (pl : Player) : Subsides s (s.freePlayer pl) :=
  subsides_composes.trans (subsides_composes.foldl _ (fun t ch => withChannel_subsides t ch _) _ s)
    (withPlayer_subsides _ pl _)

theorem restAfter_subsides (s : Live) (r : SpeakRequest) : Subsides s (s.restAfter r) :=
  ChainRule.either (subsides_of_same rfl rfl) (subsides_composes.refl s)

theorem stopPlay_subsides (s : Live) (pl : Player) (why : AbandonReason) : Subsides s (s.stopPlay pl why) := by
  unfold Live.stopPlay
  split
  · exact (freePlayer_subsides s pl).next (post_only _ _)
  · exact subsides_composes.refl s

theorem completePlay_subsides (s : Live) (pl : Player) : Subsides s (s.completePlay pl) := by
  unfold Live.completePlay
  split
  · exact subsides_composes.trans ((freePlayer_subsides s pl).next (post_only _ _)) (restAfter_subsides _ _)
  · exact subsides_composes.refl s

theorem failPlay_subsides (s : Live) (pl : Player) : Subsides s (s.failPlay pl) := by
  unfold Live.failPlay
  split
  · exact subsides_composes.trans (stopPlay_subsides s pl _) (restAfter_subsides _ _)
  · exact subsides_composes.refl s

theorem beginItem_subsides (s : Live) (pl : Player) (r : SpeakRequest) (i : Nat) (it : Item) :
    Subsides s (s.beginItem pl r i it).1 := by
  unfold Live.beginItem Live.beginPhrase
  dsimp only
  split
  case h_1 | h_2 => exact withPlayer_subsides s pl _
  case h_3 =>
    split
    · exact withPlayer_subsides s pl _
    · exact withPlayer_subsides s pl _
  case h_4 =>
    split
    · exact withPlayer_subsides s pl _
    · split
      · exact withPlayer_subsides s pl _
      · exact (withPlayer_subsides s pl _).next (postIf_only _ _ _)

theorem runItems_subsides (fuel : Nat) (pl : Player) (s : Live) : Subsides s (s.runItems fuel pl) := by
  induction fuel generalizing s with
  | zero => exact subsides_composes.refl s
  | succ n ih =>
    unfold Live.runItems
    split
    · split
      · exact completePlay_subsides s pl
      · dsimp only
        split
        · exact beginItem_subsides s pl _ _ _
        · exact subsides_composes.trans (beginItem_subsides s pl _ _ _) (ih _)
    · exact subsides_composes.refl s

theorem enterPlaying_subsides (s : Live) (pl : Player) : Subsides s (s.enterPlaying pl) :=
  subsides_composes.trans
    (subsides_composes.trans (withPlayer_subsides s pl _)
      (subsides_composes.foldl _
        (fun t ch => ChainRule.either (withChannel_subsides t ch _) (subsides_composes.refl t)) _ _))
    (runItems_subsides _ pl _)

theorem checkPlayer_subsides (s : Live) (pl : Player) : Subsides s (s.checkPlayer pl) :=
  ChainRule.either (subsides_composes.refl s) (ChainRule.either (failPlay_subsides s pl)
    (ChainRule.either (enterPlaying_subsides s pl) (subsides_composes.refl s)))

theorem takeUp_subsides (s : Live) (pl : Player) (r : SpeakRequest) : Subsides s (s.takeUp pl r) :=
  subsides_composes.trans
    (subsides_composes.trans
      (subsides_composes.trans (setSpeech_subsides s { s.speech with nextSequence := s.speech.nextSequence + 1 })
        (withPlayer_subsides _ pl _))
      (subsides_composes.foldl _ (fun t ch => takeChannel_subsides t pl ch) _ _))
    (checkPlayer_subsides _ pl)

theorem preemptPlayer_subsides (s : Live) (l : List Nat) (pl : Player) : Subsides s (s.preemptPlayer l pl) :=
  ChainRule.either (stopPlay_subsides s pl _) (subsides_composes.refl s)

theorem evacTake_subsides (s : Live) (k : Nat) : Subsides s (s.evacTake k) := by
  unfold Live.evacTake
  dsimp only
  refine subsides_composes.trans ?_ (takeUp_subsides _ _ _)
  refine subsides_composes.trans ?_ (setSpeech_subsides _ _)
  have both : Subsides s ((s.preemptPlayer s.speech.evac.channels .a).preemptPlayer s.speech.evac.channels .b) :=
    subsides_composes.trans (preemptPlayer_subsides s _ .a) (preemptPlayer_subsides _ _ .b)
  exact ChainRule.either (subsides_composes.trans both (stopPlay_subsides _ _ _)) both

theorem evacBegin_subsides (s : Live) : Subsides s s.evacBegin := by
  unfold Live.evacBegin
  split
  · exact evacTake_subsides s _
  · exact setSpeech_subsides s _

theorem joinPlay_subsides (s : Live) (pl : Player) (ch : Nat) : Subsides s (s.joinPlay pl ch) :=
  ChainRule.either (subsides_composes.refl s)
    (subsides_composes.trans (preemptPlayer_subsides s [ch] (otherPlayer pl)) (takeChannel_subsides _ pl ch))

theorem evacChange_subsides (s : Live) (pl : Player) : Subsides s (s.evacChange pl) := by
  unfold Live.evacChange
  extract_lets chs c t u
  have released : Subsides s u :=
    subsides_composes.trans (withPlayer_subsides s pl _)
      (subsides_composes.foldl _
        (fun v ch => ChainRule.either (subsides_composes.refl v) (withChannel_subsides v ch _)) _ t)
  exact subsides_composes.trans
    (subsides_composes.trans released (subsides_composes.foldl _ (fun v ch => joinPlay_subsides v pl ch) _ u))
    (checkPlayer_subsides _ pl)

theorem grantUpTo_subsides (fuel : Nat) (s : Live) : Subsides s (s.grantUpTo fuel) := by
  induction fuel generalizing s with
  | zero => exact subsides_composes.refl s
  | succ n ih =>
    unfold Live.grantUpTo
    refine ChainRule.either ?_ (subsides_composes.refl s)
    split
    · exact subsides_composes.trans (subsides_composes.trans (setSpeech_subsides s _) (takeUp_subsides _ _ _)) (ih _)
    · exact subsides_composes.refl s

theorem evacEnd_subsides (s : Live) : Subsides s s.evacEnd := setSpeech_subsides s _

theorem evacDemand_subsides (s : Live) (chs : List Nat) (context : Option Nat) : Subsides s (s.evacDemand chs context) := by
  unfold Live.evacDemand
  extract_lets st t u
  have taken : Subsides s t := setSpeech_subsides s _
  have changed : Subsides t u := by
    unfold u
    split
    · split
      · exact subsides_composes.trans (stopPlay_subsides t _ _) (evacEnd_subsides _)
      · exact evacEnd_subsides t
    · split
      · exact evacBegin_subsides t
      · exact evacChange_subsides t _
      · exact subsides_composes.refl t
  exact subsides_composes.trans (subsides_composes.trans taken changed) (grantUpTo_subsides _ u)

theorem handSpeech_subsides (s : Live) (before : Demand) : Subsides s (s.handSpeech before) :=
  ChainRule.either (subsides_composes.refl s) (evacDemand_subsides s _ _)

end Sys2Proof.Machine

/-! # The zones that latch at an adoption

An accepted adoption finds the chain at rest or in FAULT and no programme (R28). Where a zone then latches (R95), no drive
starts or stops, of the calls only fire calls enter, and the zones that do not latch stand. -/

namespace Sys2Proof.Machine

-- one thread: a proof that waits for the theorems before it would hold a thread of its own
set_option Elab.async false

/-! ## A chain that no fire demand sets moving (R61, R66) -/

/-- The chain is at rest or in FAULT. -/
def ChainStill (s : Live) : Prop := s.chain.state.atRest = true ∨ s.chain.state = .fault

theorem chainStill_of_chain {s t : Live} (still : ChainStill s) (h : t.chain = s.chain) : ChainStill t := by
  unfold ChainStill
  rw [h]
  exact still

theorem chainStill_of_quiet {s : Live} (quiet : s.chain.state.quiet = true) : ChainStill s := by
  unfold ChainStill
  revert quiet
  generalize s.chain.state = st
  cases st <;> simp [ChainState.quiet, ChainState.atRest]

theorem sillLeavesOpen_still {s : Live} (still : ChainStill s) (k : Nat) (byFire : Bool) :
    s.sillLeavesOpen k byFire = s := by
  rcases still with rest | fault
  · exact sillLeavesOpen_atRest rest k byFire
  · simp only [Live.sillLeavesOpen, fault]

theorem moveShutter_still {s : Live} (still : ChainStill s) (k : Nat) (r : ShutterRecord) (b : Bool) :
    s.moveShutter k r b = s.changeShutter k r := by
  unfold Live.moveShutter
  extract_lets leaves t
  have chain : t.chain = s.chain := (changeShutter_only s k r).parts .chain (by decide)
  rw [sillLeavesOpen_still (chainStill_of_chain still chain), ite_self]

/-- What a fire demand does to shutters while the chain stands. -/
structure ShuttersMove (s t : Live) : Prop where
  keeps : Keeps wearParts s t
  wear : ShutterWear s t
  subsides : Subsides s t

theorem shuttersMove_composes : Composes ShuttersMove where
  refl s := ⟨keeps_refl _ s, shutterWear_composes.refl s, subsides_composes.refl s⟩
  trans h g := ⟨keeps_trans h.keeps g.keeps, shutterWear_composes.trans h.wear g.wear,
    subsides_composes.trans h.subsides g.subsides⟩

theorem changeShutter_shuttersMove (s : Live) (k : Nat) (r : ShutterRecord) : ShuttersMove s (s.changeShutter k r) :=
  ⟨keeps_widen (changeShutter_only s k r), (changeShutter_only s k r).shutterWear, changeShutter_subsides s k r⟩

theorem judge_shuttersMove (s : Live) (k : Nat) : ShuttersMove s (s.judge k) :=
  ⟨judge_only s k, judge_shutterWear s k, judge_subsides s k⟩

theorem closeRequest_shuttersMove {s : Live} (still : ChainStill s) (k : Nat) (cause : CloseCause) :
    ShuttersMove s (s.closeRequest k cause) := by
  have arm : ShuttersMove s (s.arm k cause) := by
    unfold Live.arm
    rw [moveShutter_still still]
    exact shuttersMove_composes.trans (changeShutter_shuttersMove s k _)
      (ChainRule.either (judge_shuttersMove _ k) (shuttersMove_composes.refl _))
  have byState : ShuttersMove s (s.closeByState k cause) := by
    unfold Live.closeByState
    split
    case h_6 | h_7 | h_8 | h_9 =>
      exact ChainRule.either (changeShutter_shuttersMove s k _) (shuttersMove_composes.refl s)
    case h_10 => exact shuttersMove_composes.refl s
    all_goals exact arm
  exact ChainRule.either (shuttersMove_composes.refl s) byState

theorem contribution_shuttersMove {s : Live} (still : ChainStill s) (ks : List Nat) :
    ShuttersMove s (ks.foldl (fun s k => s.closeRequest k .fire) s) := by
  induction ks generalizing s with
  | nil => exact shuttersMove_composes.refl s
  | cons k more ih =>
    have first := closeRequest_shuttersMove still k .fire
    exact shuttersMove_composes.trans first (ih (chainStill_of_chain still (first.keeps.parts .chain (by decide))))

/-- What a fire demand makes of a chain that stands: at most HELD(FIRE). -/
structure StandingIssue (s t : Live) : Prop where
  still : ChainStill t
  wear : ShutterWear s t
  subsides : Subsides s t

theorem fireStop_still {s : Live} (still : ChainStill s) : StandingIssue s s.fireStop := by
  rcases still with rest | fault
  · rw [fireStop_atRest rest]
    exact ⟨.inl (by rw [enterChain_chain]; rfl), enterChain_shutterWear s _, enterChain_subsides s _⟩
  · rw [show s.fireStop = s by simp only [Live.fireStop, fault]]
    exact ⟨.inr fault, shutterWear_composes.refl s, subsides_composes.refl s⟩

theorem issue_still {s : Live} (still : ChainStill s) (z : Nat) : StandingIssue s (s.issue z) := by
  unfold Live.issue
  extract_lets t
  have moved : ShuttersMove s t := contribution_shuttersMove still _
  have standing : ChainStill t := chainStill_of_chain still (moved.keeps.parts .chain (by decide))
  have stopped := fireStop_still standing
  split
  · exact ⟨stopped.still, shutterWear_composes.trans moved.wear stopped.wear,
      subsides_composes.trans moved.subsides stopped.subsides⟩
  · exact ⟨standing, moved.wear, moved.subsides⟩

/-! ## One zone latches (R79, R95) -/

section
variable {s : Live} (idle : s.closing.state = .idle)
include idle

theorem latch_idle (z d : Nat) : s.latch z d =
    ((((s.enterAlarm z d).issueAlarm z).handCircuits s.demand.circuits).handSpeech s.demand) := by
  rw [latch_eq, handAlarm_idle (s := s.enterAlarm z d) idle]

theorem latch_closing (z d : Nat) : (s.latch z d).closing = s.closing := by
  rw [latch_idle idle]
  exact ((handSpeech_only _ _).parts .closing (by decide)).trans
    (((handCircuits_only _ _).parts .closing (by decide)).trans
      ((issueAlarm_only (s.enterAlarm z d) z).parts .closing (by decide)))

theorem latch_still (still : ChainStill s) (z d : Nat) : StandingIssue s (s.latch z d) := by
  have issued : StandingIssue s ((s.enterAlarm z d).issueAlarm z) :=
    have ⟨stands, wear, subsides⟩ := issue_still (s := { s.enterAlarm z d with
      gear := { s.gear with fireSet := (s.enterAlarm z d).demand.shutters } }) still z
    ⟨stands, wear.after rfl, subsides.after rfl rfl⟩
  rw [latch_idle idle]
  generalize (s.enterAlarm z d).issueAlarm z = t at issued ⊢
  have circuits := handCircuits_only t s.demand.circuits
  have speech := handSpeech_only (t.handCircuits s.demand.circuits) s.demand
  exact {
    still := chainStill_of_chain issued.still
      ((speech.parts .chain (by decide)).trans (circuits.parts .chain (by decide)))
    wear := (issued.wear.next circuits).next speech
    subsides := subsides_composes.trans (subsides_composes.trans issued.subsides (handCircuits_subsides t _))
      (handSpeech_subsides _ _) }

end

/-! ## The zones latch in turn -/

/-- What the zones that have latched so far make of the part. -/
structure LatchedSince (u t : Live) : Prop where
  keeps : Keeps zoneParts u t
  stands : Stands u t
  closing : t.closing = u.closing
  still : ChainStill t
  wear : ShutterWear u t
  subsides : Subsides u t
  masks : MasksStand u t
  unlatched : ∀ z, u.alarmedDetector z = none ∨ (u.zone z).state = .isolated → t.zone z = u.zone z
  quiet : (∀ z, t.inAlarm z = false) → t = u

theorem latchedSince_start {u : Live} (still : ChainStill u) : LatchedSince u u where
  keeps := keeps_refl _ u
  stands := stands_refl u
  closing := rfl
  still := still
  wear := shutterWear_composes.refl u
  subsides := subsides_composes.refl u
  masks := masksStand_composes.refl u
  unlatched _ _ := rfl
  quiet _ := rfl

theorem latch_inAlarm (s : Live) {z : Nat} (hz : z < 16) (d : Nat) : (s.latch z d).inAlarm z = true := by
  rw [Live.inAlarm, Live.zone, latch_zones, Bank.read_put_same _ _ _ _ hz]
  rfl

section
variable {u t : Live} (idle : u.closing.state = .idle) (h : LatchedSince u t)
include idle h

theorem LatchedSince.latch {z d : Nat} (hz : z < 16) (alarmed : t.alarmedDetector z = some d)
    (inService : (t.zone z).state ≠ .isolated) : LatchedSince u (t.latch z d) := by
  have ends : t.closing.state = .idle := by rw [h.closing]; exact idle
  have ⟨still, wear, subsides⟩ := latch_still ends h.still z d
  exact {
    keeps := keeps_trans h.keeps (latch_only t z d)
    stands := h.stands.trans (latch_stands t z d)
    closing := (latch_closing ends z d).trans h.closing
    still := still
    wear := shutterWear_composes.trans h.wear wear
    subsides := subsides_composes.trans h.subsides subsides
    masks := masksStand_composes.trans h.masks (latch_masksStand ends z d)
    unlatched := fun z' out => by
      have stood := h.unlatched z' out
      have other : z ≠ z' := by
        rintro rfl
        rcases out with none_alarmed | isolated
        · rw [h.stands.alarmedDetector (h.keeps.parts .store (by decide)), none_alarmed] at alarmed
          cases alarmed
        · exact inService (stood ▸ isolated)
      rw [Live.zone, latch_zones, Bank.read_put_other _ _ _ _ _ other]
      exact stood
    quiet := fun none_inAlarm => by
      have := none_inAlarm z
      rw [latch_inAlarm t hz d] at this
      cases this }

theorem LatchedSince.latchNext {z : Nat} (hz : z < 16) : LatchedSince u (t.latchNext z) := by
  unfold Live.latchNext
  split
  · next d alarmed =>
    split
    · exact h
    · next inService => exact h.latch idle hz alarmed inService
  · exact h

end

theorem latchAlarmed_since {u : Live} (still : ChainStill u) (idle : u.closing.state = .idle) :
    LatchedSince u u.latchAlarmed := by
  have among : ∀ zs : List Nat, (∀ z ∈ zs, z < 16) → ∀ t, LatchedSince u t →
      LatchedSince u (zs.foldl Live.latchNext t) := by
    intro zs
    induction zs with
    | nil => exact fun _ t h => h
    | cons z more ih =>
      intro below t h
      exact ih (fun z' hz' => below z' (List.mem_cons_of_mem z hz')) _ (h.latchNext idle (below z List.mem_cons_self))
  rw [latchAlarmed_eq]
  exact among _ (fun z hz => List.mem_range.mp hz) u (latchedSince_start still)

end Sys2Proof.Machine

/-! # O34: PLAN ADOPT and the end of the store write

The part that an accepted adoption leaves is stated first without the zones that latch at it, and then with them
(`latchAlarmed_since`). -/

namespace Sys2Proof.Machine

-- one thread: a proof that waits for the theorems before it would hold a thread of its own
set_option Elab.async false

/-! ## What an adoption empties -/

theorem emptyCalls_calls (s : Live) : s.emptyCalls.calls = [] := by
  unfold Live.emptyCalls
  extract_lets t
  exact (keeps_foldl _ (fun u p => writeIndicator_only u p false) _ t).parts .calls (by decide)

theorem Stands.numbered {s t : Live} (h : Stands s t) (k : ModuleKind) (i : Nat) :
    t.loop.numbered k i = s.loop.numbered k i := by
  unfold FieldLoop.numbered FieldLoop.countOf
  rw [h.modules]

theorem writeIndicator_off {s : Live} {p : Nat} (hp : p < 64) (numbered : s.loop.numbered .call p = true) :
    (s.writeIndicator p false).image.indicators.read p false = false := by
  unfold Live.writeIndicator
  split
  · unfold Live.blankPush
    split <;> exact Bank.read_put_same _ _ _ _ hp
  · next stays => simpa [numbered] using stays

/-- R138: the indicators that were on go off. -/
theorem emptyCalls_dark {s : Live} {p : Nat} (numbered : s.loop.numbered .call p = true) :
    s.emptyCalls.image.indicators.read p false = false := by
  have hp : p < 64 := FieldLoop.numbered_lt numbered
  unfold Live.emptyCalls
  extract_lets t
  exact foldl_establishes (P := fun t => t.image.indicators.read p false = false)
    (Q := fun t => t.loop.numbered .call p = true)
    (fun t q _ ht => ((writeIndicator_stands t q false).numbered .call p).trans ht)
    (fun t ht => writeIndicator_off hp ht) (fun t q _ ht => (writeIndicator_subsides t q).indicators p ht)
    List.nodup_range (List.mem_range.mpr hp) (s := t) numbered

/-- Every sounder silenced. -/
@[irreducible] def Live.silenced (s : Live) : Live := (List.range 16).foldl (fun t c => t.writeSounder c false) s

theorem resetCircuits_eq (s : Live) : s.resetCircuits = { s.silenced with circuits := startCircuits s.silenced.plan } := by
  unfold Live.resetCircuits Live.silenced
  rfl

theorem silenced_only (s : Live) : Keeps [.image] s s.silenced := by
  unfold Live.silenced
  exact keeps_foldl _ (fun t c => writeSounder_only t c false) _ s

theorem resetCircuits_circuits (s : Live) : s.resetCircuits.circuits = startCircuits s.plan := by
  rw [resetCircuits_eq, plan_of_store ((silenced_only s).parts .store (by decide))]

theorem resetCircuits_calls (s : Live) : s.resetCircuits.calls = s.calls := by
  rw [resetCircuits_eq]
  exact (silenced_only s).parts .calls (by decide)

theorem resetCircuits_subsides (s : Live) : Subsides s s.resetCircuits := by
  have silenced : Subsides s s.silenced := by
    unfold Live.silenced
    exact subsides_composes.foldl _ (fun t c => writeSounder_subsides t c false) _ s
  rw [resetCircuits_eq]
  exact subsides_composes.trans silenced (subsides_of_same rfl rfl)

/-! ## The position (R50) -/

/-- The count and the position stand. -/
def Unmoved (s t : Live) : Prop := t.monitor.count = s.monitor.count ∧ t.monitor.position = s.monitor.position

theorem unmoved_of_monitor {s t : Live} (h : t.monitor = s.monitor) : Unmoved s t := by simp [Unmoved, h]

theorem ShutterWear.unmoved {s t : Live} (h : ShutterWear s t) : Unmoved s t := by
  obtain ⟨w, monitor, _⟩ := h
  simp [Unmoved, monitor]

theorem unmoved_composes : Composes Unmoved where
  refl _ := ⟨rfl, rfl⟩
  trans := fun ⟨count, position⟩ ⟨count', position'⟩ => ⟨count'.trans count, position'.trans position⟩

theorem judgeWhere_shutterWear (s : Live) (which : Nat → Bool) : ShutterWear s (s.judgeWhere which) :=
  shutterWear_composes.foldl _ (fun t k => ChainRule.either (judge_shutterWear t k) (shutterWear_composes.refl t)) _ s

theorem rejudgeSill_unmoved (s : Live) (i : Nat) : Unmoved s (s.rejudgeSill i) :=
  ChainRule.either (unmoved_composes.refl s)
    (unmoved_composes.trans (t := { s with
        monitor := { s.monitor with answers := s.monitor.answers.put i (s.sillAnswer i) }
        gear := { s.gear with answerCopy := s.gear.answerCopy.put i (s.sillAnswer i) } })
      ⟨rfl, rfl⟩ (judgeWhere_shutterWear _ _).unmoved)

theorem rejudge_unmoved (s : Live) : Unmoved s s.rejudge := unmoved_composes.foldl _ rejudgeSill_unmoved _ s

/-- Where the loop keeps its length, its cars and its up run the position stands, and otherwise it is lost at count 0. -/
def PositionTaken (old new : Plan) (s t : Live) : Prop :=
  let g := old.geometry
  let h := new.geometry
  if h.loopLength = g.loopLength ∧ h.cars = g.cars ∧ h.upRun = g.upRun then
    t.monitor.count = s.monitor.count ∧ t.monitor.position = s.monitor.position
  else t.monitor.count = 0 ∧ t.monitor.position = .unknown

theorem adoptPosition_taken (s : Live) (old : Plan) : PositionTaken old s.plan s (s.adoptPosition old) := by
  unfold PositionTaken Live.adoptPosition
  dsimp only
  split
  · exact ⟨rfl, rfl⟩
  · exact (unmoved_of_monitor ((postIf_only _ _ _).parts .monitor (by decide)) :)

theorem PositionTaken.next {old new : Plan} {s t u : Live} (h : PositionTaken old new s t) (g : Unmoved t u) :
    PositionTaken old new s u := by
  unfold PositionTaken at h ⊢
  dsimp only at h ⊢
  split at h
  · next same => rw [if_pos same]; exact unmoved_composes.trans h g
  · next changed => rw [if_neg changed]; exact ⟨g.1.trans h.1, g.2.trans h.2⟩

theorem PositionTaken.after {old new : Plan} {s t u : Live} (h : PositionTaken old new t u) (g : Unmoved s t) :
    PositionTaken old new s u := by
  unfold PositionTaken at h ⊢
  dsimp only at h ⊢
  rw [g.1, g.2] at h
  exact h

/-! ## The adoption before its zones latch (R29, R50) -/

/-- The part with the pending copy made active and the store write begun. -/
def Live.takePlan (s : Live) (a : List Nat) : Live :=
  { s with store := { s.store with active := s.store.pending, fullClear := a, storeWriting := true } }

/-- The plan taken, the calls emptied and the circuits reset. -/
@[irreducible] def Live.emptied (s : Live) (a : List Nat) : Live := (s.takePlan a).emptyCalls.resetCircuits

/-- The position taken as R50 says and every sill judged afresh. -/
@[irreducible] def Live.judgedAfresh (s : Live) (a : List Nat) : Live := ((s.emptied a).adoptPosition s.plan).rejudge

/-- The adoption up to the zones that latch at it. -/
def Live.adoptBare (s : Live) (a : List Nat) : Live :=
  ((s.judgedAfresh a).withClosing { (s.judgedAfresh a).closing with marks := Bank.replicate 24 none }).deriveZones true

theorem adopt_eq (s : Live) (a : List Nat) : s.adopt a = (s.adoptBare a).latchAlarmed := by
  unfold Live.adopt Live.adoptBare Live.judgedAfresh Live.emptied Live.takePlan
  rfl

section
variable (s : Live) (a : List Nat)

theorem emptied_only : Keeps callParts (s.takePlan a) (s.emptied a) := by
  unfold Live.emptied
  exact (emptyCalls_only _).next (resetCircuits_only _)

theorem judgedAfresh_only : Keeps wearParts (s.emptied a) (s.judgedAfresh a) := by
  unfold Live.judgedAfresh
  exact (adoptPosition_only _ _).next (rejudge_only _)

theorem adoptBare_eq : s.adoptBare a = { s.judgedAfresh a with
    closing := { (s.judgedAfresh a).closing with marks := Bank.replicate 24 none }
    zones := Bank.build 16 ((s.judgedAfresh a).derivedZone true) } := by
  rfl

theorem judgedAfresh_store : (s.judgedAfresh a).store = (s.takePlan a).store :=
  ((judgedAfresh_only s a).parts .store (by decide)).trans ((emptied_only s a).parts .store (by decide))

theorem adoptBare_store : (s.adoptBare a).store = (s.takePlan a).store := by
  rw [adoptBare_eq]
  exact judgedAfresh_store s a

theorem adoptBare_closing : (s.adoptBare a).closing = { s.closing with marks := Bank.replicate 24 none } := by
  have closing : (s.judgedAfresh a).closing = (s.takePlan a).closing :=
    ((judgedAfresh_only s a).parts .closing (by decide)).trans ((emptied_only s a).parts .closing (by decide))
  rw [adoptBare_eq, closing]
  rfl

theorem adoptBare_chain : (s.adoptBare a).chain = s.chain := by
  rw [adoptBare_eq]
  exact ((judgedAfresh_only s a).parts .chain (by decide)).trans ((emptied_only s a).parts .chain (by decide))

theorem emptied_calls : (s.emptied a).calls = [] := by
  unfold Live.emptied
  exact (resetCircuits_calls _).trans (emptyCalls_calls _)

theorem emptied_circuits : (s.emptied a).circuits = startCircuits s.store.pending := by
  unfold Live.emptied
  exact (resetCircuits_circuits _).trans
    (congrArg startCircuits (plan_of_store ((emptyCalls_only (s.takePlan a)).parts .store (by decide))))

theorem adoptBare_calls : (s.adoptBare a).calls = [] := by
  rw [adoptBare_eq]
  exact ((judgedAfresh_only s a).parts .calls (by decide)).trans (emptied_calls s a)

theorem adoptBare_circuits : (s.adoptBare a).circuits = startCircuits s.store.pending := by
  rw [adoptBare_eq]
  exact ((judgedAfresh_only s a).parts .circuits (by decide)).trans (emptied_circuits s a)

theorem judgedAfresh_stands : Stands s (s.judgedAfresh a) := by
  have taken : Stands s (s.takePlan a) := stands_of_loop rfl rfl
  have emptied : Stands s (s.emptied a) := by
    unfold Live.emptied
    exact (taken.trans (emptyCalls_stands _)).trans (resetCircuits_stands _)
  unfold Live.judgedAfresh
  exact (emptied.trans (adoptPosition_stands _ _)).trans (stands_chainRule.rejudge _)

theorem adoptBare_stands : Stands s (s.adoptBare a) :=
  ((judgedAfresh_stands s a).trans (withClosing_stands _ _)).trans (deriveZones_stands _ true)

theorem emptied_plan : (s.emptied a).plan = s.store.pending :=
  plan_of_store ((emptied_only s a).parts .store (by decide))

/-- R50: the position, by what the new plan changes. -/
theorem adoptBare_position : PositionTaken s.store.active s.store.pending s (s.adoptBare a) := by
  have emptied : Unmoved s (s.emptied a) :=
    unmoved_of_monitor ((emptied_only s a).parts .monitor (by decide))
  have judged : PositionTaken s.store.active s.store.pending (s.emptied a) (s.judgedAfresh a) := by
    unfold Live.judgedAfresh
    rw [← emptied_plan s a]
    exact (adoptPosition_taken _ s.plan).next (rejudge_unmoved _)
  rw [adoptBare_eq]
  exact (judged.after emptied).next ⟨rfl, rfl⟩

theorem adoptPosition_subsides (old : Plan) : Subsides s (s.adoptPosition old) :=
  ChainRule.either (subsides_composes.refl s) ((postIf_only _ _ _).subsides.after rfl rfl)

/-- R138: every indicator is off. -/
theorem adoptBare_dark {p : Nat} (numbered : s.loop.numbered .call p = true) :
    (s.adoptBare a).image.indicators.read p false = false := by
  have emptied : (s.emptied a).image.indicators.read p false = false := by
    unfold Live.emptied
    exact (resetCircuits_subsides _).indicators p (emptyCalls_dark (s := s.takePlan a) numbered)
  have judged : Subsides (s.emptied a) (s.judgedAfresh a) := by
    unfold Live.judgedAfresh
    exact subsides_composes.trans (adoptPosition_subsides _ _) (rejudge_subsides _)
  rw [adoptBare_eq]
  exact judged.indicators p emptied

/-- R29: a zone's record as its new list gives it, unless it is isolated and stays present. -/
theorem adoptBare_zone {z : Nat} (hz : z < 16) : (s.adoptBare a).zone z =
    if (s.store.pending.zone z).present = true ∧ (s.zone z).state = .isolated then
      ⟨(s.store.pending.zone z).present, .isolated, false, none, none⟩
    else ⟨(s.store.pending.zone z).present, (s.adoptBare a).lineCondition z, false, none, none⟩ := by
  have plan : (s.judgedAfresh a).plan = s.store.pending := plan_of_store (judgedAfresh_store s a)
  have zones : (s.judgedAfresh a).zones = s.zones :=
    ((judgedAfresh_only s a).parts .zones (by decide)).trans ((emptied_only s a).parts .zones (by decide))
  have zone : (s.judgedAfresh a).zone z = s.zone z := by simp only [Live.zone, zones]
  have line : (s.adoptBare a).lineCondition z = (s.judgedAfresh a).lineCondition z :=
    (deriveZones_stands _ true).lineCondition rfl z
  have read : (s.adoptBare a).zone z = (s.judgedAfresh a).derivedZone true z := by
    rw [adoptBare_eq]
    exact Bank.read_build _ _ _ _ hz
  simp only [read, line, Live.derivedZone, plan, zone, Bool.true_and, Bool.and_eq_true, beq_iff_eq]

end

/-! ## The refusals (R25 to R28) -/

theorem planAdopt_planCheck {t : Live} {f : PlanTable × Nat} (failed : t.store.pending.firstFailure t.loop = some f) :
    planAdopt t = answer t (.planCheck f.1 f.2) := by
  simp only [planAdopt, failed]

section
variable {t : Live} (passed : t.store.pending.firstFailure t.loop = none)
include passed

theorem planAdopt_noParkResidue (empty : t.store.pending.residues = []) : planAdopt t = answer t .noParkResidue := by
  simp [planAdopt, passed, empty]

theorem planAdopt_notQuiescent (some_ : t.store.pending.residues ≠ []) {q : Condition × Nat}
    (disquiet : t.disquiet = some q) : planAdopt t = answer t (.notQuiescent q.1 q.2) := by
  simp [planAdopt, passed, some_, disquiet]

theorem planAdopt_adopts (some_ : t.store.pending.residues ≠ []) (quiet : t.disquiet = none) :
    planAdopt t = (t.adopt t.store.pending.residues, none) := by
  simp [planAdopt, passed, some_, quiet]

end

/-- R28: a quiescent part has no programme and a chain that stands. -/
theorem disquiet_none {s : Live} (quiet : s.disquiet = none) : s.closing.state = .idle ∧ ChainStill s := by
  unfold Live.disquiet at quiet
  split at quiet
  · cases quiet
  · split at quiet
    · cases quiet
    · next programme =>
      split at quiet
      · cases quiet
      · split at quiet
        · cases quiet
        · next chain => exact ⟨by simpa using programme, chainStill_of_quiet (by simpa using chain)⟩

section
variable {s : State} (taken : s.canTake .c .planAdopt)
include taken

theorem execPlanAdopt_refuses {r : Result}
    (rule : planAdopt ((s.loadClosed .c).live.takeFrame .c) = answer ((s.loadClosed .c).live.takeFrame .c) r) :
    exec (.planAdopt .c (.fits ())) s = .next ((s.loadClosed .c).served .c .planAdopt r .none) :=
  execPlanAdopt_refused (breakingRequest_answered (l := (s.loadClosed .c).live) taken nofun rule) taken.1 rfl

/-- An adoption that begins its store write. -/
theorem execPlanAdopt_adopts {l : Live} (rule : planAdopt ((s.loadClosed .c).live.takeFrame .c) = (l, none))
    (writing : l.store.storeWriting = true) (was : s.live.store.storeWriting = false) :
    exec (.planAdopt .c (.fits ())) s = .next { s with live := l, nv := s.nv.beginWrite l } := by
  rw [← breakLoad_always] at rule
  have ran := onLive_request_waits (h := onBody (.fits ()) fun _ => planAdopt) taken nofun rfl rule
  rw [onLive_of_on taken.1] at ran
  obtain rfl : breakingRequest .c .planAdopt (.fits ()) (fun _ => planAdopt) s.live = l :=
    congrArg State.live (Host.Outcome.next.inj ran)
  have began : ∀ l : Live, l.store.storeWriting = true → (l.store.storeWriting && !s.live.store.storeWriting) = true :=
    fun l writing => by rw [writing, was]; rfl
  change whenOn s (.next _) = _
  rw [whenOn, if_pos taken.1, if_pos (began _ writing)]

end

/-- R30: the contents being written, with a checksum that does not match yet. -/
theorem beginWrite_copy (n : NonVolatile) (l : Live) : (n.beginWrite l).plan = l.store.active ∧
    (n.beginWrite l).fullClear = l.store.fullClear ∧ (n.beginWrite l).valid = false := writeWear_copyStands _ _

/-! ## What an accepted adoption leaves (R29, R50, R95) -/

theorem any_or_any {α : Type} (l : List α) (p q : α → Bool) : (l.any fun x => p x || q x) = (l.any p || l.any q) := by
  rw [Bool.eq_iff_iff]
  simp only [List.any_eq_true, Bool.or_eq_true, and_or_left, exists_or]

section
variable {t : Live} (quiet : t.disquiet = none) (a : List Nat)
include quiet

theorem adopt_since : LatchedSince (t.adoptBare a) (t.adopt a) := by
  obtain ⟨idle, still⟩ := disquiet_none quiet
  rw [adopt_eq]
  exact latchAlarmed_since (chainStill_of_chain still (adoptBare_chain t a)) (by rw [adoptBare_closing]; exact idle)

theorem adopt_mark (i : Nat) : (t.adopt a).closing.mark i = none := by
  rw [(adopt_since quiet a).closing, adoptBare_closing]
  exact Bank.read_replicate 24 none i

theorem adopt_fireCalls : ∀ r ∈ (t.adopt a).calls, ∃ c, r.key = .fire c := by
  intro r hr
  rcases (adopt_since quiet a).subsides.calls r hr with fire | ⟨x, hx, _⟩
  · exact fire
  · rw [adoptBare_calls] at hx
    cases hx

theorem adopt_noCalls (none_latched : ∀ z, (t.adopt a).inAlarm z = false) : (t.adopt a).calls = [] := by
  rw [(adopt_since quiet a).quiet none_latched, adoptBare_calls]

theorem adopt_dark {p : Nat} (numbered : t.loop.numbered .call p = true) :
    (t.adopt a).image.indicators.read p false = false :=
  (adopt_since quiet a).subsides.indicators p (adoptBare_dark t a numbered)

theorem adopt_circuit {c : Nat} (hc : c < 16) : ((t.adopt a).circuit c).pendingMask = none ∧ ((t.adopt a).circuit c).mask =
      (if (t.store.pending.circuit c).present then (t.store.pending.circuit c).resetMask else 0) ∧
    ((∀ z, (t.adopt a).inAlarm z = false) → ((t.adopt a).circuit c).ring = none) := by
  have bare : ∀ c', (t.adoptBare a).circuit c' = (startCircuits t.store.pending).read c' ⟨none, 0, none⟩ := fun c' => by
    rw [Live.circuit, adoptBare_circuits]
  obtain ⟨pending, mask⟩ := (adopt_since quiet a).masks
    (fun c' => by rw [bare]; exact startCircuits_pending t.store.pending c') c
  rw [bare, startCircuits_read _ hc] at mask
  refine ⟨pending, mask, fun none_latched => ?_⟩
  rw [(adopt_since quiet a).quiet none_latched, bare, startCircuits_read _ hc]

/-- A zone that is derived afresh and lists no detector in ALARM. -/
theorem adopt_zone {z : Nat} (hz : z < 16)
    (fresh : (t.zone z).state ≠ .isolated ∨ (t.store.pending.zone z).present = false)
    (noAlarm : ((t.store.pending.detectorsOf z).any fun d => t.detector d == .alarm) = false) :
    (t.adopt a).zone z = ⟨(t.store.pending.zone z).present,
      if ((t.store.pending.detectorsOf z).any fun d => t.detector d == .broken) ||
        (t.store.pending.detectorsOf z).any fun d => t.detector d == .short then .fault else .normal,
      false, none, none⟩ := by
  have plan : (t.adoptBare a).plan = t.store.pending := plan_of_store (adoptBare_store t a)
  have stands := adoptBare_stands t a
  have unalarmed : (t.adoptBare a).alarmedDetector z = none := by
    simp only [Live.alarmedDetector, plan, stands.detector, List.find?_eq_none, List.mem_range]
    simp only [List.any_eq_false] at noAlarm
    intro d _
    have := noAlarm d
    simp_all
  have line : (t.adoptBare a).lineCondition z =
      if ((t.store.pending.detectorsOf z).any fun d => t.detector d == .broken) ||
        (t.store.pending.detectorsOf z).any fun d => t.detector d == .short then .fault else .normal := by
    simp only [Live.lineCondition, plan, stands.detector, any_or_any]
  have derived : ¬ ((t.store.pending.zone z).present = true ∧ (t.zone z).state = .isolated) := by
    rintro ⟨present, isolated⟩
    rcases fresh with inService | absent
    · exact inService isolated
    · rw [present] at absent
      cases absent
  rw [(adopt_since quiet a).unlatched z (.inl unalarmed), adoptBare_zone t a hz, if_neg derived, line]

theorem adopt_isolated {z : Nat} (isolated : (t.zone z).state = .isolated)
    (present : (t.store.pending.zone z).present = true) : ((t.adopt a).zone z).state = .isolated := by
  have hz : z < 16 := by
    by_contra beyond
    rw [Live.zone, Bank.read_beyond _ _ _ (Nat.le_of_not_lt beyond)] at isolated
    cases isolated
  have bare : ((t.adoptBare a).zone z).state = .isolated := by
    rw [adoptBare_zone t a hz, if_pos ⟨present, isolated⟩]
  rw [(adopt_since quiet a).unlatched z (.inr bare)]
  exact bare

theorem adopt_position : PositionTaken t.store.active t.store.pending t (t.adopt a) :=
  (adoptBare_position t a).next (adopt_since quiet a).wear.unmoved

end

/-- The end of the store write (R30). -/
theorem execStoreWriteDone_answers {s : State} (m : Bool) (on : s.power = .on) (writing : s.live.store.storeWriting = true) :
    exec (.storeWriteDone m) s = .next { s with nv := { s.nv with valid := m }, live := storeDoneStep m s.live } := by
  change whenOn s _ = _
  rw [whenOn, if_pos on, if_pos writing]

theorem storeDoneStep_only (m : Bool) (s : Live) : onlyParts [.store, .portC, .portF] s (storeDoneStep m s) := by
  have written : onlyParts [.store, .portC, .portF] s
      { s with store := { s.store with storeWriting := false, storeGood := m } } := by
    intro q hq
    cases q <;> simp_all [samePart]
  exact onlyParts_trans (onlyParts_trans written (onlyParts_widen (withPort_only _ .c _)))
    (onlyParts_widen (post_only _ _).parts)

theorem storeDoneStep_reply (m : Bool) (s : Live) :
    ((storeDoneStep m s).port .c).reply = some ⟨0x93, .done, .stored m⟩ := ((post_only _ _).wire .c).2.2.2

theorem storeDoneStep_offered (m : Bool) (s : Live) : (storeDoneStep m s).offered (.planAdopted m) := post_offered _ _

/-- Settles O34. -/
theorem adoptionAndStoreWrite : Obligations.AdoptionAndStoreWrite := by
  intro s a refused
  refine ⟨fun taken => ⟨fun f failed => execPlanAdopt_refuses taken (planAdopt_planCheck failed),
      fun passed empty => execPlanAdopt_refuses taken
        (planAdopt_noParkResidue (t := (s.loadClosed .c).live.takeFrame .c) passed empty),
      fun q passed some_ disquiet => execPlanAdopt_refuses taken
        (planAdopt_notQuiescent (t := (s.loadClosed .c).live.takeFrame .c) passed some_ disquiet),
      fun passed some_ quiet free => ?accepted⟩,
    fun m on writing => ⟨_, execStoreWriteDone_answers m on writing, rfl, rfl, storeDoneStep_reply m s.live,
      storeDoneStep_offered m s.live, storeDoneStep_only m s.live, rfl⟩⟩
  case accepted =>
    let t := (s.loadClosed .c).live.takeFrame .c
    have quiet : t.disquiet = none := quiet
    have rule : planAdopt t = (t.adopt a, none) := planAdopt_adopts (t := t) passed some_ quiet
    have after := adopt_after t a
    have store : (t.adopt a).store = { s.live.store with
        active := s.live.store.pending, fullClear := a, cursor := .closed, storeWriting := true } :=
      after.parts .store (by decide)
    have ran := execPlanAdopt_adopts taken rule (by rw [store]) free
    obtain ⟨plan, set, valid⟩ := beginWrite_copy s.nv (t.adopt a)
    rw [store] at plan set
    have wire : ((t.adopt a).port .c).wire = (.hunting, 0, true, none) := by
      obtain ⟨receiver, gap, pending, reply⟩ := after.wire .c
      simp only [PortRecord.wire, receiver, gap, pending, reply]
      rfl
    have mark := adopt_mark quiet a
    have fireCalls := adopt_fireCalls quiet a
    have noCalls := adopt_noCalls quiet a
    have dark := fun p => adopt_dark quiet a (p := p)
    have circuits := fun c (hc : c < 16) => adopt_circuit quiet a hc
    have zones := fun z (hz : z < 16) => adopt_zone quiet a hz
    have isolated := fun z => adopt_isolated quiet a (z := z)
    have position : PositionTaken s.live.store.active s.live.store.pending s.live (t.adopt a) := adopt_position quiet a
    generalize t.adopt a = l at *
    exact ⟨_, ran, store, plan, set, valid, wire, mark, fireCalls, noCalls, dark, circuits, zones,
      isolated, position⟩

end Sys2Proof.Machine

/-! # Fire calls that enter an empty list

After a restart the list is empty and every circuit IDLE; the fire calls of the standing demand then enter in turn, and each
circuit begins its call's ring at once (R95, R131, R141). -/

namespace Sys2Proof.Machine

-- one thread: a proof that waits for the theorems before it would hold a thread of its own
set_option Elab.async false

/-- The fire call of circuit `c`, as it stands in the given state. -/
def fireCall (st : CallState) (second c : Nat) : CallRecord := ⟨.fire c, c, 7, .fire, false, st, 0, 0, none, none, second⟩

/-- The ring of a fire call at its first stroke (R142). -/
def fireRing (c : Nat) : Ring := ⟨.fire c, .fire, .fire, .on, 0⟩

/-- A record goes to the end of a list in which none has a lower level (R121). -/
theorem insertCall_last {r : CallRecord} {l : List CallRecord} (h : ∀ x ∈ l, r.level ≤ x.level) :
    insertCall r l = l ++ [r] := by
  induction l with
  | nil => rfl
  | cons x rest ih =>
    obtain ⟨first, more⟩ := List.forall_mem_cons.mp h
    rw [insertCall, if_pos first, ih more, List.cons_append]

theorem hasKey_fireCall (st : CallState) (second c d : Nat) :
    hasKey (.fire c) (fireCall st second d) = decide (d = c) := by
  simp [hasKey, fireCall]

/-- What the fire calls of the circuits `cs` make of `u`, each ringing its circuit from the first stroke. -/
structure Called (u : Live) (cs : List Nat) (t : Live) : Prop where
  keeps : Keeps callParts u t
  calls : t.calls = cs.map (fireCall .ringing u.seconds)
  circuit : ∀ c, c < 16 → t.circuit c = if c ∈ cs then { u.circuit c with ring := some (fireRing c) } else u.circuit c

theorem called_nil {u : Live} (empty : u.calls = []) : Called u [] u where
  keeps := keeps_refl _ u
  calls := empty
  circuit _ _ := rfl

theorem Called.noCall {u t : Live} {cs : List Nat} {c : Nat} (h : Called u cs t) (fresh : c ∉ cs) :
    t.call (.fire c) = none := by
  simp only [Live.call, h.calls, List.find?_map, Option.map_eq_none_iff, List.find?_eq_none, Function.comp,
    hasKey_fireCall, decide_eq_true_eq]
  rintro d hd rfl
  exact fresh hd

/-- A record at the end of the list, with CALL ENTERED posted. -/
def Live.enterLast (s : Live) (r : CallRecord) : Live :=
  let t := { s with calls := s.calls ++ [r] }
  t.post (.callEntered r.key r.number r.circuit r.level (t.placeOf r.key) false)

section
variable {u t : Live} {cs : List Nat} {c : Nat} (h : Called u cs t) (fresh : c ∉ cs)
include h fresh

theorem Called.enter_eq (room : cs.length < 32) :
    t.fireCallEnter c = (t.enterLast (fireCall .waiting t.seconds c)).tellCircuit (fireCall .waiting t.seconds c) := by
  have length : t.calls.length < Config.callListSize := by rw [h.calls, List.length_map]; exact room
  have last : insertCall (fireCall .waiting t.seconds c) t.calls = t.calls ++ [fireCall .waiting t.seconds c] := by
    refine insertCall_last fun x hx => ?_
    rw [h.calls] at hx
    obtain ⟨d, _, rfl⟩ := List.mem_map.mp hx
    exact le_refl 7
  have made : t.makeRoom (fireCall .waiting t.seconds c) = (t, true) := if_pos length
  have joined : t.fireCallEnter c = (t.join (fireCall .waiting t.seconds c)).1 := by
    unfold Live.fireCallEnter
    rw [h.noCall fresh]
    rfl
  rw [joined, Live.join, made]
  dsimp only
  rw [last, if_pos rfl]
  rfl

/-- The one eligible record of the circuit is its fire call, the last of the list. -/
theorem Called.firstEligible : (t.enterLast (fireCall .waiting t.seconds c)).firstEligible c =
    some (fireCall .waiting t.seconds c) := by
  have others : t.calls.find? ((t.enterLast (fireCall .waiting t.seconds c)).eligible c) = none := by
    rw [h.calls, List.find?_eq_none]
    intro x hx
    obtain ⟨d, hd, rfl⟩ := List.mem_map.mp hx
    have other : d ≠ c := fun same => fresh (same ▸ hd)
    simp [Live.eligible, fireCall, other]
  refine (List.find?_append ..).trans ?_
  rw [others, Option.none_or]
  simp [Live.eligible, fireCall, Config.fireLevel]

variable (idle : ∀ c, (u.circuit c).ring = none) (hc : c < 16)
include idle hc

theorem Called.tell_eq : (t.enterLast (fireCall .waiting t.seconds c)).tellCircuit (fireCall .waiting t.seconds c) =
    (t.enterLast (fireCall .waiting t.seconds c)).beginRing c (fireCall .waiting t.seconds c) := by
  have ring : ((t.enterLast (fireCall .waiting t.seconds c)).circuit c).ring = none := by
    refine (congrArg CircuitRecord.ring (h.circuit c hc)).trans ?_
    rw [if_neg fresh, idle]
  have chosen : (t.enterLast (fireCall .waiting t.seconds c)).choose c =
      (t.enterLast (fireCall .waiting t.seconds c)).beginRing c (fireCall .waiting t.seconds c) := by
    rw [Live.choose, ring, h.firstEligible fresh]
    rfl
  unfold Live.tellCircuit
  rw [show (fireCall .waiting t.seconds c).circuit = c from rfl, ring]
  exact chosen

end

theorem beginRing_calls (s : Live) (c : Nat) (r : CallRecord) : (s.beginRing c r).calls =
    s.calls.map fun x => if hasKey r.key x then { x with state := .ringing } else x := by
  unfold Live.beginRing
  extract_lets old t
  have sounder : (t.writeSounder c true).calls = t.calls := (writeSounder_only t c true).parts .calls (by decide)
  unfold Live.updateCall
  rw [sounder]
  rfl

theorem beginRing_circuits (s : Live) (c : Nat) (r : CallRecord) : (s.beginRing c r).circuits =
    s.circuits.put c { s.circuit c with ring := some ⟨r.key, r.pattern, firstStroke r.pattern, .on, 0⟩ } :=
  (writeSounder_only _ c true).parts .circuits (by decide)

/-- One more circuit's fire call enters and is rung. -/
theorem Called.next {u t : Live} {cs : List Nat} {c : Nat} (h : Called u cs t) (idle : ∀ c, (u.circuit c).ring = none)
    (fresh : c ∉ cs) (hc : c < 16) (room : cs.length < 32) : Called u (cs ++ [c]) (t.fireCallEnter c) := by
  have seconds : t.seconds = u.seconds := (h.keeps.parts .clock (by decide)).1
  refine ⟨keeps_trans h.keeps (fireCallEnter_only t c), ?calls, fun d hd => ?circuit⟩
  all_goals rw [h.enter_eq fresh room, h.tell_eq fresh idle hc]
  case calls =>
    have kept : ∀ d ∈ cs, (if hasKey (.fire c) (fireCall .ringing u.seconds d) then
        { fireCall .ringing u.seconds d with state := .ringing } else fireCall .ringing u.seconds d) =
        fireCall .ringing u.seconds d := fun d _ => ite_self (fireCall .ringing u.seconds d)
    have own : hasKey (.fire c) (fireCall .waiting u.seconds c) = true := by simp [hasKey_fireCall]
    rw [beginRing_calls, List.map_append, List.map_cons, List.map_nil]
    simp only [Live.enterLast, Live.post_calls, h.calls, seconds, List.map_append, List.map_map, List.map_cons,
      List.map_nil]
    exact congrArg₂ (· ++ ·) (List.map_congr_left kept) (congrArg (fun x => [x]) (if_pos own))
  case circuit =>
    rw [Live.circuit, beginRing_circuits]
    by_cases same : d = c
    · subst same
      have before : (t.enterLast (fireCall .waiting t.seconds d)).circuit d = u.circuit d := by
        refine (h.circuit d hd).trans ?_
        rw [if_neg fresh]
      rw [Bank.read_put_same _ _ _ _ hd, before, if_pos (by simp)]
      rfl
    · rw [Bank.read_put_other _ _ _ _ _ (Ne.symm same)]
      refine (h.circuit d hd).trans ?_
      simp [same]

theorem called_all {u : Live} {cs : List Nat} (empty : u.calls = []) (idle : ∀ c, (u.circuit c).ring = none)
    (nodup : cs.Nodup) (circuits : ∀ c ∈ cs, c < 16) (room : cs.length ≤ 32) : Called u cs (cs.foldl Live.fireCallEnter u) := by
  induction cs using List.reverseRecOn with
  | nil => exact called_nil empty
  | append_singleton before c ih =>
    obtain ⟨distinct, _, fresh⟩ := List.nodup_append.mp nodup
    rw [List.length_append, List.length_singleton] at room
    rw [List.foldl_append]
    exact (ih distinct (fun d hd => circuits d (List.mem_append_left _ hd)) (by omega)).next idle
      (fun again => fresh c again c List.mem_cons_self rfl) (circuits c (by simp)) (by omega)

/-- The call of a circuit after the fire calls have entered. -/
theorem Called.call {u t : Live} {cs : List Nat} (h : Called u cs t) (c : Nat) :
    t.call (.fire c) = if c ∈ cs then some (fireCall .ringing u.seconds c) else none := by
  split
  · next called =>
    have found : cs.find? (fun d => decide (d = c)) = some c := by
      cases first : cs.find? (fun d => decide (d = c)) with
      | none => simpa [called] using List.find?_eq_none.mp first c
      | some d => simpa using List.find?_some first
    simp only [Live.call, h.calls, List.find?_map, Function.comp_def, hasKey_fireCall, found, Option.map_some]
  · next absent => exact h.noCall absent

end Sys2Proof.Machine

/-! # The players and the channels at a restart

A restart stops both players, which frees the channels they held, and empties the queue; the evacuation entry of the standing
demand is then activated and takes player A (R160, R162, R164, R170). -/

namespace Sys2Proof.Machine

-- one thread: a proof that waits for the theorems before it would hold a thread of its own
set_option Elab.async false

/-! ## One channel written -/

/-- All of the speech record but its channels stands. -/
structure PlayersStand (s t : Live) : Prop where
  player : ∀ pl, t.player pl = s.player pl
  evac : t.speech.evac = s.speech.evac
  queue : t.speech.queue = s.speech.queue

theorem playersStand_composes : Composes PlayersStand where
  refl _ := ⟨fun _ => rfl, rfl, rfl⟩
  trans h g := ⟨fun pl => (g.player pl).trans (h.player pl), g.evac.trans h.evac, g.queue.trans h.queue⟩

theorem withChannel_speech (s : Live) (ch : Nat) (c : Channel) :
    (s.withChannel ch c).speech = { s.speech with channels := s.speech.channels.put ch c } :=
  (writeChannel_only _ ch _ _ _).parts .speech (by decide)

theorem withChannel_playersStand (s : Live) (ch : Nat) (c : Channel) : PlayersStand s (s.withChannel ch c) where
  player pl := by cases pl <;> simp only [Live.player, withChannel_speech]
  evac := by rw [withChannel_speech]
  queue := by rw [withChannel_speech]

theorem channel_withChannel_same (s : Live) {ch : Nat} (h : ch < 8) (c : Channel) : (s.withChannel ch c).channel ch = c := by
  rw [Live.channel, withChannel_speech]
  exact Bank.read_put_same _ _ _ _ h

theorem channel_withChannel_other (s : Live) {ch q : Nat} (h : ch ≠ q) (c : Channel) :
    (s.withChannel ch c).channel q = s.channel q := by
  rw [Live.channel, withChannel_speech]
  exact Bank.read_put_other _ _ _ _ _ h

/-- Channels written in turn leave the others. -/
theorem channel_foldl_other {g : Live → Nat → Live} {q : Nat} (other : ∀ s p, p ≠ q → (g s p).channel q = s.channel q)
    {l : List Nat} (absent : q ∉ l) (s : Live) : (l.foldl g s).channel q = s.channel q := by
  induction l generalizing s with
  | nil => rfl
  | cons p rest ih =>
    rw [List.mem_cons, not_or] at absent
    exact (ih absent.2 _).trans (other s p (Ne.symm absent.1))

/-- Channels written in turn, each by a rule `f` that what stands while they are written makes sure of. -/
theorem channel_foldl {I : Live → Prop} {g : Live → Nat → Live} {f : Channel → Channel} {q : Nat}
    (own : ∀ s, I s → (g s q).channel q = f (s.channel q)) (other : ∀ s p, p ≠ q → (g s p).channel q = s.channel q)
    (stands : ∀ s p, I s → I (g s p)) {l : List Nat} (nodup : l.Nodup) {s : Live} (start : I s) :
    (l.foldl g s).channel q = if q ∈ l then f (s.channel q) else s.channel q := by
  induction l generalizing s with
  | nil => rfl
  | cons p rest ih =>
    obtain ⟨fresh, nodup⟩ := List.nodup_cons.mp nodup
    rw [List.foldl_cons]
    by_cases first : p = q
    · subst first
      rw [channel_foldl_other other fresh, own s start, if_pos List.mem_cons_self]
    · have mem : q ∈ p :: rest ↔ q ∈ rest := by simp [Ne.symm first]
      rw [ih nodup (stands s p start), other s p first]
      simp only [mem]

/-! ## A player freed (R166, R167) -/

/-- A channel that its holder gives up. -/
def Channel.givenUp (c : Channel) : Channel := ⟨c.on, none, none, none, none, some 0⟩

theorem mem_held {s : Live} {pl : Player} {ch : Nat} : ch ∈ s.held pl ↔ (s.channel ch).holder = some pl := by
  simp only [Live.held, List.mem_filter, List.mem_range, beq_iff_eq, and_iff_right_iff_imp]
  exact Live.held_lt

theorem held_nodup (s : Live) (pl : Player) : (s.held pl).Nodup := List.nodup_range.filter _

theorem channel_beyond (s : Live) {ch : Nat} (h : 8 ≤ ch) : s.channel ch = .rest := Bank.read_beyond _ _ _ h

theorem releaseAll_channel (s : Live) (pl : Player) (ch : Nat) : (s.releaseAll pl).channel ch =
    if (s.channel ch).holder = some pl then (s.channel ch).givenUp else s.channel ch := by
  unfold Live.releaseAll
  by_cases hc : ch < 8
  · rw [channel_foldl (g := Live.release) (I := fun _ => True) (f := Channel.givenUp)
      (fun t _ => channel_withChannel_same t hc _)
      (fun t p hp => channel_withChannel_other t hp _) (fun _ _ _ => trivial) (held_nodup s pl) trivial]
    simp only [mem_held]
  · rw [channel_beyond _ (Nat.le_of_not_lt hc), channel_beyond _ (Nat.le_of_not_lt hc)]
    rfl

theorem releaseAll_playersStand (s : Live) (pl : Player) : PlayersStand s (s.releaseAll pl) :=
  playersStand_composes.foldl _ (fun t ch => withChannel_playersStand t ch _) _ s

theorem withPlayer_channel (s : Live) (pl : Player) (c : PlayerContext) (ch : Nat) :
    (s.withPlayer pl c).channel ch = s.channel ch := by
  cases pl <;> rfl

theorem withPlayer_evac (s : Live) (pl : Player) (c : PlayerContext) : (s.withPlayer pl c).speech.evac = s.speech.evac := by
  cases pl <;> rfl

theorem freePlayer_channel (s : Live) (pl : Player) (ch : Nat) : (s.freePlayer pl).channel ch =
    if (s.channel ch).holder = some pl then (s.channel ch).givenUp else s.channel ch :=
  (withPlayer_channel _ pl _ ch).trans (releaseAll_channel s pl ch)

theorem freePlayer_player (s : Live) (pl : Player) : (s.freePlayer pl).player pl = idleContext (s.player pl) := by
  unfold Live.freePlayer
  extract_lets t
  rw [Live.player_withPlayer_same, (releaseAll_playersStand s pl).player]

theorem freePlayer_other (s : Live) {pl q : Player} (h : q ≠ pl) : (s.freePlayer pl).player q = s.player q := by
  unfold Live.freePlayer
  extract_lets t
  rw [Live.player_withPlayer_other _ _ _ _ h, (releaseAll_playersStand s pl).player]

theorem freePlayer_evac (s : Live) (pl : Player) : (s.freePlayer pl).speech.evac = s.speech.evac :=
  (withPlayer_evac _ pl _).trans (releaseAll_playersStand s pl).evac

/-! ## The restart (R170) -/

/-- A channel after a restart: freed where a player held it. -/
def Channel.restarted (c : Channel) : Channel := if c.holder = none then c else c.givenUp

/-- Both players at rest, an empty queue, and no channel held. -/
structure SpeechRests (s : Live) : Prop where
  phase : ∀ pl, (s.player pl).phase = .idle
  request : ∀ pl, (s.player pl).request = none
  queue : s.speech.queue = []
  unheld : ∀ ch, (s.channel ch).holder = none

/-- The entry made inactive with no channel, and the queue emptied. -/
def Live.emptySpeech (s : Live) : Live :=
  let t := (s.setEvacuation [] none).evacEnd
  { t with speech := { t.speech with queue := [] } }

theorem restartSpeech_eq (s : Live) : s.restartSpeech = ((s.freePlayer .a).freePlayer .b).emptySpeech := by
  unfold Live.restartSpeech Live.emptySpeech
  rfl

theorem emptySpeech_channel (s : Live) (ch : Nat) : s.emptySpeech.channel ch = s.channel ch := rfl

theorem emptySpeech_idle {s : Live} {pl : Player} (phase : (s.player pl).phase = .idle)
    (request : (s.player pl).request = none) :
    (s.emptySpeech.player pl).phase = .idle ∧ (s.emptySpeech.player pl).request = none := by
  cases pl <;> exact ⟨phase, request⟩

theorem restartSpeech_channel (s : Live) (ch : Nat) : s.restartSpeech.channel ch = (s.channel ch).restarted := by
  rw [restartSpeech_eq, emptySpeech_channel, freePlayer_channel, freePlayer_channel, Channel.restarted]
  rcases holder : (s.channel ch).holder with _ | pl
  · simp [holder]
  · cases pl <;> simp [holder, Channel.givenUp]

theorem restartSpeech_rests (s : Live) : SpeechRests s.restartSpeech := by
  have idle : ∀ pl, (s.restartSpeech.player pl).phase = .idle ∧ (s.restartSpeech.player pl).request = none := by
    intro pl
    rw [restartSpeech_eq]
    apply emptySpeech_idle <;> cases pl
    case phase.a | request.a => rw [freePlayer_other _ (by decide), freePlayer_player]; rfl
    case phase.b | request.b => rw [freePlayer_player]; rfl
  have unheld : ∀ ch, (s.restartSpeech.channel ch).holder = none := by
    intro ch
    rw [restartSpeech_channel, Channel.restarted]
    split
    · assumption
    · rfl
  have queue : s.restartSpeech.speech.queue = [] := by
    rw [restartSpeech_eq]
    rfl
  exact ⟨fun pl => (idle pl).1, fun pl => (idle pl).2, queue, unheld⟩

theorem restartSpeech_evac (s : Live) : s.restartSpeech.speech.evac = ⟨.inactive, [], none, none⟩ := by
  rw [restartSpeech_eq]
  rfl

theorem restartSpeech_nextTag (s : Live) : s.restartSpeech.speech.nextTag = s.speech.nextTag := by
  have tag : ((s.freePlayer .a).freePlayer .b).speech.nextTag = s.speech.nextTag :=
    (queueStands_composes.trans (freePlayer_queueStands s .a) (freePlayer_queueStands _ .b)).2
  rw [restartSpeech_eq]
  exact tag

end Sys2Proof.Machine

/-! # The evacuation entry taken up by players at rest

With both players IDLE and no channel held the entry takes player A, which takes the channels of the set: those that are READY
at once, the others AWAITING (R162, R164). Where none is AWAITING the play begins in the same step (R153, R165). -/

namespace Sys2Proof.Machine

-- one thread: a proof that waits for the theorems before it would hold a thread of its own
set_option Elab.async false

theorem SpeechRests.of_speech {s t : Live} (h : SpeechRests s) (same : t.speech = s.speech) : SpeechRests t := by
  have player : ∀ pl, t.player pl = s.player pl := fun pl => by cases pl <;> simp only [Live.player, same]
  have channel : ∀ ch, t.channel ch = s.channel ch := fun ch => by simp only [Live.channel, same]
  exact ⟨fun pl => by rw [player]; exact h.phase pl, fun pl => by rw [player]; exact h.request pl,
    by rw [same]; exact h.queue, fun ch => by rw [channel]; exact h.unheld ch⟩

/-! ## The channels a player takes (R164) -/

/-- A channel as player `pl` takes it in WARMING. -/
def Channel.taken (pl : Player) (ready : Bool) : Channel :=
  if ready then ⟨true, some pl, some .ready, none, none, none⟩ else ⟨true, some pl, some .awaiting, some 0, none, none⟩

theorem taken_holder (pl : Player) (ready : Bool) : (Channel.taken pl ready).holder = some pl := by
  cases ready <;> rfl

/-- A player's context as it takes up a request. -/
def Live.takenUp (s : Live) (pl : Player) (r : SpeakRequest) : Live :=
  ({ s with speech := { s.speech with nextSequence := s.speech.nextSequence + 1 } }).withPlayer pl { PlayerContext.rest with
    phase := .warming, request := some r, sequence := s.speech.nextSequence, sound := (s.player pl).sound }

/-- The player in WARMING with the channels of its request. -/
def Live.warmUp (s : Live) (pl : Player) (r : SpeakRequest) : Live :=
  r.channels.foldl (fun t ch => t.takeChannel pl ch) (s.takenUp pl r)

theorem takeUp_eq (s : Live) (pl : Player) (r : SpeakRequest) : s.takeUp pl r = (s.warmUp pl r).checkPlayer pl := rfl

theorem takeChannel_playersStand (s : Live) (pl : Player) (ch : Nat) : PlayersStand s (s.takeChannel pl ch) :=
  ChainRule.either (withChannel_playersStand s ch _) (withChannel_playersStand s ch _)

theorem takeChannel_warming {s : Live} {pl : Player} (warming : (s.player pl).phase = .warming) {ch : Nat} (hc : ch < 8) :
    (s.takeChannel pl ch).channel ch = .taken pl (s.readyInput ch) := by
  unfold Live.takeChannel Channel.taken
  split
  · rw [channel_withChannel_same s hc, warming]
    rfl
  · exact channel_withChannel_same s hc _

theorem takeChannel_other (s : Live) (pl : Player) {ch q : Nat} (h : ch ≠ q) :
    (s.takeChannel pl ch).channel q = s.channel q := by
  unfold Live.takeChannel
  split <;> exact channel_withChannel_other s h _

section
variable (s : Live) (pl : Player) (r : SpeakRequest)

theorem warmUp_playersStand : PlayersStand (s.takenUp pl r) (s.warmUp pl r) :=
  playersStand_composes.foldl _ (fun t ch => takeChannel_playersStand t pl ch) _ _

theorem warmUp_phase : ((s.warmUp pl r).player pl).phase = .warming := by
  rw [(warmUp_playersStand s pl r).player, Live.takenUp, Live.player_withPlayer_same]

theorem warmUp_request : ((s.warmUp pl r).player pl).request = some r := by
  rw [(warmUp_playersStand s pl r).player, Live.takenUp, Live.player_withPlayer_same]

theorem warmUp_other {q : Player} (h : q ≠ pl) : (s.warmUp pl r).player q = s.player q := by
  rw [(warmUp_playersStand s pl r).player, Live.takenUp, Live.player_withPlayer_other _ _ _ _ h]
  cases q <;> rfl

theorem warmUp_evac : (s.warmUp pl r).speech.evac = s.speech.evac := by
  rw [(warmUp_playersStand s pl r).evac, Live.takenUp, withPlayer_evac]

theorem warmUp_only : Keeps speechParts s (s.warmUp pl r) := by
  have taken : Keeps speechParts s (s.takenUp pl r) := keeps_trans (speech_only s _) (withPlayer_only _ pl _)
  exact keeps_trans taken (keeps_foldl _ (fun t ch => takeChannel_only t pl ch) _ _)

variable {r} (nodup : r.channels.Nodup) (channels : ∀ ch ∈ r.channels, ch < 8)
include nodup channels

theorem warmUp_channel (ch : Nat) : (s.warmUp pl r).channel ch =
    if ch ∈ r.channels then .taken pl (s.readyInput ch) else s.channel ch := by
  have base : (s.takenUp pl r).channel ch = s.channel ch := withPlayer_channel _ pl _ ch
  by_cases mem : ch ∈ r.channels
  · have start : (s.takenUp pl r).loop = s.loop ∧ ((s.takenUp pl r).player pl).phase = .warming :=
      ⟨Live.withPlayer_loop _ pl _, by rw [Live.takenUp, Live.player_withPlayer_same]⟩
    rw [Live.warmUp, channel_foldl (I := fun t => t.loop = s.loop ∧ (t.player pl).phase = .warming)
      (f := fun _ => .taken pl (s.readyInput ch))
      (fun t ⟨loop, warming⟩ => by
        rw [takeChannel_warming warming (channels ch mem)]
        simp only [Live.readyInput, loop])
      (fun t p hp => takeChannel_other t pl hp)
      (fun t p ⟨loop, warming⟩ => ⟨((takeChannel_only t pl p).parts .loop (by decide)).trans loop,
        by rw [(takeChannel_playersStand t pl p).player]; exact warming⟩) nodup start, base]
  · rw [if_neg mem, Live.warmUp, channel_foldl_other (fun t p hp => takeChannel_other t pl hp) mem, base]

variable (free : ∀ ch, (s.channel ch).holder = none)
include free

theorem mem_held_warmUp {ch : Nat} : ch ∈ (s.warmUp pl r).held pl ↔ ch ∈ r.channels := by
  rw [mem_held, warmUp_channel s pl nodup channels]
  split
  · next mem => simp [taken_holder, mem]
  · next other => simp [free, other]

variable (some_ : r.channels ≠ [])
include some_

theorem held_warmUp_some : ((s.warmUp pl r).held pl).isEmpty = false := by
  obtain ⟨ch, hch⟩ := List.exists_mem_of_ne_nil _ some_
  have held : ch ∈ (s.warmUp pl r).held pl := (mem_held_warmUp s pl nodup channels free).mpr hch
  exact Bool.eq_false_iff.mpr fun empty => List.not_mem_nil (List.isEmpty_iff.mp empty ▸ held)

/-- R164: a play waits in WARMING for a channel that is not READY. -/
theorem takeUp_awaits (awaited : ∃ ch ∈ r.channels, s.readyInput ch = false) : s.takeUp pl r = s.warmUp pl r := by
  have awaits : ((s.warmUp pl r).held pl).any (s.warmUp pl r).awaits = true := by
    obtain ⟨ch, hch, notReady⟩ := awaited
    refine List.any_eq_true.mpr ⟨ch, (mem_held_warmUp s pl nodup channels free).mpr hch, ?_⟩
    rw [Live.awaits, warmUp_channel s pl nodup channels, if_pos hch, notReady]
    rfl
  rw [takeUp_eq, Live.checkPlayer, warmUp_phase, held_warmUp_some s pl nodup channels free some_, awaits]
  rfl

/-- R164: with every channel READY the play begins. -/
theorem takeUp_ready (ready : ∀ ch ∈ r.channels, s.readyInput ch = true) :
    s.takeUp pl r = (s.warmUp pl r).enterPlaying pl := by
  have none_awaits : ((s.warmUp pl r).held pl).any (s.warmUp pl r).awaits = false := by
    refine List.any_eq_false.mpr fun ch held => ?_
    have hch := (mem_held_warmUp s pl nodup channels free).mp held
    rw [Live.awaits, warmUp_channel s pl nodup channels, if_pos hch, ready ch hch]
    simp [Channel.taken]
  rw [takeUp_eq, Live.checkPlayer, warmUp_phase, held_warmUp_some s pl nodup channels free some_, none_awaits]
  rfl

end

/-! ## A play begins (R153, R165) -/

/-- The player in PLAYING before its first item. -/
def Live.toPlaying (s : Live) (pl : Player) : Live :=
  s.withPlayer pl { s.player pl with phase := .playing, item := some 0, taken := [] }

/-- Its READY channels routed to it. -/
def Live.routed (s : Live) (pl : Player) : Live :=
  ((s.toPlaying pl).held pl).foldl (fun t ch => t.route pl ch) (s.toPlaying pl)

theorem enterPlaying_eq (s : Live) (pl : Player) : s.enterPlaying pl = (s.routed pl).runItems itemFuel pl := rfl

theorem route_playersStand (s : Live) (pl : Player) (ch : Nat) : PlayersStand s (s.route pl ch) :=
  ChainRule.either (withChannel_playersStand s ch _) (playersStand_composes.refl s)

theorem route_other (s : Live) (pl : Player) {ch q : Nat} (h : ch ≠ q) : (s.route pl ch).channel q = s.channel q := by
  unfold Live.route
  split
  · exact channel_withChannel_other s h _
  · rfl

section
variable (s : Live) (pl : Player)

theorem routed_playersStand : PlayersStand (s.toPlaying pl) (s.routed pl) :=
  playersStand_composes.foldl _ (fun t ch => route_playersStand t pl ch) _ _

theorem routed_player : (s.routed pl).player pl = { s.player pl with phase := .playing, item := some 0, taken := [] } := by
  rw [(routed_playersStand s pl).player, Live.toPlaying, Live.player_withPlayer_same]

theorem routed_playerOther {q : Player} (h : q ≠ pl) : (s.routed pl).player q = s.player q := by
  rw [(routed_playersStand s pl).player, Live.toPlaying, Live.player_withPlayer_other _ _ _ _ h]

theorem routed_evac : (s.routed pl).speech.evac = s.speech.evac := by
  rw [(routed_playersStand s pl).evac, Live.toPlaying, withPlayer_evac]

/-- A channel routed where it is READY. -/
def Channel.routedTo (pl : Player) (c : Channel) : Channel :=
  if c.readiness = some .ready then { c with routing := some pl } else c

theorem routed_channel (ch : Nat) : (s.routed pl).channel ch =
    if (s.channel ch).holder = some pl then (s.channel ch).routedTo pl else s.channel ch := by
  have base : (s.toPlaying pl).channel ch = s.channel ch := withPlayer_channel s pl _ ch
  unfold Live.routed
  by_cases held : (s.channel ch).holder = some pl
  · have mem : ch ∈ (s.toPlaying pl).held pl := mem_held.mpr (by rw [base]; exact held)
    have own : ∀ t : Live, (t.route pl ch).channel ch = (t.channel ch).routedTo pl := fun t => by
      unfold Live.route Channel.routedTo
      split
      · exact channel_withChannel_same t (Live.held_lt held) _
      · rfl
    rw [channel_foldl (I := fun _ => True) (fun t _ => own t) (fun t p hp => route_other t pl hp) (fun _ _ _ => trivial)
      (held_nodup _ pl) trivial, if_pos mem, if_pos held, base]
  · have absent : ch ∉ (s.toPlaying pl).held pl := fun mem => held (by rw [← base]; exact mem_held.mp mem)
    rw [channel_foldl_other (fun t p hp => route_other t pl hp) absent, if_neg held, base]

theorem routed_only : Keeps speechParts s (s.routed pl) :=
  keeps_trans (withPlayer_only s pl _)
    (keeps_foldl _ (fun t ch => keeps_ite (withChannel_only t ch _) (keeps_refl _ t)) _ _)

end

/-- A SILENCE or CHIME item starts the item timer and takes time (R155). -/
theorem runItems_timed {s : Live} {pl : Player} {r : SpeakRequest} {i : Nat} {it : Item} (fuel : Nat)
    (request : (s.player pl).request = some r) (item : (s.player pl).item = some i)
    (first : (s.itemsOf r)[i]? = some it) (timed : it.timed.isSome = true) :
    s.runItems (fuel + 1) pl = s.withPlayer pl { s.player pl with itemTimer := some 0 } := by
  have begun : s.beginItem pl r i it = (s.withPlayer pl { s.player pl with itemTimer := some 0 }, true) := by
    cases it with
    | silence ms | chime => rfl
    | _ => cases timed
  unfold Live.runItems
  simp only [request, item, first, begun, if_true]

/-! ## What a play's items leave -/

/-- The channels that player `pl` does not hold stand, and so do the entry's channel set and context zone. -/
structure OutsidePlay (pl : Player) (s t : Live) : Prop where
  channel : ∀ ch, (s.channel ch).holder ≠ some pl → t.channel ch = s.channel ch
  channels : t.speech.evac.channels = s.speech.evac.channels
  context : t.speech.evac.context = s.speech.evac.context

theorem outsidePlay_composes (pl : Player) : Composes (OutsidePlay pl) where
  refl _ := ⟨fun _ _ => rfl, rfl, rfl⟩
  trans h g := {
    channel := fun ch free => by
      have stood := h.channel ch free
      exact (g.channel ch (by rw [stood]; exact free)).trans stood
    channels := g.channels.trans h.channels
    context := g.context.trans h.context }

theorem withPlayer_outsidePlay (s : Live) (pl : Player) (c : PlayerContext) : OutsidePlay pl s (s.withPlayer pl c) := by
  cases pl <;> exact ⟨fun _ _ => rfl, rfl, rfl⟩

theorem post_outsidePlay (pl : Player) (s : Live) (b : Bool) (n : Note) : OutsidePlay pl s (s.postIf b n) := by
  unfold Live.postIf
  exact ChainRule.either ⟨fun _ _ => rfl, rfl, rfl⟩ ((outsidePlay_composes pl).refl s)

theorem completePlay_outsidePlay (s : Live) (pl : Player) : OutsidePlay pl s (s.completePlay pl) := by
  unfold Live.completePlay
  split
  · next r _ =>
    have freed : OutsidePlay pl s (s.freePlayer pl) :=
      ⟨fun ch free => by rw [freePlayer_channel, if_neg free], by rw [freePlayer_evac], by rw [freePlayer_evac]⟩
    refine (outsidePlay_composes pl).trans (t := (s.freePlayer pl).post (.speakDone r.tag r.cls r.origin))
      ((outsidePlay_composes pl).trans freed ⟨fun _ _ => rfl, rfl, rfl⟩) ?_
    exact ChainRule.either ⟨fun _ _ => rfl, rfl, rfl⟩ ((outsidePlay_composes pl).refl _)
  · exact (outsidePlay_composes pl).refl s

theorem beginItem_outsidePlay (s : Live) (pl : Player) (r : SpeakRequest) (i : Nat) (it : Item) :
    OutsidePlay pl s (s.beginItem pl r i it).1 := by
  unfold Live.beginItem Live.beginPhrase
  dsimp only
  split
  case h_1 | h_2 => exact withPlayer_outsidePlay s pl _
  case h_3 =>
    split
    · exact withPlayer_outsidePlay s pl _
    · exact withPlayer_outsidePlay s pl _
  case h_4 =>
    split
    · exact withPlayer_outsidePlay s pl _
    · split
      · exact withPlayer_outsidePlay s pl _
      · exact (outsidePlay_composes pl).trans (withPlayer_outsidePlay s pl _) (post_outsidePlay pl _ _ _)

theorem runItems_outsidePlay (fuel : Nat) (pl : Player) (s : Live) : OutsidePlay pl s (s.runItems fuel pl) := by
  induction fuel generalizing s with
  | zero => exact (outsidePlay_composes pl).refl s
  | succ n ih =>
    unfold Live.runItems
    split
    · split
      · exact completePlay_outsidePlay s pl
      · dsimp only
        split
        · exact beginItem_outsidePlay s pl _ _ _
        · exact (outsidePlay_composes pl).trans (beginItem_outsidePlay s pl _ _ _) (ih _)
    · exact (outsidePlay_composes pl).refl s

theorem enterPlaying_outsidePlay (s : Live) (pl : Player) : OutsidePlay pl s (s.enterPlaying pl) := by
  rw [enterPlaying_eq]
  refine (outsidePlay_composes pl).trans (t := s.routed pl) ⟨fun ch free => ?_, ?_, ?_⟩ (runItems_outsidePlay _ pl _)
  · rw [routed_channel, if_neg free]
  · rw [routed_evac]
  · rw [routed_evac]

end Sys2Proof.Machine

/-! # The evacuation entry handed to players at rest -/

namespace Sys2Proof.Machine

-- one thread: a proof that waits for the theorems before it would hold a thread of its own
set_option Elab.async false

theorem setEvacuation_rests {s : Live} (h : SpeechRests s) (chs : List Nat) (context : Option Nat) :
    SpeechRests (s.setEvacuation chs context) where
  phase pl := by cases pl; exacts [h.phase .a, h.phase .b]
  request pl := by cases pl; exacts [h.request .a, h.request .b]
  queue := h.queue
  unheld := h.unheld

theorem setEvac_rests {s : Live} (h : SpeechRests s) (e : Evacuation) :
    SpeechRests { s with speech := { s.speech with evac := e } } where
  phase pl := by cases pl; exacts [h.phase .a, h.phase .b]
  request pl := by cases pl; exacts [h.request .a, h.request .b]
  queue := h.queue
  unheld := h.unheld

/-- The entry of a channel set in PLAYING. -/
def Live.enterPlay (s : Live) (chs : List Nat) (context : Option Nat) : Live :=
  let t := s.setEvacuation chs context
  { t with speech := { t.speech with evac := { t.speech.evac with state := .playing, restTimer := none } } }

section
variable {v : Live} (rests : SpeechRests v) (inactive : v.speech.evac = ⟨.inactive, [], none, none⟩)
include rests inactive

theorem evacDemand_clears (context : Option Nat) : v.evacDemand [] context = (v.setEvacuation [] context).evacEnd := by
  unfold Live.evacDemand
  rw [inactive]
  exact grants_emptyQueue rests.queue

theorem evacDemand_begins {chs : List Nat} (some_ : chs ≠ []) (context : Option Nat) :
    v.evacDemand chs context = (v.setEvacuation chs context).evacBegin := by
  have queue : (v.setEvacuation chs context).evacBegin.speech.queue = [] :=
    (evacBegin_queueStands _).1.trans rests.queue
  unfold Live.evacDemand
  rw [inactive]
  dsimp only
  rw [if_neg (by simpa using some_)]
  exact grants_emptyQueue queue

/-- With no channel called for, or no script, no player takes the entry (R160). -/
theorem evacDemand_unplayed {chs : List Nat} (context : Option Nat)
    (none_ : chs = [] ∨ v.plan.geometry.evacScript = none) :
    (v.evacDemand chs context).speech.evac = ⟨if chs = [] then .inactive else .unscripted, chs, context, none⟩ ∧
    SpeechRests (v.evacDemand chs context) ∧ ∀ ch, (v.evacDemand chs context).channel ch = v.channel ch := by
  have set := setEvacuation_rests rests chs context
  by_cases empty : chs = []
  · subst empty
    rw [evacDemand_clears rests inactive, if_pos rfl]
    exact ⟨rfl, setEvac_rests set _, fun _ => rfl⟩
  · have script : (v.setEvacuation chs context).plan.geometry.evacScript = none := none_.resolve_left empty
    rw [evacDemand_begins rests inactive empty, Live.evacBegin, script, if_neg empty]
    exact ⟨rfl, setEvac_rests set _, fun _ => rfl⟩

/-- With a script, player A takes the entry at once (R162). -/
theorem evacDemand_taken {chs : List Nat} (some_ : chs ≠ []) (context : Option Nat) {k : Nat}
    (script : v.plan.geometry.evacScript = some k) : v.evacDemand chs context =
      (v.enterPlay chs context).takeUp .a ⟨0, k, chs, .evacuate, context, none, .fireDemand, v.seconds⟩ := by
  have set := setEvacuation_rests rests chs context
  have preempts : ∀ pl, (v.setEvacuation chs context).preemptPlayer chs pl = v.setEvacuation chs context := by
    intro pl
    have none_held : (v.setEvacuation chs context).held pl = [] := by
      refine List.eq_nil_iff_forall_not_mem.mpr fun ch held => ?_
      rw [mem_held, set.unheld] at held
      cases held
    rw [Live.preemptPlayer, none_held]
    rfl
  have scripted : (v.setEvacuation chs context).plan.geometry.evacScript = some k := script
  have idle : ∀ pl, (v.setEvacuation chs context).idle pl = true := fun pl => by
    rw [Live.idle, set.phase]
    rfl
  rw [evacDemand_begins rests inactive some_, Live.evacBegin, scripted]
  dsimp only
  unfold Live.evacTake
  rw [show (v.setEvacuation chs context).speech.evac.channels = chs from rfl]
  dsimp only
  rw [preempts, preempts, idle]
  have next : (v.enterPlay chs context).nextPlayer = .a := if_pos (idle .a)
  exact congrArg ((v.enterPlay chs context).takeUp · _) next

end

/-! ## The play of the entry (R164, R165) -/

/-- The entry as player A takes it at the given second. -/
def evacEntry (k : Nat) (d : Demand) (second : Nat) : SpeakRequest :=
  ⟨0, k, d.channels, .evacuate, d.context, none, .fireDemand, second⟩

theorem enterPlay_rests {v : Live} (rests : SpeechRests v) (chs : List Nat) (context : Option Nat) :
    SpeechRests (v.enterPlay chs context) := setEvac_rests (setEvacuation_rests rests chs context) _

section
variable {v : Live} {d : Demand} {k : Nat} (rests : SpeechRests v) (inactive : v.speech.evac = ⟨.inactive, [], none, none⟩)
  (nodup : d.channels.Nodup) (channels : ∀ ch ∈ d.channels, ch < 8) (some_ : d.channels ≠ [])
  (script : v.plan.geometry.evacScript = some k)
include rests inactive nodup channels some_ script

/-- R164: the entry waits for a channel that is not READY. -/
theorem evacDemand_awaits (awaited : ∃ ch ∈ d.channels, v.readyInput ch = false) :
    v.evacDemand d.channels d.context = (v.enterPlay d.channels d.context).warmUp .a (evacEntry k d v.seconds) := by
  rw [evacDemand_taken rests inactive some_ d.context script]
  exact takeUp_awaits (v.enterPlay d.channels d.context) .a (r := evacEntry k d v.seconds) nodup channels
    (enterPlay_rests rests _ _).unheld some_ awaited

/-- R164: the entry plays at once with every channel READY. -/
theorem evacDemand_ready (ready : ∀ ch ∈ d.channels, v.readyInput ch = true) : v.evacDemand d.channels d.context =
    ((v.enterPlay d.channels d.context).warmUp .a (evacEntry k d v.seconds)).enterPlaying .a := by
  rw [evacDemand_taken rests inactive some_ d.context script]
  exact takeUp_ready (v.enterPlay d.channels d.context) .a (r := evacEntry k d v.seconds) nodup channels
    (enterPlay_rests rests _ _).unheld some_ ready

omit rests inactive some_ script in
theorem entry_channel (ch : Nat) :
    ((v.enterPlay d.channels d.context).warmUp .a (evacEntry k d v.seconds)).channel ch =
      if ch ∈ d.channels then .taken .a (v.readyInput ch) else v.channel ch :=
  warmUp_channel (v.enterPlay d.channels d.context) .a (r := evacEntry k d v.seconds) nodup channels ch

/-- The entry keeps its set and its context zone, and takes no channel outside the set. -/
theorem evacDemand_outside : (v.evacDemand d.channels d.context).speech.evac.channels = d.channels ∧
    (v.evacDemand d.channels d.context).speech.evac.context = d.context ∧
    ∀ ch, ch ∉ d.channels → (v.evacDemand d.channels d.context).channel ch = v.channel ch := by
  have evac := warmUp_evac (v.enterPlay d.channels d.context) .a (evacEntry k d v.seconds)
  have outside : ∀ ch, ch ∉ d.channels →
      ((v.enterPlay d.channels d.context).warmUp .a (evacEntry k d v.seconds)).channel ch = v.channel ch := fun ch absent => by
    rw [entry_channel nodup channels, if_neg absent]
  by_cases ready : ∀ ch ∈ d.channels, v.readyInput ch = true
  · rw [evacDemand_ready rests inactive nodup channels some_ script ready]
    have played := enterPlaying_outsidePlay
      ((v.enterPlay d.channels d.context).warmUp .a (evacEntry k d v.seconds)) .a
    refine ⟨played.channels.trans (by rw [evac]; rfl), played.context.trans (by rw [evac]; rfl), fun ch absent => ?_⟩
    rw [played.channel ch (by rw [outside ch absent, rests.unheld]; nofun), outside ch absent]
  · have awaited : ∃ ch ∈ d.channels, v.readyInput ch = false := by simpa using ready
    rw [evacDemand_awaits rests inactive nodup channels some_ script awaited, evac]
    exact ⟨rfl, rfl, outside⟩

/-- R162, R164: the entry in WARMING. -/
theorem evacDemand_warms (awaited : ∃ ch ∈ d.channels, v.readyInput ch = false) :
    let t := v.evacDemand d.channels d.context
    t.speech.evac = ⟨.playing, d.channels, d.context, none⟩ ∧ (t.player .a).phase = .warming ∧
      (t.player .a).request = some (evacEntry k d v.seconds) ∧ (t.player .b).phase = .idle ∧
      ∀ ch ∈ d.channels, t.channel ch = .taken .a (v.readyInput ch) := by
  rw [evacDemand_awaits rests inactive nodup channels some_ script awaited]
  refine ⟨warmUp_evac _ _ _, warmUp_phase _ _ _, warmUp_request _ _ _, ?_, fun ch mem => ?_⟩
  · rw [warmUp_other _ _ _ (by decide)]
    exact (enterPlay_rests rests _ _).phase .b
  · rw [entry_channel nodup channels, if_pos mem]

/-- R153, R165: the entry in PLAYING on a first item that runs by the item timer. -/
theorem evacDemand_plays {it : Item} (ready : ∀ ch ∈ d.channels, v.readyInput ch = true)
    (first : (v.plan.script k).items[0]? = some it) (timed : it.timed.isSome = true) :
    let t := v.evacDemand d.channels d.context
    t.speech.evac = ⟨.playing, d.channels, d.context, none⟩ ∧ (t.player .a).phase = .playing ∧
      (t.player .a).request = some (evacEntry k d v.seconds) ∧ (t.player .a).item = some 0 ∧
      (t.player .a).itemTimer = some 0 ∧ (t.player .b).phase = .idle ∧
      ∀ ch ∈ d.channels, t.channel ch = ⟨true, some .a, some .ready, none, some .a, none⟩ := by
  have other : Player.b ≠ .a := by decide
  rw [evacDemand_ready rests inactive nodup channels some_ script ready, enterPlaying_eq]
  generalize hw : (v.enterPlay d.channels d.context).warmUp .a (evacEntry k d v.seconds) = w
  have request : (w.player .a).request = some (evacEntry k d v.seconds) := hw ▸ warmUp_request _ _ _
  have evac : w.speech.evac = ⟨.playing, d.channels, d.context, none⟩ := hw ▸ warmUp_evac _ _ _
  have idle : (w.player .b).phase = .idle := by
    rw [← hw, warmUp_other _ _ _ other]
    exact (enterPlay_rests rests _ _).phase .b
  have plan : (w.routed .a).plan = v.plan := plan_of_store
    (((routed_only w .a).parts .store (by decide)).trans (hw ▸ (warmUp_only _ _ _).parts .store (by decide)))
  have run : (w.routed .a).runItems itemFuel .a =
      (w.routed .a).withPlayer .a { (w.routed .a).player .a with itemTimer := some 0 } :=
    runItems_timed 299 (r := evacEntry k d v.seconds) (i := 0) (it := it) (by rw [routed_player]; exact request)
      (by rw [routed_player]) (by rw [Live.itemsOf, plan]; exact first) timed
  rw [run]
  dsimp only
  rw [Live.player_withPlayer_same, Live.player_withPlayer_other _ _ _ _ other, withPlayer_evac, routed_player,
    routed_playerOther _ _ other, routed_evac]
  refine ⟨evac, rfl, request, rfl, rfl, idle, fun ch mem => ?_⟩
  have taken : w.channel ch = .taken .a true := by
    rw [← hw, entry_channel nodup channels, if_pos mem, ready ch mem]
  rw [withPlayer_channel, routed_channel, taken, if_pos (taken_holder .a true)]
  rfl

end

end Sys2Proof.Machine

/-! # O32: UNIT RESTART and the warm restart

The warm restart is followed block by block: the part with fresh ports and the pending copy restored, the chain stopped and
the calls emptied, speech at rest, the fire calls of the standing demand, and the evacuation entry (R193, R95). -/

namespace Sys2Proof.Machine

-- one thread: a proof that waits for the theorems before it would hold a thread of its own
set_option Elab.async false

/-! ## The chain (R76) -/

/-- The chain's record with its items cleared and its gongs silent. -/
def ChainDrive.cleared (c : ChainDrive) : ChainDrive :=
  { c with stop := none, deferred := none, sweep := none, carriedLoops := none, step := none, warnTimer := none
           gongTimer := none, gongsOn := false }

/-- The record braked where it was not. -/
def ChainDrive.braked (c : ChainDrive) : ChainDrive :=
  if c.drive = .brake then c else { c with drive := .brake, stallTimer := none }

theorem braked_drive (c : ChainDrive) : c.braked.drive = .brake := by
  unfold ChainDrive.braked
  split
  · assumption
  · rfl

theorem driveTo_brake_chain (s : Live) : (s.driveTo .brake).chain = s.chain.braked := by
  unfold Live.driveTo ChainDrive.braked
  split <;> rfl

theorem cleared_braked_items (c : ChainDrive) : c.cleared.braked.stop = none ∧ c.cleared.braked.deferred = none ∧
    c.cleared.braked.sweep = none ∧ c.cleared.braked.carriedLoops = none ∧ c.cleared.braked.step = none := by
  unfold ChainDrive.braked
  split <;> exact ⟨rfl, rfl, rfl, rfl, rfl⟩

theorem restartChain_chain (s : Live) : s.restartChain.chain = { s.chain.cleared.braked with
    state := if s.chain.state.restarts then .held .restart else s.chain.state } := by
  unfold Live.restartChain
  extract_lets moving holds c t u
  have cleared : t.chain = s.chain.cleared := rfl
  have braked : u.chain = s.chain.cleared.braked := by
    unfold u
    split
    · exact ((raiseWear_only _ _).parts .chain (by decide)).trans ((driveTo_brake_chain t).trans (by rw [cleared]))
    · next still =>
      have drive : s.chain.drive = .brake := by simpa [moving] using still
      exact cleared.trans (if_pos drive).symm
  have state : s.chain.cleared.braked.state = s.chain.state := by
    unfold ChainDrive.braked
    split <;> rfl
  cases restarts : s.chain.state.restarts
  · refine Eq.trans (congrArg Live.chain (if_neg (by simp [holds, restarts]))) ?_
    rw [braked, if_neg (by simp), ← state]
  · refine Eq.trans (congrArg Live.chain (if_pos restarts)) ?_
    rw [enterChain_chain, braked, if_pos rfl]

/-! ## The blocks in turn (R193) -/

/-- Both ports afresh with STARTED posted, and the pending copy made the active one. -/
def Live.restartFresh (s : Live) : Live :=
  let t := ({ s with portC := .start, portF := .start, restart := false, startCause := .warm } : Live).post
    (.started .warm s.store.storeGood)
  { t with store := { s.store with pending := s.store.active, cursor := .closed } }

/-- The chain stopped, the calls emptied and the circuits reset. -/
@[irreducible] def Live.restartCleared (s : Live) : Live := s.restartFresh.restartChain.emptyCalls.resetCircuits

/-- Speech at rest and the programme IDLE. -/
@[irreducible] def Live.restartQuiet (s : Live) : Live := s.restartCleared.restartSpeech.withClosing .start

/-- The fire calls of the standing demand entered. -/
@[irreducible] def Live.restartCalled (s : Live) : Live := s.demand.circuits.foldl Live.fireCallEnter s.restartQuiet

section
variable (s : Live)

theorem restartCleared_only : Keeps chainParts s.restartFresh s.restartFresh.restartChain ∧
    Keeps callParts s.restartFresh.restartChain s.restartCleared := by
  unfold Live.restartCleared
  exact ⟨restartChain_only _, (emptyCalls_only _).next (resetCircuits_only _)⟩

theorem restartQuiet_only : Keeps closingParts s.restartCleared s.restartQuiet := by
  unfold Live.restartQuiet
  exact keeps_trans (keeps_widen (restartSpeech_only _)) (keeps_widen (withClosing_only _ _))

theorem restartCalled_only : Keeps callParts s.restartQuiet s.restartCalled := by
  unfold Live.restartCalled
  exact keeps_foldl _ fireCallEnter_only _ _

theorem restartQuiet_after : Keeps closingParts s.restartFresh s.restartQuiet := by
  obtain ⟨chain, calls⟩ := restartCleared_only s
  exact keeps_trans (Keeps.next (keeps_widen chain) calls) (restartQuiet_only s)

theorem demand_of_same {t : Live} (zones : t.zones = s.zones) (plan : t.plan = s.plan) : t.demand = s.demand := by
  unfold Live.demand Live.lowestAlarm Live.sounds Live.inAlarm Live.zone
  rw [zones, plan]

theorem restartQuiet_plan : s.restartQuiet.plan = s.plan := by
  have fresh : s.restartQuiet.plan = s.restartFresh.plan := plan_of_store ((restartQuiet_after s).parts .store (by decide))
  exact fresh

theorem restartQuiet_zones : s.restartQuiet.zones = s.zones := (restartQuiet_after s).parts .zones (by decide)

theorem restartQuiet_demand : s.restartQuiet.demand = s.demand :=
  demand_of_same s (restartQuiet_zones s) (restartQuiet_plan s)

theorem warmRestart_eq : s.warmRestart = s.restartCalled.evacDemand s.demand.channels s.demand.context := by
  rw [← restartQuiet_demand s]
  unfold Live.restartCalled
  rw [← restartQuiet_demand s]
  unfold Live.warmRestart Live.rehand Live.restartQuiet Live.restartCleared Live.restartFresh
  rfl

/-! ## What no later block touches -/

theorem warmRestart_handed : Keeps speechParts s.restartCalled s.warmRestart := by
  rw [warmRestart_eq]
  exact evacDemand_only _ _ _

theorem warmRestart_after : Keeps closingParts s.restartFresh s.warmRestart :=
  (((restartQuiet_after s).next (restartCalled_only s))).next (warmRestart_handed s)

/-- The port's exchange begins afresh with STARTED at the head of its queue (R193). -/
theorem warmRestart_port (p : Port) : (s.warmRestart.port p).wire = (.hunting, 0, false, none) ∧
    (s.warmRestart.port p).notices.head? = some ⟨.started .warm s.store.storeGood, s.seconds, false⟩ := by
  obtain ⟨receiver, gap, pending, reply⟩ := (warmRestart_after s).wire p
  obtain ⟨later, notices⟩ := ((warmRestart_after s).notices p).1
  rw [PortRecord.wire, receiver, gap, pending, reply, ← notices]
  cases p <;> exact ⟨rfl, rfl⟩

theorem warmRestart_chain : s.warmRestart.chain = { s.chain.cleared.braked with
    state := if s.chain.state.restarts then .held .restart else s.chain.state } := by
  have handed : s.warmRestart.chain = s.restartCalled.chain := (warmRestart_handed s).parts .chain (by decide)
  have called : s.restartCalled.chain = s.restartQuiet.chain := (restartCalled_only s).parts .chain (by decide)
  have quiet : s.restartQuiet.chain = s.restartCleared.chain := by
    unfold Live.restartQuiet
    exact (restartSpeech_only _).parts .chain (by decide)
  have cleared : s.restartCleared.chain = s.restartFresh.restartChain.chain :=
    (restartCleared_only s).2.parts .chain (by decide)
  rw [handed, called, quiet, cleared, restartChain_chain]
  rfl

/-- R76: BRAKE, HELD(RESTART) from a moving or warned chain, and no item of the chain left. -/
theorem warmRestart_chainRests : s.warmRestart.chain.drive = .brake ∧
    s.warmRestart.chain.state = (if s.chain.state.restarts then .held .restart else s.chain.state) ∧
    s.warmRestart.chain.stop = none ∧ s.warmRestart.chain.deferred = none ∧ s.warmRestart.chain.sweep = none ∧
    s.warmRestart.chain.carriedLoops = none ∧ s.warmRestart.chain.step = none := by
  rw [warmRestart_chain]
  exact ⟨braked_drive _, rfl, cleared_braked_items _⟩

theorem warmRestart_closing : s.warmRestart.closing = .start := by
  have quiet : s.restartQuiet.closing = .start := by
    unfold Live.restartQuiet
    rfl
  exact ((warmRestart_handed s).parts .closing (by decide)).trans
    (((restartCalled_only s).parts .closing (by decide)).trans quiet)

theorem warmRestart_demand : s.warmRestart.demand = s.demand := by
  have plan : s.warmRestart.plan = s.restartFresh.plan := plan_of_store ((warmRestart_after s).parts .store (by decide))
  exact demand_of_same s ((warmRestart_after s).parts .zones (by decide)) plan

/-! ## The calls and the circuits (R95, R138, R151) -/

theorem restartCleared_calls : s.restartCleared.calls = [] := by
  unfold Live.restartCleared
  exact (resetCircuits_calls _).trans (emptyCalls_calls _)

theorem restartCleared_circuits : s.restartCleared.circuits = startCircuits s.plan := by
  have plan : s.restartFresh.restartChain.emptyCalls.plan = s.restartFresh.plan := plan_of_store
    (((emptyCalls_only _).parts .store (by decide)).trans ((restartChain_only _).parts .store (by decide)))
  unfold Live.restartCleared
  exact (resetCircuits_circuits _).trans (congrArg startCircuits plan)

/-- The restart of speech and of the programme, beside the calls. -/
theorem restartQuiet_beside : s.restartQuiet.calls = [] ∧ s.restartQuiet.circuits = startCircuits s.plan := by
  have speech := restartSpeech_only s.restartCleared
  unfold Live.restartQuiet
  exact ⟨(speech.parts .calls (by decide)).trans (restartCleared_calls s),
    (speech.parts .circuits (by decide)).trans (restartCleared_circuits s)⟩

theorem demand_circuits_nodup : s.demand.circuits.Nodup := List.nodup_range.filter _

theorem demand_circuits_lt {c : Nat} (h : c ∈ s.demand.circuits) : c < 16 := by
  simp only [Live.demand, List.mem_filter, List.mem_range] at h
  exact h.1

theorem demand_channels_nodup : s.demand.channels.Nodup := List.nodup_range.filter _

theorem demand_channels_lt {ch : Nat} (h : ch ∈ s.demand.channels) : ch < 8 := by
  simp only [Live.demand, List.mem_filter, List.mem_range] at h
  exact h.1

theorem restartQuiet_circuit {c : Nat} (hc : c < 16) : s.restartQuiet.circuit c =
    ⟨none, if (s.plan.circuit c).present then (s.plan.circuit c).resetMask else 0, none⟩ := by
  rw [Live.circuit, (restartQuiet_beside s).2, startCircuits_read _ hc]

theorem restartCalled_called : Called s.restartQuiet s.demand.circuits s.restartCalled := by
  have idle : ∀ c, (s.restartQuiet.circuit c).ring = none := by
    intro c
    by_cases hc : c < 16
    · rw [restartQuiet_circuit s hc]
    · rw [Live.circuit, Bank.read_beyond _ _ _ (Nat.le_of_not_lt hc)]
  have few : s.demand.circuits.length ≤ 32 := le_trans (List.length_filter_le _ _) (by simp)
  unfold Live.restartCalled
  exact called_all (restartQuiet_beside s).1 idle (demand_circuits_nodup s) (fun c => demand_circuits_lt s) few

theorem warmRestart_calls : s.warmRestart.calls = s.demand.circuits.map (fireCall .ringing s.seconds) := by
  have seconds : s.restartQuiet.seconds = s.seconds := ((restartQuiet_after s).parts .clock (by decide)).1
  have handed : s.warmRestart.calls = s.restartCalled.calls := (warmRestart_handed s).parts .calls (by decide)
  rw [handed, (restartCalled_called s).calls, seconds]

/-! ## The indicators (R138) -/

theorem emptySpeech_subsides : Subsides s s.emptySpeech := subsides_of_same rfl rfl

theorem withClosing_subsides (c : Closing) : Subsides s (s.withClosing c) := subsides_of_same rfl rfl

theorem restartSpeech_subsides : Subsides s s.restartSpeech := by
  rw [restartSpeech_eq]
  exact subsides_composes.trans (subsides_composes.trans (freePlayer_subsides s .a) (freePlayer_subsides _ .b))
    (emptySpeech_subsides _)

theorem restartQuiet_subsides : Subsides s.restartCleared s.restartQuiet := by
  unfold Live.restartQuiet
  exact subsides_composes.trans (restartSpeech_subsides _) (withClosing_subsides _ _)

theorem restartCalled_subsides : Subsides s.restartQuiet s.restartCalled := by
  unfold Live.restartCalled
  exact subsides_composes.foldl _ fireCallEnter_subsides _ _

theorem warmRestart_dark {p : Nat} (numbered : s.loop.numbered .call p = true) :
    s.warmRestart.image.indicators.read p false = false := by
  have stands : s.restartFresh.restartChain.loop.numbered .call p = true :=
    ((restartChain_stands s.restartFresh).numbered .call p).trans numbered
  have cleared : s.restartCleared.image.indicators.read p false = false := by
    unfold Live.restartCleared
    exact (resetCircuits_subsides _).indicators p (emptyCalls_dark stands)
  have later : Subsides s.restartCleared s.warmRestart := by
    rw [warmRestart_eq]
    exact subsides_composes.trans (subsides_composes.trans (restartQuiet_subsides s) (restartCalled_subsides s))
      (evacDemand_subsides _ _ _)
  exact later.indicators p cleared

/-! ## Speech (R162, R164, R170) -/

theorem restartCalled_speech : s.restartCalled.speech = s.restartCleared.restartSpeech.speech := by
  have called : s.restartCalled.speech = s.restartQuiet.speech := (restartCalled_only s).parts .speech (by decide)
  rw [called]
  unfold Live.restartQuiet
  rfl

theorem restartCleared_speech : s.restartCleared.speech = s.speech := by
  obtain ⟨chain, calls⟩ := restartCleared_only s
  exact (calls.parts .speech (by decide)).trans (chain.parts .speech (by decide))

theorem restartCalled_rests : SpeechRests s.restartCalled :=
  (restartSpeech_rests s.restartCleared).of_speech (restartCalled_speech s)

theorem restartCalled_inactive : s.restartCalled.speech.evac = ⟨.inactive, [], none, none⟩ := by
  rw [restartCalled_speech, restartSpeech_evac]

theorem restartCalled_channel (ch : Nat) : s.restartCalled.channel ch = (s.channel ch).restarted := by
  have channel : s.restartCalled.channel ch = s.restartCleared.restartSpeech.channel ch := by
    rw [Live.channel, restartCalled_speech]
    rfl
  rw [channel, restartSpeech_channel, Live.channel, restartCleared_speech]
  rfl

theorem restartCalled_stands : Stands s s.restartCalled := by
  have fresh : Stands s s.restartFresh := stands_of_loop rfl rfl
  unfold Live.restartCalled Live.restartQuiet Live.restartCleared
  exact ((((((fresh.trans (restartChain_stands _)).trans (emptyCalls_stands _)).trans (resetCircuits_stands _)).trans
    (restartSpeech_stands _)).trans (withClosing_stands _ _))).trans (stands_foldl _ fireCallEnter_stands _ _)

theorem restartCalled_ready (ch : Nat) : s.restartCalled.readyInput ch = s.readyInput ch := by
  simp only [Live.readyInput, (restartCalled_stands s).ready]

theorem restartCalled_plan : s.restartCalled.plan = s.plan := by
  rw [plan_of_store ((restartCalled_only s).parts .store (by decide)), restartQuiet_plan]

theorem warmRestart_queue : s.warmRestart.speech.queue = [] ∧ s.warmRestart.speech.nextTag = s.speech.nextTag := by
  have queue := (restartCalled_rests s).queue
  obtain ⟨emptied, tag⟩ := evacDemand_emptyQueue queue s.demand.channels s.demand.context
  rw [warmRestart_eq]
  refine ⟨emptied.trans queue, tag.trans ?_⟩
  rw [restartCalled_speech, restartSpeech_nextTag, restartCleared_speech]

/-- The fire calls alone, each ringing its circuit under the plan's mask (R131, R141, R151). -/
theorem warmRestart_circuit {c : Nat} (hc : c < 16) :
    s.warmRestart.circuit c = ⟨if s.demand.circuits.contains c then some (fireRing c) else none,
      if (s.plan.circuit c).present then (s.plan.circuit c).resetMask else 0, none⟩ ∧
    s.warmRestart.call (.fire c) =
      if s.demand.circuits.contains c then some (fireCall .ringing s.seconds c) else none := by
  have handed := warmRestart_handed s
  have circuit : s.warmRestart.circuit c = s.restartCalled.circuit c := by
    rw [Live.circuit, show s.warmRestart.circuits = s.restartCalled.circuits from handed.parts .circuits (by decide)]
    rfl
  have call : s.warmRestart.call (.fire c) = s.restartCalled.call (.fire c) := by
    rw [Live.call, show s.warmRestart.calls = s.restartCalled.calls from handed.parts .calls (by decide)]
    rfl
  have seconds : s.restartQuiet.seconds = s.seconds := ((restartQuiet_after s).parts .clock (by decide)).1
  rw [circuit, call, (restartCalled_called s).circuit c hc, (restartCalled_called s).call c, restartQuiet_circuit s hc,
    seconds]
  by_cases called : c ∈ s.demand.circuits <;> simp [called]

theorem warmRestart_unplayed (none_ : s.demand.channels = [] ∨ s.plan.geometry.evacScript = none) :
    s.warmRestart.speech.evac =
      ⟨if s.demand.channels = [] then .inactive else .unscripted, s.demand.channels, s.demand.context, none⟩ ∧
    SpeechRests s.warmRestart ∧ ∀ ch, s.warmRestart.channel ch = (s.channel ch).restarted := by
  rw [← restartCalled_plan s] at none_
  obtain ⟨evac, rests, channel⟩ :=
    evacDemand_unplayed (restartCalled_rests s) (restartCalled_inactive s) s.demand.context none_
  rw [warmRestart_eq]
  exact ⟨evac, rests, fun ch => (channel ch).trans (restartCalled_channel s ch)⟩

section
variable {s} {k : Nat} (some_ : s.demand.channels ≠ []) (script : s.plan.geometry.evacScript = some k)
include some_ script

theorem warmRestart_outside : s.warmRestart.speech.evac.channels = s.demand.channels ∧
    s.warmRestart.speech.evac.context = s.demand.context ∧
    ∀ ch, ch ∉ s.demand.channels → s.warmRestart.channel ch = (s.channel ch).restarted := by
  rw [← restartCalled_plan s] at script
  obtain ⟨channels, context, outside⟩ := evacDemand_outside (restartCalled_rests s) (restartCalled_inactive s)
    (demand_channels_nodup s) (fun ch => demand_channels_lt s) some_ script
  rw [warmRestart_eq]
  exact ⟨channels, context, fun ch absent => (outside ch absent).trans (restartCalled_channel s ch)⟩

theorem warmRestart_warms (awaited : ∃ ch ∈ s.demand.channels, s.readyInput ch = false) :
    s.warmRestart.speech.evac = ⟨.playing, s.demand.channels, s.demand.context, none⟩ ∧
    (s.warmRestart.player .a).phase = .warming ∧
    (s.warmRestart.player .a).request = some (evacEntry k s.demand s.seconds) ∧
    (s.warmRestart.player .b).phase = .idle ∧
    ∀ ch ∈ s.demand.channels, s.warmRestart.channel ch = .taken .a (s.readyInput ch) := by
  rw [← restartCalled_plan s] at script
  simp only [← restartCalled_ready s] at awaited ⊢
  rw [warmRestart_eq, ← (restartCalled_stands s).seconds]
  exact evacDemand_warms (restartCalled_rests s) (restartCalled_inactive s) (demand_channels_nodup s)
    (fun ch => demand_channels_lt s) some_ script awaited

theorem warmRestart_plays {it : Item} (ready : ∀ ch ∈ s.demand.channels, s.readyInput ch = true)
    (first : (s.plan.script k).items[0]? = some it) (timed : it.timed.isSome = true) :
    s.warmRestart.speech.evac = ⟨.playing, s.demand.channels, s.demand.context, none⟩ ∧
    (s.warmRestart.player .a).phase = .playing ∧
    (s.warmRestart.player .a).request = some (evacEntry k s.demand s.seconds) ∧
    (s.warmRestart.player .a).item = some 0 ∧ (s.warmRestart.player .a).itemTimer = some 0 ∧
    (s.warmRestart.player .b).phase = .idle ∧
    ∀ ch ∈ s.demand.channels, s.warmRestart.channel ch = ⟨true, some .a, some .ready, none, some .a, none⟩ := by
  rw [← restartCalled_plan s] at script first
  simp only [← restartCalled_ready s] at ready
  rw [warmRestart_eq, ← (restartCalled_stands s).seconds]
  exact evacDemand_plays (restartCalled_rests s) (restartCalled_inactive s) (demand_channels_nodup s)
    (fun ch => demand_channels_lt s) some_ script ready first timed

end

/-- The entry takes the standing set and context zone, and no channel outside it but those freed changes. -/
theorem warmRestart_set : s.warmRestart.speech.evac.channels = s.demand.channels ∧
    s.warmRestart.speech.evac.context = s.demand.context ∧
    ∀ ch, ch ∉ s.demand.channels ∨ s.plan.geometry.evacScript = none →
      s.warmRestart.channel ch = (s.channel ch).restarted := by
  by_cases none_ : s.demand.channels = [] ∨ s.plan.geometry.evacScript = none
  · obtain ⟨evac, _, channel⟩ := warmRestart_unplayed s none_
    rw [evac]
    exact ⟨rfl, rfl, fun ch _ => channel ch⟩
  · obtain ⟨some_, scripted⟩ := not_or.mp none_
    obtain ⟨k, script⟩ := Option.ne_none_iff_exists'.mp scripted
    obtain ⟨channels, context, outside⟩ := warmRestart_outside some_ script
    exact ⟨channels, context, fun ch absent => outside ch (absent.resolve_right scripted)⟩

end

theorem execWarmRestart_restarts {s : State} (on : s.power = .on) (restart : s.live.restart = true)
    (c : s.live.portC.replyPending = false) (f : s.live.portF.replyPending = false) :
    exec .warmRestart s = .next { s with live := s.live.warmRestart } := by
  refine (onLive_of_on on _).trans ?_
  rw [if_pos (by simp [restart, c, f])]

theorem execUnitRestart_done {s : State} (taken : s.canTake .c .unitRestart) : exec (.unitRestart .c (.fits ())) s =
    .next (({ s with live := { s.live.closeCursor with restart := true } } : State).served .c .unitRestart .done .none) :=
  breakingRequest_answered (l := { s.live.closeCursor with restart := true }) taken nofun rfl

/-- Settles O32. -/
theorem unitRestartThenWarmRestart : Obligations.UnitRestartThenWarmRestart := by
  intro s
  refine ⟨execUnitRestart_done, fun on restart c f => ?_⟩
  have after := warmRestart_after s.live
  obtain ⟨seconds, cause, _, ends, _⟩ := after.parts .clock (by decide)
  obtain ⟨drive, chainState, stop, deferred, sweep, carried, step⟩ := warmRestart_chainRests s.live
  have closing := warmRestart_closing s.live
  have zones : s.live.warmRestart.zones = s.live.zones := after.parts .zones (by decide)
  have store : s.live.warmRestart.store = { s.live.store with pending := s.live.store.active, cursor := .closed } :=
    after.parts .store (by decide)
  have fireCalls : ∀ r ∈ s.live.warmRestart.calls, ∃ c ∈ s.live.demand.circuits, r.key = .fire c := fun r hr => by
    rw [warmRestart_calls] at hr
    obtain ⟨c, called, rfl⟩ := List.mem_map.mp hr
    exact ⟨c, called, rfl⟩
  have dark := fun p (_ : p < 64) => warmRestart_dark s.live (p := p)
  have circuits := fun c (hc : c < 16) => warmRestart_circuit s.live hc
  have demand := warmRestart_demand s.live
  obtain ⟨queue, tag⟩ := warmRestart_queue s.live
  obtain ⟨channels, context, outside⟩ := warmRestart_set s.live
  have unplayed := warmRestart_unplayed s.live
  have warms := fun k some_ script => warmRestart_warms (s := s.live) (k := k) some_ script
  have plays := fun k some_ script it => warmRestart_plays (s := s.live) (k := k) some_ script (it := it)
  have port := warmRestart_port s.live
  refine ⟨_, execWarmRestart_restarts on restart c f, ⟨rfl, rfl, rfl, rfl⟩, ?_⟩
  dsimp only
  generalize s.live.warmRestart = t at *
  exact ⟨ends, cause, seconds, drive, chainState, stop, deferred, sweep, carried, step, zones,
    congrArg Closing.state closing, congrArg Closing.closeInstant closing, store, fireCalls, queue, dark, circuits,
    ⟨demand, channels, context, tag, outside,
      fun none_ => ⟨(unplayed none_).1, fun pl => ⟨(unplayed none_).2.1.phase pl, (unplayed none_).2.1.request pl⟩⟩,
      fun k some_ script => ⟨warms k some_ script, plays k some_ script⟩⟩, port⟩

end Sys2Proof.Machine

/-! # The Chain Monitor under everything but the pulses

The count moves on a pulse, at an adoption and at a cold start; the ring takes an interval on a LINK pulse and is emptied
where the drive goes to BRAKE or leaves it. Every other operation keeps `MonitorStands`, whatever it does to the settle timer,
the answers at the sills and the wear counts of the shutters and the emergency stops. -/

namespace Sys2Proof.Machine

-- one thread: a proof that waits for the theorems before it would hold a thread of its own
set_option Elab.async false

/-- The count, the position and the wear of the chain's pulses stand; the ring stands with its speed, or is emptied. -/
structure MonitorStands (s t : Live) : Prop where
  count : t.monitor.count = s.monitor.count
  position : t.monitor.position = s.monitor.position
  watch : t.monitor.watchArmed = s.monitor.watchArmed
  error : t.monitor.lastError = s.monitor.lastError
  links : t.monitor.wear.links = s.monitor.wear.links
  index : t.monitor.wear.index = s.monitor.wear.index
  ring : t.monitor.ring = s.monitor.ring ∧ t.monitor.speed = s.monitor.speed ∨
    t.monitor.ring = [] ∧ t.monitor.speed = 0

theorem monitorStands_of_monitor {s t : Live} (h : t.monitor = s.monitor) : MonitorStands s t := by
  constructor <;> simp [h]

theorem monitorStands_refl (s : Live) : MonitorStands s s := monitorStands_of_monitor rfl

theorem MonitorStands.trans {s t u : Live} (h : MonitorStands s t) (g : MonitorStands t u) : MonitorStands s u where
  count := g.count.trans h.count
  position := g.position.trans h.position
  watch := g.watch.trans h.watch
  error := g.error.trans h.error
  links := g.links.trans h.links
  index := g.index.trans h.index
  ring := by
    rcases g.ring with ⟨ring, speed⟩ | emptied
    · rw [ring, speed]
      exact h.ring
    · exact .inr emptied

theorem monitorStands_composes : Composes MonitorStands := ⟨monitorStands_refl, MonitorStands.trans⟩

theorem onlyParts.monitorStands {ps : List Part} {s t : Live} (h : onlyParts ps s t) (hp : .monitor ∉ ps := by decide) :
    MonitorStands s t := monitorStands_of_monitor (h .monitor hp)

/-- An operation whose frame does not hold the Chain Monitor. -/
theorem Keeps.monitorStands {ps : List Part} {s t : Live} (h : Keeps ps s t) (hp : .monitor ∉ ps := by decide) :
    MonitorStands s t := h.parts.monitorStands hp

theorem MonitorStands.next {ps : List Part} {s t u : Live} (h : MonitorStands s t) (g : Keeps ps t u)
    (hp : .monitor ∉ ps := by decide) : MonitorStands s u := h.trans (g.monitorStands hp)

theorem MonitorStands.after {s t u : Live} (h : MonitorStands t u) (hs : t.monitor = s.monitor) : MonitorStands s u :=
  (monitorStands_of_monitor hs).trans h

theorem ShutterWear.monitorStands {s t : Live} (h : ShutterWear s t) : MonitorStands s t := by
  obtain ⟨w, monitor, links, index, -⟩ := h
  constructor <;> simp [monitor, links, index]

theorem monitorStands_ite {s t u : Live} {c : Prop} [Decidable c] (ht : MonitorStands s t) (hu : MonitorStands s u) :
    MonitorStands s (if c then t else u) := ChainRule.either ht hu

theorem raiseWear_emergency_monitorStands (s : Live) : MonitorStands s (s.raiseWear .emergency) := by
  have monitor := raiseWear_monitor s .emergency
  refine ⟨?_, ?_, ?_, ?_, ?_, ?_, .inl ⟨?_, ?_⟩⟩ <;> rw [monitor]
  all_goals
    dsimp only
    split <;> rfl

/-! ## The chain -/

theorem rejudgeSill_monitorStands (s : Live) (i : Nat) : MonitorStands s (s.rejudgeSill i) := by
  refine monitorStands_ite (monitorStands_refl s) ?_
  have answered : MonitorStands s
      { s with monitor := { s.monitor with answers := s.monitor.answers.put i (s.sillAnswer i) } } :=
    ⟨rfl, rfl, rfl, rfl, rfl, rfl, .inl ⟨rfl, rfl⟩⟩
  exact answered.trans ((judgeWhere_shutterWear _ _).monitorStands.after rfl)

theorem rejudge_monitorStands (s : Live) : MonitorStands s s.rejudge :=
  monitorStands_composes.foldl _ rejudgeSill_monitorStands _ s

theorem driveTo_monitorStands (s : Live) (d : DriveOutput) : MonitorStands s (s.driveTo d) := by
  have emptied : ∀ {m : ChainMonitor} {c : ChainDrive}, m = s.monitor.braked ∨ m = s.monitor.released →
      MonitorStands s { s with monitor := m, chain := c } := by
    rintro m c (rfl | rfl) <;> exact ⟨rfl, rfl, rfl, rfl, rfl, rfl, .inr ⟨rfl, rfl⟩⟩
  unfold Live.driveTo
  refine monitorStands_ite (monitorStands_refl s) (monitorStands_ite (emptied (.inl rfl)) (monitorStands_ite ?_ ?_))
  · exact (emptied (.inr rfl)).trans (rejudge_monitorStands _)
  · exact monitorStands_of_monitor rfl

theorem enterChain_monitorStands (s : Live) (st : ChainState) : MonitorStands s (s.enterChain st) :=
  (enterChain_shutterWear s st).monitorStands

theorem takeChainState_monitorStands (s : Live) : MonitorStands s s.takeChainState :=
  (takeChainState_shutterWear s).monitorStands

theorem setChain_monitorStands (s : Live) (st : ChainState) : MonitorStands s (s.setChain st) :=
  monitorStands_of_monitor (setChain_monitor s st)

theorem brakeStep_monitorStands (s : Live) : MonitorStands s s.brakeStep :=
  (driveTo_monitorStands s .brake).trans (monitorStands_of_monitor rfl)

theorem endSweep_monitor (s : Live) : s.endSweep.monitor = s.monitor := by
  unfold Live.endSweep
  split <;> rfl

theorem endSweep_monitorStands (s : Live) : MonitorStands s s.endSweep := monitorStands_of_monitor (endSweep_monitor s)

theorem placeStop_monitorStands (s : Live) (c : StopCause) : MonitorStands s (s.placeStop c) :=
  monitorStands_ite ((enterChain_monitorStands _ _).after rfl)
    (((driveTo_monitorStands _ .creep).trans (enterChain_monitorStands _ _)).after rfl)

theorem requestStop_monitorStands (s : Live) (c : StopCause) : MonitorStands s (s.requestStop c) :=
  (endSweep_monitorStands s).trans
    (monitorStands_ite (placeStop_monitorStands _ c)
      (monitorStands_ite (monitorStands_refl _) (monitorStands_of_monitor rfl)))

theorem placeDeferred_monitorStands (s : Live) : MonitorStands s s.placeDeferred := by
  unfold Live.placeDeferred
  split
  · exact monitorStands_ite ((endSweep_monitorStands s).trans (placeStop_monitorStands _ _)) (monitorStands_refl s)
  · exact monitorStands_refl s

theorem emergency_monitorStands (s : Live) (why : EmergencyReason) (i : Nat) (st : ChainState) :
    MonitorStands s (s.emergency why i st) := by
  unfold Live.emergency
  extract_lets left t c u
  have cleared : MonitorStands s u := (endSweep_monitorStands s).trans (monitorStands_of_monitor rfl)
  exact ((((cleared.trans (driveTo_monitorStands u .brake)).trans (setChain_monitorStands _ st)).trans
    (raiseWear_emergency_monitorStands _)).next (post_only _ _)).trans (takeChainState_monitorStands _)

theorem endWarning_monitorStands (s : Live) (st : ChainState) : MonitorStands s (s.endWarning st) :=
  (enterChain_monitorStands _ st).after rfl

theorem dropTo_monitorStands (s : Live) (st : ChainState) : MonitorStands s (s.dropTo st) :=
  (enterChain_monitorStands _ st).after rfl

theorem fireStop_monitorStands (s : Live) : MonitorStands s s.fireStop := by
  unfold Live.fireStop
  split
  case h_1 =>
    exact monitorStands_ite ((endSweep_monitorStands s).trans (placeStop_monitorStands _ _))
      (emergency_monitorStands s _ _ _)
  case h_3 => exact endWarning_monitorStands s _
  case h_4 => exact emergency_monitorStands s _ _ _
  case h_5 => exact dropTo_monitorStands s _
  case h_9 => exact monitorStands_refl s
  all_goals exact enterChain_monitorStands s _

theorem flapTrip_monitorStands (s : Live) (i : Nat) : MonitorStands s (s.flapTrip i) := by
  unfold Live.flapTrip
  split
  case h_4 | h_7 => exact dropTo_monitorStands s _
  case h_5 => exact endWarning_monitorStands s _
  case h_1 | h_2 | h_3 | h_6 => exact emergency_monitorStands s _ _ _
  all_goals exact monitorStands_refl s

theorem sillLeavesOpen_monitorStands (s : Live) (k : Nat) (b : Bool) : MonitorStands s (s.sillLeavesOpen k b) := by
  unfold Live.sillLeavesOpen
  split
  case h_5 => exact endWarning_monitorStands s _
  case h_1 | h_2 | h_3 | h_6 => exact emergency_monitorStands s _ _ _
  all_goals exact monitorStands_refl s

theorem flapChange_monitorStands (s : Live) (b x : Bool) : MonitorStands s (s.flapChange b x) :=
  monitorStands_ite ((flapTrip_monitorStands _ _).after rfl) (monitorStands_of_monitor rfl)

theorem slowChange_monitorStands (s : Live) (x : Bool) : MonitorStands s (s.slowChange x) := by
  unfold Live.slowChange
  dsimp only
  split
  case h_3 => exact monitorStands_of_monitor rfl
  all_goals exact (driveTo_monitorStands _ _).after rfl

theorem enterWarning_monitorStands (s : Live) (l : Option Nat) : MonitorStands s (s.enterWarning l) :=
  (enterChain_monitorStands _ .warning).after rfl

theorem startWarningEndStep_monitorStands (s : Live) : MonitorStands s (startWarningEndStep s) := by
  unfold startWarningEndStep
  refine monitorStands_ite ?_ (monitorStands_refl s)
  extract_lets loops t u v
  have run : MonitorStands s v :=
    ((driveTo_monitorStands u u.serviceDrive).trans (enterChain_monitorStands _ .running)).after rfl
  clear_value loops
  cases loops with
  | none => exact run
  | some n => exact run.trans (monitorStands_of_monitor rfl)

theorem stopChain_monitorStands (s : Live) : MonitorStands s s.stopChain := by
  unfold Live.stopChain
  split
  · exact monitorStands_ite (monitorStands_refl s) (requestStop_monitorStands s _)
  · exact endWarning_monitorStands s _
  · exact (brakeStep_monitorStands _).after rfl
  · exact monitorStands_refl s

theorem requestSweep_monitorStands (s : Live) : MonitorStands s s.requestSweep.1 := by
  unfold Live.requestSweep
  dsimp only
  split
  · split_ifs <;> exact monitorStands_of_monitor rfl
  · split_ifs
    · exact enterWarning_monitorStands s _
    · exact monitorStands_refl s
  · exact monitorStands_of_monitor rfl
  · exact monitorStands_refl s

theorem requestPark_monitorStands (s : Live) : MonitorStands s s.requestPark.1 := by
  unfold Live.requestPark
  split
  · split_ifs
    · exact monitorStands_refl s
    · exact requestStop_monitorStands s _
  · exact monitorStands_refl s
  · exact monitorStands_refl s

theorem clearSweep_monitorStands (s : Live) : MonitorStands s s.clearSweep := by
  unfold Live.clearSweep
  split
  · exact endSweep_monitorStands s
  · exact monitorStands_of_monitor rfl
  · exact monitorStands_refl s

theorem stopPulse_monitorStands (s : Live) (c : StopCause) (ph : StopPhase) (r : StopRecord) :
    MonitorStands s (s.stopPulse c ph r) := by
  have slows : ∀ (t : Live) (d : DriveOutput) (st : ChainState), MonitorStands t ((t.driveTo d).enterChain st) :=
    fun t d st => (driveTo_monitorStands t d).trans (enterChain_monitorStands _ st)
  exact (monitorStands_ite (slows _ _ _) (monitorStands_ite (slows _ _ _) (monitorStands_refl _))).after rfl

theorem drivePulse_monitorStands (s : Live) : MonitorStands s s.drivePulse := by
  unfold Live.drivePulse
  extract_lets c t
  have watched : MonitorStands s t := monitorStands_ite (monitorStands_refl s) (monitorStands_of_monitor rfl)
  refine watched.trans ?_
  clear_value t
  split
  · split
    · exact monitorStands_ite (requestStop_monitorStands t _) (monitorStands_of_monitor rfl)
    · exact monitorStands_refl t
  · split
    · exact monitorStands_of_monitor rfl
    · exact monitorStands_refl t
  · split
    · exact stopPulse_monitorStands t _ _ _
    · exact monitorStands_refl t
  · split
    · exact monitorStands_ite ((brakeStep_monitorStands _).after rfl) (monitorStands_of_monitor rfl)
    · exact monitorStands_refl t
  · exact monitorStands_refl t

theorem settleDrive_shutterWear (s : Live) : ShutterWear s s.settleDrive := by
  unfold Live.settleDrive
  split
  · refine (takeChainState_shutterWear _).after ?_
    exact ((postIf_only _ _ _).parts .monitor (by decide)).trans (setChain_monitor _ _)
  · exact (takeChainState_shutterWear _).after (setChain_monitor _ _)
  · exact shutterWear_composes.refl s

theorem judgeSills_shutterWear (s : Live) : ShutterWear s s.judgeSills := judgeWhere_shutterWear s _

theorem chainSettledStep_monitorStands (s : Live) : MonitorStands s (chainSettledStep s) := by
  refine monitorStands_ite ?_ (monitorStands_refl s)
  have settled : MonitorStands s { s with monitor := { s.monitor with settled := true, settleTimer := none } } :=
    ⟨rfl, rfl, rfl, rfl, rfl, rfl, .inl ⟨rfl, rfl⟩⟩
  exact ((settled.trans (rejudge_monitorStands _)).trans (settleDrive_shutterWear _).monitorStands).trans
    (judgeSills_shutterWear _).monitorStands

theorem stallStep_monitorStands (s : Live) : MonitorStands s (stallStep s) :=
  monitorStands_ite (emergency_monitorStands s _ _ _) (monitorStands_refl s)

/-! ## Shutters and the chain together -/

theorem judge_monitorStands (s : Live) (k : Nat) : MonitorStands s (s.judge k) := (judge_shutterWear s k).monitorStands

theorem edgeAsserted_monitorStands (s : Live) (k : Nat) : MonitorStands s (s.edgeAsserted k) :=
  monitorStands_ite (obstruct_shutterWear s k).monitorStands (monitorStands_refl s)

theorem pauseStep_monitorStands (k : Nat) (s : Live) : MonitorStands s (pauseStep k s) :=
  monitorStands_ite (enterDescending_shutterWear s k _).monitorStands (monitorStands_refl s)

theorem moveShutter_monitorStands (s : Live) (k : Nat) (r : ShutterRecord) (b : Bool) :
    MonitorStands s (s.moveShutter k r b) :=
  have changed := (changeShutter_only s k r).monitorStands
  monitorStands_ite (changed.trans (sillLeavesOpen_monitorStands _ k b)) changed

theorem closeByState_monitorStands (s : Live) (k : Nat) (c : CloseCause) : MonitorStands s (s.closeByState k c) := by
  have arm : MonitorStands s (s.arm k c) :=
    monitorStands_ite ((moveShutter_monitorStands s k _ _).trans (judge_monitorStands _ k))
      (moveShutter_monitorStands s k _ _)
  unfold Live.closeByState
  split
  case h_10 => exact monitorStands_refl s
  case h_1 | h_2 | h_3 | h_4 | h_5 => exact arm
  all_goals exact monitorStands_ite (changeShutter_only s k _).monitorStands (monitorStands_refl s)

theorem closeRequest_monitorStands (s : Live) (k : Nat) (c : CloseCause) : MonitorStands s (s.closeRequest k c) :=
  monitorStands_ite (monitorStands_refl s) (closeByState_monitorStands s k c)

theorem limitByState_monitorStands (s : Live) (k : Nat) (l : Limit) : MonitorStands s (s.limitByState k l) := by
  unfold Live.limitByState
  dsimp only
  split
  case h_1 | h_2 => exact monitorStands_ite (monitorStands_refl s) (moveShutter_monitorStands s k _ _)
  case h_3 => exact monitorStands_ite (moveShutter_monitorStands s k _ _) (monitorStands_refl s)
  case h_4 => exact monitorStands_ite (closeAtLimit_shutterWear s k).monitorStands (monitorStands_refl s)
  case h_5 | h_6 => exact monitorStands_ite (changeShutter_only s k _).monitorStands (monitorStands_refl s)
  all_goals exact monitorStands_refl s

theorem limitChange_monitorStands (s : Live) (k : Nat) (l : Limit) : MonitorStands s (s.limitChange k l) :=
  monitorStands_ite (monitorStands_refl s)
    (monitorStands_ite (moveShutter_monitorStands s k _ _) (limitByState_monitorStands s k l))

theorem shutterModuleLost_monitorStands (s : Live) (k : Nat) : MonitorStands s (s.shutterModuleLost k) :=
  monitorStands_ite (moveShutter_monitorStands s k _ _) (monitorStands_refl s)

theorem raiseShutter_monitorStands (s : Live) (k : Nat) : MonitorStands s (s.raiseShutter k) :=
  monitorStands_ite (moveShutter_monitorStands s k _ _) (moveShutter_monitorStands s k _ _)

/-! ## The Closing Sequencer and the Zone Monitor -/

theorem executeStep_monitorStands (s : Live) (i close : Nat) : MonitorStands s (s.executeStep i close).1 := by
  have bell : ∀ (cs : List Nat) (a : Live × Nat), MonitorStands a.1
      (cs.foldl (fun a c => ((a.1.programmeCall i c).1, if (a.1.programmeCall i c).2 then a.2 + 1 else a.2)) a).1 := by
    intro cs
    induction cs with
    | nil => exact fun a => monitorStands_refl _
    | cons c rest ih =>
      exact fun a => (programmeCall_only a.1 i c).monitorStands.trans
        (ih ((a.1.programmeCall i c).1, if (a.1.programmeCall i c).2 then a.2 + 1 else a.2))
  unfold Live.executeStep
  dsimp only
  split
  · exact (enterQueue_only s _).monitorStands
  · exact bell _ (s, 0)
  · exact requestSweep_monitorStands s
  · exact requestPark_monitorStands s
  · exact monitorStands_composes.foldl _ (fun t k => closeRequest_monitorStands t k _) _ s
  · exact monitorStands_composes.foldl _ (fun t c => (setMask_only t c _).monitorStands) _ s

theorem takeStep_monitorStands (s : Live) (i close : Nat) (b : Bool) : MonitorStands s (s.takeStep i close b).1 := by
  unfold Live.takeStep
  split
  · exact monitorStands_refl s
  · exact executeStep_monitorStands s i close

theorem markStep_monitorStands (s : Live) (i : Nat) (t : Taken) : MonitorStands s (s.markStep i t) := by
  cases t <;> exact monitorStands_of_monitor rfl

theorem takeDue_monitorStands (b : Bool) (fuel : Nat) (s : Live) : MonitorStands s (s.takeDue b fuel) := by
  induction fuel generalizing s with
  | zero => exact monitorStands_refl s
  | succ n ih =>
    unfold Live.takeDue
    split
    · exact monitorStands_ite
        (((takeStep_monitorStands s _ _ _).trans (markStep_monitorStands _ _ _)).trans (ih _)) (monitorStands_refl s)
    · exact monitorStands_of_monitor rfl
    · exact monitorStands_refl s

theorem withClosing_monitorStands (s : Live) (c : Closing) : MonitorStands s (s.withClosing c) :=
  monitorStands_of_monitor rfl

theorem suspendClosing_monitorStands (s : Live) : MonitorStands s s.suspendClosing := by
  unfold Live.suspendClosing
  split
  · exact (((withClosing_monitorStands s _).next (withdrawCalls_only _)).next (withdrawSpeech_only _)).next
      (post_only _ _)
  all_goals exact monitorStands_refl s

theorem issue_monitorStands (s : Live) (z : Nat) : MonitorStands s (s.issue z) :=
  have closed := monitorStands_composes.foldl (fun t k => Live.closeRequest t k .fire)
    (fun t k => closeRequest_monitorStands t k .fire) (s.plan.contribution z) s
  monitorStands_ite (closed.trans (fireStop_monitorStands _)) closed

theorem handAlarm_monitorStands (s : Live) (d : Demand) (z : Nat) (b : Bool) : MonitorStands s (s.handAlarm d z b) := by
  unfold Live.handAlarm
  extract_lets g t u v
  have issued : MonitorStands s u := (issue_monitorStands t z).after rfl
  have suspended : MonitorStands s v := monitorStands_ite (issued.trans (suspendClosing_monitorStands u)) issued
  exact (suspended.next (handCircuits_only _ _)).next (handSpeech_only _ _)

theorem handDemand_monitorStands (s : Live) (d : Demand) : MonitorStands s (s.handDemand d) :=
  have handed : MonitorStands s (({ s with gear := { s.gear with fireSet := s.demand.shutters } } : Live).handCircuits
      d.circuits) := (handCircuits_only _ _).monitorStands.after rfl
  handed.next (handSpeech_only _ d)

theorem setZone_monitorStands (s : Live) (z : Nat) (r : ZoneRecord) : MonitorStands s (s.setZone z r) :=
  monitorStands_of_monitor rfl

theorem latch_monitorStands (s : Live) (z d : Nat) : MonitorStands s (s.latch z d) :=
  (handAlarm_monitorStands _ _ z true).after rfl

theorem resound_monitorStands (s : Live) (z d : Nat) : MonitorStands s (s.resound z d) :=
  monitorStands_ite ((handAlarm_monitorStands _ _ z false).after rfl) (monitorStands_of_monitor rfl)

theorem takeLine_monitorStands (s : Live) (z : Nat) : MonitorStands s (s.takeLine z) :=
  monitorStands_ite (monitorStands_refl s) (setZone_monitorStands s z _)

theorem detectorChange_monitorStands (s : Live) (d : Nat) : MonitorStands s (s.detectorChange d) := by
  unfold Live.detectorChange
  split
  · exact monitorStands_refl s
  · split
    case h_4 => exact monitorStands_refl s
    case h_3 => exact monitorStands_ite (resound_monitorStands s _ _) (monitorStands_refl s)
    all_goals exact monitorStands_ite (latch_monitorStands s _ _) (takeLine_monitorStands s _)

theorem latchAlarmed_monitorStands (s : Live) : MonitorStands s s.latchAlarmed := by
  refine monitorStands_composes.foldl _ (fun t z => ?_) _ s
  split
  · exact monitorStands_ite (monitorStands_refl t) (latch_monitorStands t z _)
  · exact monitorStands_refl t

/-! ## The scan -/

/-- A change of the field loop's own record. -/
theorem loop_monitorStands (s : Live) (l : FieldLoop) : MonitorStands s { s with loop := l } :=
  monitorStands_of_monitor rfl

theorem sampleDetector_monitorStands (d : Nat) (x : LineState) (s : Live) : MonitorStands s (sampleDetector d x s) :=
  monitorStands_ite (loop_monitorStands s _) ((detectorChange_monitorStands _ d).after rfl)

theorem debouncePush_monitorStands (p : Nat) (x : PushState) (s : Live) : MonitorStands s (debouncePush p x s) :=
  monitorStands_ite (loop_monitorStands s _) ((pushChange_only _ p _ _).monitorStands.after rfl)

theorem firstAfterBlanking_monitorStands (p : Nat) (x : PushState) (s : Live) :
    MonitorStands s (firstAfterBlanking p x s) :=
  monitorStands_ite ((pushChange_only _ p _ _).monitorStands.after rfl) (debouncePush_monitorStands p x s)

theorem samplePush_monitorStands (p : Nat) (b : Option Nat) (x : PushState) (s : Live) :
    MonitorStands s (samplePush p b x s) := by
  unfold samplePush
  split
  · exact debouncePush_monitorStands p x s
  · exact firstAfterBlanking_monitorStands p x s
  · exact monitorStands_refl s

theorem sampleUp_monitorStands (k : Nat) (x : Bool) (s : Live) : MonitorStands s (sampleUp k x s) :=
  monitorStands_ite (loop_monitorStands s _) ((limitChange_monitorStands _ k .up).after rfl)

theorem sampleDown_monitorStands (k : Nat) (x : Bool) (s : Live) : MonitorStands s (sampleDown k x s) :=
  monitorStands_ite (loop_monitorStands s _) ((limitChange_monitorStands _ k .down).after rfl)

theorem sampleEdge_monitorStands (k : Nat) (x : Bool) (s : Live) : MonitorStands s (sampleEdge k x s) :=
  monitorStands_ite ((edgeAsserted_monitorStands _ k).after rfl) (loop_monitorStands s _)

theorem sampleGear_monitorStands (k : Nat) (b : Bool) (x : ShutterSample) (s : Live) :
    MonitorStands s (sampleGear k b x s) :=
  have limits := (sampleUp_monitorStands k x.up s).trans (sampleDown_monitorStands k x.down _)
  monitorStands_ite limits (limits.trans (sampleEdge_monitorStands k x.edge _))

theorem sampleReady_monitorStands (ch : Nat) (x : Bool) (s : Live) : MonitorStands s (sampleReady ch x s) :=
  monitorStands_ite (loop_monitorStands s _) ((readyChange_only _ ch _).monitorStands.after rfl)

theorem eachPoint_monitorStands {α : Type} (f : Nat → α → Live → Live) (h : ∀ i x s, MonitorStands s (f i x s)) (n : Nat)
    (l : List α) (s : Live) : MonitorStands s (eachPoint f n l s) := by
  induction l generalizing n s with
  | nil => exact monitorStands_refl s
  | cons x rest ih => exact (h n x s).trans (ih _ _)

theorem takeReply_monitorStands (s : Live) (first : Nat) (r : ModuleReply) : MonitorStands s (s.takeReply first r) := by
  cases r with
  | detector xs => exact eachPoint_monitorStands _ (fun i x s => sampleDetector_monitorStands _ x s) 0 xs s
  | call xs =>
    exact (eachPoint_monitorStands _ (fun _ _ s => loop_monitorStands s _) 0 xs s).trans
      (eachPoint_monitorStands _ (fun i (x : Option Nat × PushState) s => samplePush_monitorStands _ x.1 x.2 s) 0 _ _)
  | shutter xs =>
    exact (eachPoint_monitorStands _ (fun _ _ s => loop_monitorStands s _) 0 xs s).trans
      (eachPoint_monitorStands _ (fun i (x : Bool × ShutterSample) s => sampleGear_monitorStands _ x.1 x.2 s) 0 _ _)
  | audio xs => exact eachPoint_monitorStands _ (fun i x s => sampleReady_monitorStands _ x s) 0 xs s
  | bell | other code => exact monitorStands_refl s

theorem losePoint_monitorStands (s : Live) (k : ModuleKind) (i : Nat) : MonitorStands s (s.losePoint k i) := by
  cases k with
  | detector => exact monitorStands_ite (loop_monitorStands s _) ((detectorChange_monitorStands _ i).after rfl)
  | shutter => exact (shutterModuleLost_monitorStands _ i).after rfl
  | call | audio | bell | other code => exact monitorStands_of_monitor rfl

theorem missReply_monitorStands (s : Live) (pos : Nat) (m : ModuleRecord) : MonitorStands s (s.missReply pos m) := by
  have pass : MonitorStands s (s.passBlanking m) := by
    unfold Live.passBlanking
    split
    · exact monitorStands_composes.foldl _ (fun t p => loop_monitorStands t _) _ s
    · exact monitorStands_composes.foldl _ (fun t p => loop_monitorStands t _) _ s
    · exact monitorStands_refl s
  have lose : ∀ t : Live, MonitorStands t (t.loseModule pos m) := fun t =>
    (monitorStands_composes.foldl _ (fun u i => losePoint_monitorStands u _ i) _ _).after rfl
  exact monitorStands_ite (monitorStands_ite (pass.trans (lose _)) (pass.trans (loop_monitorStands _ _))) pass

theorem heedReply_monitorStands (s : Live) (pos : Nat) (m : ModuleRecord) (r : ModuleReply) :
    MonitorStands s (s.heedReply pos m r) := by
  unfold Live.heedReply
  extract_lets t
  have found : MonitorStands s t := (loop_monitorStands s _).next (postIf_only _ _ _)
  split
  · exact found.trans (takeReply_monitorStands _ _ _)
  · exact found

theorem scanModule_monitorStands (s : Live) (pos : Nat) (r : Option ModuleReply) :
    MonitorStands s (s.scanModule pos r) := by
  unfold Live.scanModule
  dsimp only
  split
  · exact monitorStands_refl s
  · split
    · exact (missReply_monitorStands _ pos _).after rfl
    · exact (heedReply_monitorStands _ pos _ _).after rfl

theorem scanPins_monitorStands (s : Live) (p : PinSample) : MonitorStands s (s.scanPins p) := by
  have flap : ∀ (b x : Bool) (t : Live), MonitorStands t (sampleFlap b x t) := fun b x t =>
    monitorStands_ite (loop_monitorStands t _) ((flapChange_monitorStands _ _ _).after rfl)
  have slow : ∀ (x : Bool) (t : Live), MonitorStands t (sampleSlow x t) := fun x t =>
    monitorStands_ite (loop_monitorStands t _) ((slowChange_monitorStands _ _).after rfl)
  exact ((flap false p.flapTop s).trans (flap true p.flapBottom _)).trans (slow p.slow _)

theorem scanStep_monitorStands (m : List Host.Cell) (i : ScanInput) (s : Live) : MonitorStands s (scanStep m i s) := by
  have passed : MonitorStands s (s.advance m) := ⟨rfl, rfl, rfl, rfl, rfl, rfl, .inl ⟨rfl, rfl⟩⟩
  exact (passed.trans (monitorStands_composes.foldl _ (fun t pos => scanModule_monitorStands t pos _) _ _)).trans
    (scanPins_monitorStands _ _)

theorem pushBlankingEndStep_monitorStands (p : Nat) (x : PushState) (s : Live) :
    MonitorStands s (pushBlankingEndStep p x s) :=
  monitorStands_ite ((firstAfterBlanking_monitorStands p x _).after rfl) (monitorStands_refl s)

theorem edgeBlankingEndStep_monitorStands (k : Nat) (x : Bool) (s : Live) :
    MonitorStands s (edgeBlankingEndStep k x s) :=
  monitorStands_ite ((sampleEdge_monitorStands k x _).after rfl) (monitorStands_refl s)

/-! ## The restart -/

theorem restartChain_monitorStands (s : Live) : MonitorStands s s.restartChain := by
  unfold Live.restartChain
  extract_lets moving holds c t u
  have braked : MonitorStands s u :=
    (monitorStands_ite ((driveTo_monitorStands t .brake).trans (raiseWear_emergency_monitorStands _))
      (monitorStands_refl t)).after rfl
  exact monitorStands_ite (braked.trans (enterChain_monitorStands u _)) braked

theorem rehand_monitorStands (s : Live) : MonitorStands s s.rehand := by
  unfold Live.rehand
  extract_lets d
  exact (keeps_foldl _ fireCallEnter_only _ s).monitorStands.next (evacDemand_only _ _ _)

theorem warmRestart_monitorStands (s : Live) : MonitorStands s s.warmRestart := by
  unfold Live.warmRestart
  extract_lets fresh started store reverted restarted
  have restart : MonitorStands reverted restarted :=
    (((restartChain_monitorStands reverted).next (emptyCalls_only _)).next (resetCircuits_only _)).next
      (restartSpeech_only _)
  exact ((restart.trans (withClosing_monitorStands _ _)).trans (rehand_monitorStands _)).after rfl

end Sys2Proof.Machine

/-! # The count and the ring under every command

A handler keeps `MonitorStands`; WEAR READ with the clear option resets the wear of the pulses too, so the commands are followed
for the count and the ring alone. -/

namespace Sys2Proof.Machine

-- one thread: a proof that waits for the theorems before it would hold a thread of its own
set_option Elab.async false

/-! ## The handlers of the requests -/

theorem free_monitorStands (s : Live) (n : Nat) : MonitorStands s { s with free := n } := monitorStands_of_monitor rfl

section
variable {h : Live → Handled} (hh : ∀ s, MonitorStands s (h s).1)
include hh

theorem onZone_monitorStands (z : Nat) (s : Live) : MonitorStands s (onZone z h s).1 := by
  unfold onZone
  split_ifs
  · exact monitorStands_refl s
  · exact hh s
  · exact monitorStands_refl s

theorem onShutter_monitorStands (k : Nat) (s : Live) : MonitorStands s (onShutter k h s).1 := by
  unfold onShutter
  split_ifs
  · exact monitorStands_refl s
  · exact hh s
  · exact monitorStands_refl s

theorem onRowCode_monitorStands (code : RowCode) (s : Live) : MonitorStands s (onRowCode h code s).1 := by
  cases code with
  | named => exact hh s
  | unnamed => exact monitorStands_refl s

end

theorem zoneIsolate_monitorStands (z : Nat) (s : Live) : MonitorStands s (zoneIsolate z s).1 := by
  unfold zoneIsolate
  split
  case h_1 | h_2 => exact setZone_monitorStands s z _
  all_goals exact monitorStands_refl s

theorem zoneRestore_monitorStands (z : Nat) (s : Live) : MonitorStands s (zoneRestore z s).1 := by
  have restored : MonitorStands s (s.restoreZone z) := by
    unfold Live.restoreZone
    split
    · exact latch_monitorStands s z _
    · exact setZone_monitorStands s z _
  unfold zoneRestore
  split
  · exact restored
  all_goals exact monitorStands_refl s

theorem zoneSilence_monitorStands (z : Nat) (s : Live) : MonitorStands s (zoneSilence z s).1 := by
  unfold zoneSilence
  split
  · exact monitorStands_ite (monitorStands_refl s) ((handDemand_monitorStands _ _).after rfl)
  all_goals exact monitorStands_refl s

theorem zoneReset_monitorStands (z : Nat) (s : Live) : MonitorStands s (zoneReset z s).1 := by
  unfold zoneReset
  split
  · split
    · exact monitorStands_refl s
    · exact (handDemand_monitorStands _ _).after rfl
  all_goals exact monitorStands_refl s

theorem shutterLower_monitorStands (k : Nat) (s : Live) : MonitorStands s (shutterLower k s).1 := by
  unfold shutterLower
  split
  · exact free_monitorStands s _
  · exact closeByState_monitorStands s k _

theorem shutterRaise_monitorStands (k : Nat) (s : Live) : MonitorStands s (shutterRaise k s).1 := by
  unfold shutterRaise
  split_ifs
  case neg => exact raiseShutter_monitorStands s k
  all_goals exact free_monitorStands s _

theorem shutterHalt_monitorStands (k : Nat) (s : Live) : MonitorStands s (shutterHalt k s).1 := by
  have halted : MonitorStands s (s.haltShutter k) := (haltShutter_only s k).monitorStands
  unfold shutterHalt
  split
  case h_5 => exact halted
  case h_6 => exact monitorStands_refl s
  case h_1 | h_2 | h_3 | h_4 =>
    split
    · exact free_monitorStands s _
    · exact halted
  all_goals exact free_monitorStands s _

theorem chainStart_monitorStands (s : Live) : MonitorStands s (chainStart s).1 := by
  unfold chainStart
  split
  · split
    · exact monitorStands_refl s
    · exact enterWarning_monitorStands s none
  · exact monitorStands_refl s

theorem inspectOn_monitorStands (s : Live) : MonitorStands s (inspectOn s).1 := by
  unfold inspectOn
  split
  · split
    · exact monitorStands_refl s
    · exact enterChain_monitorStands s _
  · exact monitorStands_refl s

theorem inspectOff_monitorStands (s : Live) : MonitorStands s (inspectOff s).1 := by
  unfold inspectOff
  split
  · exact enterChain_monitorStands s _
  all_goals exact monitorStands_refl s

theorem chainStep_monitorStands (n : Nat) (s : Live) : MonitorStands s (chainStep n s).1 := by
  unfold chainStep
  split_ifs
  · exact monitorStands_refl s
  · split
    · exact monitorStands_refl s
    · exact ((driveTo_monitorStands _ .creep).trans (enterChain_monitorStands _ _)).after rfl
  · exact monitorStands_refl s

theorem callPlace_monitorStands (f : CallPlaceFields) (s : Live) : MonitorStands s (callPlace f s).1 := by
  unfold callPlace
  split_ifs
  · exact monitorStands_refl s
  · exact monitorStands_refl s
  · split
    · exact (replacePlaced_only s _ f).monitorStands
    · dsimp only
      split_ifs <;> exact (join_only s _).monitorStands

theorem callClear_monitorStands (f : Option CallKey) (s : Live) : MonitorStands s (callClear f s).1 := by
  unfold callClear
  split
  · exact monitorStands_refl s
  · split_ifs
    · exact monitorStands_refl s
    · split
      · exact monitorStands_refl s
      · split_ifs
        · exact free_monitorStands s _
        · exact (removeCall_only s _ _).monitorStands

theorem callMask_monitorStands (f : CallMaskFields) (s : Live) : MonitorStands s (callMask f s).1 := by
  unfold callMask
  split_ifs
  · exact monitorStands_refl s
  · exact (setMask_only s _ _).monitorStands
  · exact monitorStands_refl s

theorem speak_monitorStands (p : Port) (f : SpeakFields) (s : Live) : MonitorStands s (speak p f s).1 := by
  unfold speak
  split_ifs
  case neg =>
    extract_lets r e
    have entered : MonitorStands s e.1 := (enterQueue_only s r).monitorStands
    split <;> exact entered
  all_goals exact monitorStands_refl s

theorem speakCancel_monitorStands (p : Port) (tag : Nat) (s : Live) : MonitorStands s (speakCancel p tag s).1 := by
  unfold speakCancel
  split_ifs
  · exact monitorStands_refl s
  · exact free_monitorStands s _
  · split
    · split_ifs
      · exact monitorStands_refl s
      · exact ((unqueue_only s tag).monitorStands.next (post_only _ _)).next (grants_only _)
    · split
      · split_ifs
        · exact monitorStands_refl s
        · exact (stopPlay_only s _ _).monitorStands.next (grants_only _)
      · exact monitorStands_refl s

theorem closingBegin_monitorStands (n : Nat) (s : Live) : MonitorStands s (closingBegin n s).1 := by
  unfold closingBegin
  extract_lets marks
  split_ifs
  · exact monitorStands_refl s
  · exact monitorStands_refl s
  · exact free_monitorStands s _
  · split
    · exact monitorStands_refl s
    · exact (takeDue_monitorStands _ _ _).after rfl

theorem closingPostpone_monitorStands (n : Nat) (s : Live) : MonitorStands s (closingPostpone n s).1 := by
  unfold closingPostpone
  split_ifs
  · exact monitorStands_refl s
  · split
    · split <;> exact monitorStands_of_monitor rfl
    · exact free_monitorStands s _

theorem closingAbort_monitorStands (s : Live) : MonitorStands s (closingAbort s).1 := by
  unfold closingAbort
  split
  · exact free_monitorStands s _
  all_goals
    exact ((((withClosing_monitorStands s _).next (withdrawCalls_only _)).next (withdrawSpeech_only _)).trans
      (clearSweep_monitorStands _)).next (postProgramme_only _ _)

theorem closingResume_monitorStands (s : Live) : MonitorStands s (closingResume s).1 := by
  unfold closingResume
  split
  · split
    · exact monitorStands_refl s
    · exact (takeDue_monitorStands _ _ _).after rfl
  all_goals exact free_monitorStands s _

theorem withPort_monitorStands (s : Live) (p : Port) (r : PortRecord) : MonitorStands s (s.withPort p r) :=
  monitorStands_of_monitor (s.withPort_monitor p r)

theorem noticeFetch_monitorStands (p : Port) (s : Live) : MonitorStands s (noticeFetch p s).1 := by
  unfold noticeFetch
  dsimp only
  split
  · exact monitorStands_refl s
  · exact withPort_monitorStands s p _

/-- A change of the plan store's own record. -/
theorem store_monitorStands (s : Live) (x : PlanStore) : MonitorStands s { s with store := x } :=
  monitorStands_of_monitor rfl

theorem planOpen_monitorStands (f : PlanOpenFields) (s : Live) : MonitorStands s (planOpen f s).1 := by
  unfold planOpen
  split
  · exact monitorStands_refl s
  · split <;> exact monitorStands_of_monitor rfl

theorem planEntry_monitorStands (f : EntryFrame) (s : Live) : MonitorStands s (planEntry f s).1 := by
  unfold planEntry
  split
  · split
    · exact monitorStands_refl s
    · split <;> exact monitorStands_of_monitor rfl
  · exact monitorStands_refl s

theorem sampleOpen_monitorStands (ph : Nat) (s : Live) : MonitorStands s (sampleOpen ph s).1 := by
  unfold sampleOpen
  split
  · exact monitorStands_refl s
  · extract_lets e
    split <;> exact monitorStands_of_monitor rfl

theorem sampleData_monitorStands (bytes : List Byte) (s : Live) : MonitorStands s (sampleData bytes s).1 := by
  unfold sampleData
  split
  · split <;> exact monitorStands_of_monitor rfl
  · exact free_monitorStands s _

/-! ## The count and the ring -/

/-- The count stands; the ring stands with its speed, or is emptied. -/
structure RollStands (s t : Live) : Prop where
  count : t.monitor.count = s.monitor.count
  ring : t.monitor.ring = s.monitor.ring ∧ t.monitor.speed = s.monitor.speed ∨
    t.monitor.ring = [] ∧ t.monitor.speed = 0

theorem MonitorStands.roll {s t : Live} (h : MonitorStands s t) : RollStands s t := ⟨h.count, h.ring⟩

theorem rollStands_refl (s : Live) : RollStands s s := (monitorStands_refl s).roll

theorem RollStands.trans {s t u : Live} (h : RollStands s t) (g : RollStands t u) : RollStands s u where
  count := g.count.trans h.count
  ring := by
    rcases g.ring with ⟨ring, speed⟩ | emptied
    · rw [ring, speed]
      exact h.ring
    · exact .inr emptied

theorem wearReadClear_rollStands (p : Port) (s : Live) : RollStands s (wearReadClear p s).1 := by
  unfold wearReadClear
  split
  · exact rollStands_refl s
  · exact ⟨rfl, .inl ⟨rfl, rfl⟩⟩

/-! ## Taking a request -/

theorem breakLoad_monitorStands (s : Live) (p : Port) (b : Cursor → Bool) : MonitorStands s (s.breakLoad p b) :=
  monitorStands_ite (store_monitorStands s _) (monitorStands_refl s)

theorem takeRequest_rollStands (p : Port) (k : Kind) (b : Cursor → Bool) (fit : Bool) {h : Live → Handled}
    (hh : ∀ s, RollStands s (h s).1) (s : Live) : RollStands s (takeRequest p k b fit h s) := by
  have reply : ∀ (t : Live) (r : PortRecord), RollStands t (t.withPort p r) := fun t r =>
    (withPort_monitorStands t p r).roll
  unfold takeRequest
  refine ChainRule.either ?_ (rollStands_refl s)
  extract_lets t
  have taken : RollStands s t := ((withPort_monitorStands s p _).trans (breakLoad_monitorStands _ p b)).roll
  refine taken.trans (ChainRule.either (reply _ _) (ChainRule.either (reply _ _) ?_))
  unfold Live.putHandled
  split
  · exact (hh t).trans (reply _ _)
  · exact hh t

section
variable {α : Type} {h : α → Live → Handled}

theorem onBody_rollStands (body : Body α) (hh : ∀ a s, RollStands s (h a s).1) (s : Live) :
    RollStands s (onBody body h s).1 := by
  cases body with
  | fits a => exact hh a s
  | misfit => exact rollStands_refl s

/-- A request that breaks a load, its handler keeping the Chain Monitor. -/
theorem breakingRequest_rollStands (p : Port) (k : Kind) (body : Body α) (hh : ∀ a s, MonitorStands s (h a s).1)
    (s : Live) : RollStands s (breakingRequest p k body h s) :=
  takeRequest_rollStands p k _ _ (onBody_rollStands body fun a s => (hh a s).roll) s

end

/-! ## Every command but the pulses, the adoption and the cold start -/

theorem whenOn_rollStands {s t : State} {out : Out} (hout : out = .next t → RollStands s.live t.live)
    (h : whenOn s out = .next t) : RollStands s.live t.live := by
  unfold whenOn at h
  split at h
  · exact hout h
  · cases h
    exact rollStands_refl _

theorem onLive_rollStands {s t : State} {f : Live → Live} (hf : ∀ l, RollStands l (f l)) (h : onLive s f = .next t) :
    RollStands s.live t.live :=
  whenOn_rollStands (fun hn => by cases hn; exact hf _) h

theorem onLive_monitorStands {s t : State} {f : Live → Live} (hf : ∀ l, MonitorStands l (f l))
    (h : onLive s f = .next t) : RollStands s.live t.live :=
  onLive_rollStands (fun l => (hf l).roll) h

/-- A row that does not touch the Chain Monitor. -/
theorem onLive_apart {ps : List Part} {s t : State} {f : Live → Live} (hf : ∀ l, Keeps ps l (f l))
    (h : onLive s f = .next t) (hp : .monitor ∉ ps := by decide) : RollStands s.live t.live :=
  onLive_monitorStands (fun l => (hf l).monitorStands hp) h

theorem cut_rollStands (s : State) (p : Power) (torn : Bool) : RollStands s.live (cut s p torn).live :=
  ⟨rfl, .inl ⟨rfl, rfl⟩⟩

theorem execPowerLoss_rollStands {s t : State} (torn : Bool) (h : execPowerLoss torn s = .next t) :
    RollStands s.live t.live := by
  unfold execPowerLoss at h
  split at h <;> cases h
  · exact rollStands_refl _
  · exact cut_rollStands s _ torn

theorem execScan_rollStands {s t : State} {i : ScanInput} (h : execScan i s = .next t) : RollStands s.live t.live :=
  whenOn_rollStands (fun hn => by
    split at hn <;> cases hn
    exact ((writeSamples_frame s i.bytesWritten).1.monitorStands.trans (scanStep_monitorStands _ i _)).roll) h

theorem sampleDoneReply_monitorStands (s : Live) : MonitorStands s (sampleDoneReply s) := by
  unfold sampleDoneReply
  split
  · exact (store_monitorStands s _).trans (withPort_monitorStands _ _ _)
  · exact monitorStands_refl s

theorem execSampleWriteDone_rollStands {s t : State} (h : execSampleWriteDone s = .next t) :
    RollStands s.live t.live :=
  whenOn_rollStands (fun hn => by
    split at hn
    · cases hn; exact rollStands_refl _
    · next bytes _ =>
      split at hn <;> cases hn
      exact ((writeSamples_frame s bytes.length).1.monitorStands.trans (sampleDoneReply_monitorStands _)).roll) h

theorem execWearWrite_rollStands {s t : State} (h : execWearWrite s = .next t) : RollStands s.live t.live :=
  whenOn_rollStands (fun hn => by
    split at hn <;> cases hn
    · exact ⟨rfl, .inl ⟨rfl, rfl⟩⟩
    · exact rollStands_refl _) h

theorem execPhraseEnd_rollStands {s t : State} (pl : Player) (h : execPhraseEnd pl s = .next t) :
    RollStands s.live t.live :=
  whenOn_rollStands (fun hn => by
    split at hn <;> cases hn
    exact (phraseEndStep_only _ pl _).monitorStands.roll) h

theorem execStoreWriteDone_rollStands {s t : State} (matched : Bool) (h : execStoreWriteDone matched s = .next t) :
    RollStands s.live t.live :=
  whenOn_rollStands (fun hn => by
    split at hn <;> cases hn
    · exact ((storeDoneStep_only matched s.live).monitorStands).roll
    · exact rollStands_refl _) h

theorem frameByteStep_monitorStands (p : Port) (b : Byte) (s : Live) : MonitorStands s (frameByteStep p b s) :=
  monitorStands_ite (withPort_monitorStands s p _) (monitorStands_refl s)

theorem frameGapStep_monitorStands (p : Port) (s : Live) : MonitorStands s (frameGapStep p s) := by
  unfold frameGapStep
  split
  · exact monitorStands_ite (withPort_monitorStands s p _) (monitorStands_refl s)
  · exact monitorStands_refl s

theorem frameDiscardStep_monitorStands (p : Port) (s : Live) : MonitorStands s (frameDiscardStep p s) := by
  unfold frameDiscardStep
  split
  · exact monitorStands_ite (withPort_monitorStands s p _) (monitorStands_refl s)
  · exact monitorStands_refl s

theorem replySentStep_monitorStands (p : Port) (s : Live) : MonitorStands s (replySentStep p s) :=
  monitorStands_ite (withPort_monitorStands s p _) (monitorStands_refl s)

theorem unknownKindStep_monitorStands (p : Port) (code : Byte) (s : Live) : MonitorStands s (unknownKindStep p code s) :=
  monitorStands_ite
    (((withPort_monitorStands s p _).trans (breakLoad_monitorStands _ p _)).trans (withPort_monitorStands _ _ _))
    (monitorStands_refl s)

theorem secondsTickStep_monitorStands (s : Live) : MonitorStands s (secondsTickStep s) :=
  monitorStands_ite (monitorStands_of_monitor rfl) (monitorStands_refl s)

/-- The rows that act only where they are due. -/
theorem monitorStands_whenDue {f : Live → Live} (hf : ∀ l, MonitorStands l (f l)) (due : Live → Bool) (l : Live) :
    MonitorStands l (if due l then f l else l) := monitorStands_ite (hf l) (monitorStands_refl l)

/-- The commands that move the count: the pulses, the adoption and the cold start. -/
def Instr.movesCount : Instr → Bool
  | .linkPulse _ | .decelPoint _ | .stopTargetReached _ | .sweepEnd _ | .stepRemainderEnd _ | .missedIndex _
  | .indexPulse | .planAdopt _ _ | .coldStart _ => true
  | _ => false

theorem exec_rollStands {i : Instr} {s t : State} (hi : Instr.movesCount i = false) (h : exec i s = .next t) :
    RollStands s.live t.live := by
  cases i with
  | linkPulse | decelPoint | stopTargetReached | sweepEnd | stepRemainderEnd | missedIndex | indexPulse | planAdopt
  | coldStart => cases hi
  | scan x => exact execScan_rollStands h
  | secondsTick => exact onLive_monitorStands secondsTickStep_monitorStands h
  | sampleWriteDone => exact execSampleWriteDone_rollStands h
  | pushBlankingEnd p x => exact onLive_monitorStands (pushBlankingEndStep_monitorStands p x) h
  | edgeBlankingEnd k x => exact onLive_monitorStands (edgeBlankingEndStep_monitorStands k x) h
  | resetLow torn => exact whenOn_rollStands (fun hn => by cases hn; exact cut_rollStands s _ torn) h
  | powerLoss torn => exact execPowerLoss_rollStands torn h
  | chainSettled => exact onLive_monitorStands chainSettledStep_monitorStands h
  | stall => exact onLive_monitorStands stallStep_monitorStands h
  | startWarningEnd => exact onLive_monitorStands startWarningEndStep_monitorStands h
  | warningGongToggle => exact onLive_apart warningGongStep_only h
  | sweepGongTimer => exact onLive_apart sweepGongStep_only h
  | wearWrite => exact execWearWrite_rollStands h
  | reRing key => exact onLive_apart (reRingStep_only key) h
  | closingStepDue => exact onLive_monitorStands (takeDue_monitorStands _ _) h
  | shutterWarningExpiry k =>
    exact onLive_monitorStands (monitorStands_whenDue (judge_monitorStands · k) (Live.warnExpired · k)) h
  | holdOffExpiry k =>
    exact onLive_monitorStands (monitorStands_whenDue (judge_monitorStands · k) (Live.holdExpired · k)) h
  | retractExpiry k => exact onLive_apart (retractStep_only k) h
  | pauseExpiry k => exact onLive_monitorStands (pauseStep_monitorStands k) h
  | descentLimitExpiry k => exact onLive_apart (descentLimitStep_only k) h
  | raiseLimitExpiry k => exact onLive_apart (raiseLimitStep_only k) h
  | phaseEnd c => exact onLive_apart (phaseEndStep_only c) h
  | itemTimerExpiry pl =>
    exact onLive_monitorStands (monitorStands_whenDue (f := fun l => (l.endItem pl).grants)
      (fun l => (endItem_only l pl).monitorStands.next (grants_only _)) (Live.itemDue · pl)) h
  | phraseEnd pl => exact execPhraseEnd_rollStands pl h
  | ampWaitExpiry ch => exact onLive_apart (ampWaitStep_only ch) h
  | ampHoldExpiry ch => exact onLive_apart (ampHoldStep_only ch) h
  | evacuationRestExpiry => exact onLive_apart evacRestStep_only h
  | frameGapTimeout p => exact onLive_monitorStands (frameGapStep_monitorStands p) h
  | frameDiscard p => exact onLive_monitorStands (frameDiscardStep_monitorStands p) h
  | replySent p => exact onLive_monitorStands (replySentStep_monitorStands p) h
  | frameByte p byte => exact onLive_monitorStands (frameByteStep_monitorStands p byte) h
  | unknownKind p code => exact onLive_monitorStands (unknownKindStep_monitorStands p code) h
  | unitRead p body | zoneRead p body | shutterRead p body | chainRead p body | callList p body | speakList p body
  | closingRead p body | wearRead p body | planRead p body | circuitRead p body =>
    exact onLive_rollStands (takeRequest_rollStands p _ _ _ (onBody_rollStands body fun _ s => rollStands_refl s)) h
  | wearReadClear p body =>
    exact onLive_rollStands (takeRequest_rollStands p _ _ _ (onBody_rollStands body fun _ => wearReadClear_rollStands p)) h
  | noticeFetch p body =>
    exact onLive_rollStands (takeRequest_rollStands p _ _ _
      (onBody_rollStands body fun _ s => (noticeFetch_monitorStands p s).roll)) h
  | planOpen p body => exact onLive_rollStands (breakingRequest_rollStands p _ body planOpen_monitorStands) h
  | planEntry p body =>
    exact onLive_rollStands (takeRequest_rollStands p _ _ _
      (onBody_rollStands body fun f s => (planEntry_monitorStands f s).roll)) h
  | planClose p body =>
    exact onLive_rollStands (breakingRequest_rollStands p _ body fun _ s => store_monitorStands s _) h
  | storeWriteDone matched => exact execStoreWriteDone_rollStands matched h
  | planDiscard p body =>
    exact onLive_rollStands (breakingRequest_rollStands p _ body fun _ s => store_monitorStands s _) h
  | sampleOpen p body => exact onLive_rollStands (breakingRequest_rollStands p _ body sampleOpen_monitorStands) h
  | sampleData p body =>
    exact onLive_rollStands (takeRequest_rollStands p _ _ _
      (onBody_rollStands body fun bytes s => (sampleData_monitorStands bytes s).roll)) h
  | zoneIsolate p body =>
    exact onLive_rollStands (breakingRequest_rollStands p _ body
      fun z => onZone_monitorStands (zoneIsolate_monitorStands z) z) h
  | zoneRestore p body =>
    exact onLive_rollStands (breakingRequest_rollStands p _ body
      fun z => onZone_monitorStands (zoneRestore_monitorStands z) z) h
  | zoneSilence p body =>
    exact onLive_rollStands (breakingRequest_rollStands p _ body
      fun z => onZone_monitorStands (zoneSilence_monitorStands z) z) h
  | zoneReset p body =>
    exact onLive_rollStands (breakingRequest_rollStands p _ body
      fun z => onZone_monitorStands (zoneReset_monitorStands z) z) h
  | shutterLower p body =>
    exact onLive_rollStands (breakingRequest_rollStands p _ body
      fun k => onShutter_monitorStands (shutterLower_monitorStands k) k) h
  | shutterRaise p body =>
    exact onLive_rollStands (breakingRequest_rollStands p _ body
      fun k => onShutter_monitorStands (shutterRaise_monitorStands k) k) h
  | shutterHalt p body =>
    exact onLive_rollStands (breakingRequest_rollStands p _ body
      fun k => onShutter_monitorStands (shutterHalt_monitorStands k) k) h
  | chainStart p body => exact onLive_rollStands (breakingRequest_rollStands p _ body fun _ => chainStart_monitorStands) h
  | chainStop p body => exact onLive_rollStands (breakingRequest_rollStands p _ body fun _ => stopChain_monitorStands) h
  | chainInspectOn p body =>
    exact onLive_rollStands (breakingRequest_rollStands p _ body (onRowCode_monitorStands inspectOn_monitorStands)) h
  | chainInspectOff p body =>
    exact onLive_rollStands (breakingRequest_rollStands p _ body (onRowCode_monitorStands inspectOff_monitorStands)) h
  | chainStep p body => exact onLive_rollStands (breakingRequest_rollStands p _ body chainStep_monitorStands) h
  | callPlace p body => exact onLive_rollStands (breakingRequest_rollStands p _ body callPlace_monitorStands) h
  | callClear p body => exact onLive_rollStands (breakingRequest_rollStands p _ body callClear_monitorStands) h
  | callMask p body => exact onLive_rollStands (breakingRequest_rollStands p _ body callMask_monitorStands) h
  | speak p body => exact onLive_rollStands (breakingRequest_rollStands p _ body (speak_monitorStands p)) h
  | speakCancel p body => exact onLive_rollStands (breakingRequest_rollStands p _ body (speakCancel_monitorStands p)) h
  | closingBegin p body => exact onLive_rollStands (breakingRequest_rollStands p _ body closingBegin_monitorStands) h
  | closingPostpone p body => exact onLive_rollStands (breakingRequest_rollStands p _ body closingPostpone_monitorStands) h
  | closingAbort p body => exact onLive_rollStands (breakingRequest_rollStands p _ body fun _ => closingAbort_monitorStands) h
  | closingResume p body =>
    exact onLive_rollStands (breakingRequest_rollStands p _ body fun _ => closingResume_monitorStands) h
  | unitRestart p body =>
    exact onLive_rollStands (breakingRequest_rollStands p _ body fun _ s => monitorStands_of_monitor rfl) h
  | warmRestart =>
    exact onLive_monitorStands (fun l => monitorStands_ite (warmRestart_monitorStands l) (monitorStands_refl l)) h

end Sys2Proof.Machine

/-! # The Chain Monitor's part of a pulse

What a LINK pulse (R34, R39 to R42) and an INDEX pulse (R37) make of the count, the position, the wear of the chain's pulses
and the ring; what the Chain Drive Controller does with the pulse afterwards keeps them all (`drivePulse_monitorStands`). -/

namespace Sys2Proof.Machine

-- one thread: a proof that waits for the theorems before it would hold a thread of its own
set_option Elab.async false

/-! ## The interval ring (R40, R41) -/

theorem intervalOf_range (reading : Int) : 1 ≤ intervalOf reading ∧ intervalOf reading ≤ Config.intervalTop := by
  simp only [intervalOf, Config.intervalTop]
  omega

theorem mem_ringPush {ring : List Nat} {x y : Nat} (h : y ∈ ringPush ring x) : y ∈ ring ∨ y = x := by
  unfold ringPush at h
  split at h
  · simpa using h
  · rcases List.mem_append.mp h with old | new
    · exact .inl (List.mem_of_mem_tail old)
    · exact .inr (List.mem_singleton.mp new)

theorem ringPush_length {ring : List Nat} (x : Nat) (h : ring.length ≤ Config.ringSize) :
    (ringPush ring x).length ≤ Config.ringSize := by
  unfold ringPush
  split
  · simpa using Nat.succ_le_of_lt ‹_›
  · have : ring.length = 8 := Nat.le_antisymm h (Nat.le_of_not_lt ‹_›)
    simp [Config.ringSize, this]

theorem length_le_sum {ring : List Nat} (h : ∀ x ∈ ring, 1 ≤ x) : ring.length ≤ ring.sum := by
  simpa using List.card_nsmul_le_sum ring 1 h

/-- At one link to a tick and no more, the speed is 10,000 links per second at most (R41). -/
theorem ringSpeed_le {ring : List Nat} (h : ∀ x ∈ ring, 1 ≤ x) : ringSpeed ring ≤ 10000 := by
  unfold ringSpeed
  split
  · exact Nat.zero_le _
  · exact Nat.div_le_of_le_mul (by rw [Nat.mul_comm ring.sum]; exact Nat.mul_le_mul_left _ (length_le_sum h))

theorem timePulse_speedFollowsRing {m : ChainMonitor} (phase : Nat) (h : SpeedFollowsRing m) :
    SpeedFollowsRing (m.timePulse phase) := by
  obtain ⟨size, interval, speed, atMost⟩ := h
  unfold ChainMonitor.timePulse
  split
  · exact ⟨size, interval, speed, atMost⟩
  · next t _ =>
    have entries : ∀ y ∈ ringPush m.ring (intervalOf (t + phase)), 1 ≤ y ∧ y ≤ Config.intervalTop := fun y hy => by
      rcases mem_ringPush hy with old | rfl
      · exact interval y old
      · exact intervalOf_range _
    exact ⟨ringPush_length _ size, entries, rfl, ringSpeed_le fun y hy => (entries y hy).1⟩

theorem SpeedFollowsRing.of_ring {m n : ChainMonitor} (h : SpeedFollowsRing m) (ring : n.ring = m.ring)
    (speed : n.speed = m.speed) : SpeedFollowsRing n :=
  ⟨ring ▸ h.size, ring ▸ h.interval, by rw [speed, ring, h.speed], speed ▸ h.atMost⟩

theorem speedFollowsRing_of_emptied {m : ChainMonitor} (ring : m.ring = []) (speed : m.speed = 0) :
    SpeedFollowsRing m :=
  ⟨by simp [ring], by simp [ring], by simp [ring, speed], by simp [speed]⟩

theorem RollStands.speedFollowsRing {s t : Live} (h : RollStands s t) (hs : SpeedFollowsRing s.monitor) :
    SpeedFollowsRing t.monitor := by
  obtain ⟨ring, speed⟩ | ⟨ring, speed⟩ := h.ring
  · exact hs.of_ring ring speed
  · exact speedFollowsRing_of_emptied ring speed

/-! ## A LINK pulse (R34, R39) -/

theorem nextCount_lt {s : Live} (h : s.monitor.count < s.plan.geometry.loopLength) :
    s.nextCount < s.plan.geometry.loopLength := by
  unfold Live.nextCount
  split <;> omega

theorem nextCount_eq_mod {s : Live} (h : s.monitor.count < s.plan.geometry.loopLength) :
    s.nextCount = (s.monitor.count + 1) % s.plan.geometry.loopLength := by
  unfold Live.nextCount
  split
  · next wraps => rw [show s.monitor.count + 1 = s.plan.geometry.loopLength by omega, Nat.mod_self]
  · next inside => exact (Nat.mod_eq_of_lt (Nat.lt_of_not_le inside)).symm

theorem advanceCount_monitor (s : Live) : s.advanceCount.monitor = { s.monitor with
    count := s.nextCount
    watchArmed := s.monitor.watchArmed || (s.nextCount == 0 && s.monitor.position != Position.unknown)
    wear := if s.monitor.wear.links < 4294967295 then { s.monitor.wear with links := s.monitor.wear.links + 1 }
      else s.monitor.wear } := by
  unfold Live.advanceCount
  rw [raiseWear_monitor]
  have flip : Config.top32 ≤ s.monitor.wear.links ↔ ¬ s.monitor.wear.links < 4294967295 := Nat.not_lt.symm
  simp only [WearEvent.top, WearCounts.count, WearCounts.setCount, flip, ite_not]

theorem advanceCount_only (s : Live) : Keeps [.monitor, .portC, .portF] s s.advanceCount := by
  unfold Live.advanceCount
  refine Keeps.next (t := _) ?_ (raiseWear_only _ _)
  exact keeps_of (by intro q hq; cases q <;> simp_all [samePart]) rfl rfl

theorem loseIndex_monitor (s : Live) : s.loseIndex.monitor =
    if s.indexMissed then { s.monitor with position := .unknown, watchArmed := false } else s.monitor := by
  unfold Live.loseIndex
  split <;> rfl

@[simp] theorem Live.postIf_monitor (s : Live) (b : Bool) (n : Note) : (s.postIf b n).monitor = s.monitor :=
  (postIf_only s b n).parts .monitor (by decide)

theorem feedTimers_monitor (s : Live) (phase : Nat) : (s.feedTimers phase).monitor =
    if s.chain.drive = .brake then { s.monitor with settled := false, settleTimer := some 0 }
    else s.monitor.timePulse phase := by
  unfold Live.feedTimers
  split
  · rw [Live.postIf_monitor]
  · rfl

theorem timePulse_monitor (m : ChainMonitor) (phase : Nat) : ∃ r i v,
    m.timePulse phase = { m with ring := r, intervalTimer := i, speed := v } := by
  unfold ChainMonitor.timePulse
  split <;> exact ⟨_, _, _, rfl⟩

/-- The part of a LINK pulse before the sills are judged. -/
def Live.counted (s : Live) (phase : Nat) : Live := (s.advanceCount.loseIndex).feedTimers phase

/-- After the count, only the answers at the sills and the shutters' wear move. -/
theorem monitorPulse_judged (s : Live) (phase : Nat) : MonitorStands (s.counted phase) (s.monitorPulse phase) :=
  have judged := rejudge_monitorStands (s.counted phase)
  monitorStands_ite (judged.trans (judgeSills_shutterWear _).monitorStands) judged

/-- The Chain Drive Controller's part keeps what the Chain Monitor made of the pulse. -/
theorem pulse_counted (phase : Nat) (s : Live) : MonitorStands (s.counted phase) (pulse phase s) :=
  (monitorPulse_judged s phase).trans (drivePulse_monitorStands _)

/-- The count, the position, the watch and the links wear count as a pulse leaves them. -/
theorem counted_read (s : Live) (phase : Nat) :
    let m := (s.counted phase).monitor
    m.count = s.nextCount ∧ m.position = s.advanceCount.loseIndex.monitor.position ∧
      m.watchArmed = s.advanceCount.loseIndex.monitor.watchArmed ∧
      m.wear.links =
        (if s.monitor.wear.links < 4294967295 then s.monitor.wear.links + 1 else s.monitor.wear.links) := by
  have fed : ∀ t : Live, (t.feedTimers phase).monitor.count = t.monitor.count ∧
      (t.feedTimers phase).monitor.position = t.monitor.position ∧
      (t.feedTimers phase).monitor.watchArmed = t.monitor.watchArmed ∧
      (t.feedTimers phase).monitor.wear = t.monitor.wear := fun t => by
    obtain ⟨r, i, v, timed⟩ := timePulse_monitor t.monitor phase
    rw [feedTimers_monitor, timed]
    split <;> exact ⟨rfl, rfl, rfl, rfl⟩
  have lost : ∀ t : Live, t.loseIndex.monitor.count = t.monitor.count ∧ t.loseIndex.monitor.wear = t.monitor.wear :=
    fun t => by
      rw [loseIndex_monitor]
      split <;> exact ⟨rfl, rfl⟩
  obtain ⟨count, position, watch, wear⟩ := fed s.advanceCount.loseIndex
  obtain ⟨count', wear'⟩ := lost s.advanceCount
  refine ⟨?_, position, watch, ?_⟩
  · rw [Live.counted, count, count', advanceCount_monitor]
  · rw [Live.counted, wear, wear', advanceCount_monitor]
    dsimp only
    split <;> rfl

theorem pulse_count (phase : Nat) (s : Live) : (pulse phase s).monitor.count = s.nextCount :=
  (pulse_counted phase s).count.trans (counted_read s phase).1

theorem pulse_speedFollowsRing (phase : Nat) {s : Live} (h : SpeedFollowsRing s.monitor) :
    SpeedFollowsRing (pulse phase s).monitor := by
  have ring : s.advanceCount.loseIndex.monitor.ring = s.monitor.ring ∧
      s.advanceCount.loseIndex.monitor.speed = s.monitor.speed := by
    rw [loseIndex_monitor, advanceCount_monitor]
    split <;> exact ⟨rfl, rfl⟩
  have unfed : SpeedFollowsRing s.advanceCount.loseIndex.monitor := h.of_ring ring.1 ring.2
  refine (pulse_counted phase s).roll.speedFollowsRing ?_
  rw [Live.counted, feedTimers_monitor]
  split
  · exact unfed.of_ring rfl rfl
  · exact timePulse_speedFollowsRing phase unfed

/-! ## An INDEX pulse (R37) -/

/-- The Chain Monitor as an INDEX pulse leaves it, before its answers are judged. -/
theorem monitorIndex_monitor (s : Live) : s.monitorIndex.monitor = { s.monitor with
    count := 0
    watchArmed := false
    lastError := some s.indexError
    position := (indexJudge s.monitor.position s.indexError s.plan.geometry.indexTolerance).1
    wear := if s.monitor.wear.index < 4294967295 then { s.monitor.wear with index := s.monitor.wear.index + 1 }
      else s.monitor.wear } := by
  have flip : Config.top32 ≤ s.monitor.wear.index ↔ ¬ s.monitor.wear.index < 4294967295 := Nat.not_lt.symm
  have raised := raiseWear_monitor s .index
  simp only [WearEvent.top, WearCounts.count, WearCounts.setCount, flip, ite_not] at raised
  unfold Live.monitorIndex
  dsimp only
  split <;> simp only [Live.post_monitor, raised]

/-- After the index, only the answers at the sills, the ring and the shutters' wear move. -/
theorem indexStep_judged (s : Live) : MonitorStands s.monitorIndex (indexStep s) :=
  have judged := rejudge_monitorStands s.monitorIndex
  monitorStands_ite judged (judged.trans (placeDeferred_monitorStands _))

theorem indexStep_count (s : Live) : (indexStep s).monitor.count = 0 :=
  (indexStep_judged s).count.trans (by rw [monitorIndex_monitor])

theorem indexStep_speedFollowsRing {s : Live} (h : SpeedFollowsRing s.monitor) :
    SpeedFollowsRing (indexStep s).monitor := by
  refine (indexStep_judged s).roll.speedFollowsRing ?_
  rw [monitorIndex_monitor]
  exact h.of_ring rfl rfl

/-! ## An adoption (R50) -/

theorem adoptPosition_ring (s : Live) (old : Plan) : (s.adoptPosition old).monitor.ring = s.monitor.ring ∧
    (s.adoptPosition old).monitor.speed = s.monitor.speed := by
  unfold Live.adoptPosition
  dsimp only
  split
  · exact ⟨rfl, rfl⟩
  · constructor <;> rw [Live.postIf_monitor]

theorem adopt_speedFollowsRing {s : Live} (a : List Nat) (h : SpeedFollowsRing s.monitor) :
    SpeedFollowsRing (s.adopt a).monitor := by
  have emptied : (s.emptied a).monitor = s.monitor := (emptied_only s a).parts .monitor (by decide)
  obtain ⟨ring, speed⟩ := adoptPosition_ring (s.emptied a) s.plan
  have judged : MonitorStands ((s.emptied a).adoptPosition s.plan) (s.judgedAfresh a) := by
    unfold Live.judgedAfresh
    exact rejudge_monitorStands _
  have bare : MonitorStands (s.judgedAfresh a) (s.adoptBare a) := monitorStands_of_monitor (by rw [adoptBare_eq])
  rw [adopt_eq]
  refine ((judged.trans bare).trans (latchAlarmed_monitorStands _)).roll.speedFollowsRing ?_
  rw [emptied] at ring speed
  exact h.of_ring ring speed

/-- The checks of adoption hold the loop to two runs and a link at least (R25). -/
theorem loopLength_pos_of_passed {p : Plan} {l : FieldLoop} (passed : p.firstFailure l = none) :
    0 < p.geometry.loopLength := by
  have geometry : p.geometryOk = true := by
    have first := List.findSome?_eq_none_iff.mp passed .geometry (by decide)
    have entry := List.find?_eq_none.mp (Option.map_eq_none_iff.mp first) 0 (by decide)
    simpa [Plan.entryOk] using entry
  have runs : 2 * p.geometry.upRun < p.geometry.loopLength := by
    simp only [Plan.geometryOk, Bool.and_eq_true, decide_eq_true_eq] at geometry
    obtain ⟨⟨⟨⟨⟨⟨⟨-, runs⟩, -⟩, -⟩, -⟩, -⟩, -⟩, -⟩ := geometry
    exact runs
  omega

theorem adopt_count (s : Live) (a : List Nat) : PositionTaken s.store.active s.store.pending s (s.adopt a) := by
  have latched := latchAlarmed_monitorStands (s.adoptBare a)
  rw [adopt_eq]
  exact (adoptBare_position s a).next ⟨latched.count, latched.position⟩

/-- An adoption that has passed its checks leaves the count in the new plan's loop. -/
theorem adopt_countInLoop {s : Live} (a : List Nat) (passed : s.store.pending.firstFailure s.loop = none)
    (h : s.monitor.count < s.plan.geometry.loopLength) :
    (s.adopt a).monitor.count < (s.adopt a).plan.geometry.loopLength := by
  rw [show (s.adopt a).plan = s.store.pending from plan_of_store ((adopt_after s a).parts .store (by decide))]
  have taken := adopt_count s a
  unfold PositionTaken at taken
  dsimp only at taken
  split at taken
  · next same => rw [taken.1, same.1]; exact h
  · rw [taken.1]; exact loopLength_pos_of_passed passed

end Sys2Proof.Machine

/-! # O17, O18: the count in its loop, and the rolling speed of the ring -/

namespace Sys2Proof.Machine

-- one thread: a proof that waits for the theorems before it would hold a thread of its own
set_option Elab.async false

/-! ## What can move the count -/

theorem onLive_next {s t : State} {f : Live → Live} (h : onLive s f = .next t) : t.live = s.live ∨ t.live = f s.live := by
  unfold onLive whenOn at h
  split at h <;> cases h
  · exact .inr rfl
  · exact .inl rfl

/-- The rows that are a pulse where they are due. -/
theorem onLive_pulse {s t : State} {phase : Nat} {due : Live → Bool}
    (h : onLive s (fun l => if due l then pulse phase l else l) = .next t) :
    t.live = s.live ∨ t.live = pulse phase s.live := by
  rcases onLive_next h with same | ran
  · exact .inl same
  · split at ran
    · exact .inr ran
    · exact .inl ran

/-- A command leaves the count and the ring, or is a pulse, an adoption or a cold start. -/
theorem exec_count_cases {i : Instr} {s t : State} (h : exec i s = .next t) :
    RollStands s.live t.live ∨ (∃ phase, t.live = pulse phase s.live) ∨ t.live = indexStep s.live ∨
      (∃ p b, i = .planAdopt p b) ∨ ∃ x, i = .coldStart x := by
  by_cases moves : Instr.movesCount i = true
  case neg => exact .inl (exec_rollStands (Bool.eq_false_iff.mpr moves) h)
  have stood : t.live = s.live → RollStands s.live t.live := fun same => same ▸ rollStands_refl _
  have pulsed : ∀ {phase}, t.live = s.live ∨ t.live = pulse phase s.live → RollStands s.live t.live ∨
      ∃ phase, t.live = pulse phase s.live := fun ran => ran.imp stood fun ran => ⟨_, ran⟩
  cases i with
  | linkPulse phase => exact or_assoc.mp (.inl (pulsed (onLive_next h)))
  | decelPoint phase | stopTargetReached phase | sweepEnd phase | stepRemainderEnd phase | missedIndex phase =>
    exact or_assoc.mp (.inl (pulsed (onLive_pulse h)))
  | indexPulse => exact (onLive_next h).imp stood fun ran => .inr (.inl ran)
  | planAdopt p b => exact .inr (.inr (.inr (.inl ⟨p, b, rfl⟩)))
  | coldStart x => exact .inr (.inr (.inr (.inr ⟨x, rfl⟩)))
  | _ => cases moves

/-! ## An adoption and a cold start -/

/-- A property of the running part that the port's exchange, the breaking of a load and the handler keep. -/
theorem takeRequest_keeps {P : Live → Prop} {p : Port} {k : Kind} {b : Cursor → Bool} {fit : Bool} {h : Live → Handled}
    (port : ∀ t r, P t → P (t.withPort p r)) (load : ∀ t, P t → P (t.breakLoad p b)) (rule : ∀ t, P t → P (h t).1)
    {s : Live} (hs : P s) : P (takeRequest p k b fit h s) := by
  unfold takeRequest
  refine iteInduction (fun _ => ?_) fun _ => hs
  extract_lets t
  have taken : P t := load _ (port _ _ hs)
  refine iteInduction (fun _ => port _ _ taken) fun _ => iteInduction (fun _ => port _ _ taken) fun _ => ?_
  unfold Live.putHandled
  split
  · exact port _ _ (rule t taken)
  · exact rule t taken

theorem onBody_keeps {α : Type} {P : Live → Prop} {h : α → Live → Handled} (body : Body α)
    (rule : ∀ a t, P t → P (h a t).1) {s : Live} (hs : P s) : P (onBody body h s).1 := by
  cases body with
  | fits a => exact rule a s hs
  | misfit => exact hs

/-- PLAN ADOPT is refused, or adopts a plan that has passed its checks (R25 to R29). -/
theorem planAdopt_cases (s : Live) : (planAdopt s).1 = s ∨
    s.store.pending.firstFailure s.loop = none ∧ ∃ a, (planAdopt s).1 = s.adopt a := by
  cases failed : s.store.pending.firstFailure s.loop with
  | some f => exact .inl (congrArg Prod.fst (planAdopt_planCheck failed))
  | none =>
    by_cases empty : s.store.pending.residues = []
    · exact .inl (congrArg Prod.fst (planAdopt_noParkResidue failed empty))
    · cases disquiet : s.disquiet with
      | some q => exact .inl (congrArg Prod.fst (planAdopt_notQuiescent failed empty disquiet))
      | none =>
        exact .inr ⟨rfl, s.store.pending.residues, by rw [planAdopt_adopts failed empty disquiet]⟩

theorem execColdStart_next {s t : State} {x : ColdStart} (h : exec (.coldStart x) s = .next t) :
    t.live = coldStartLive s.nv x s.live.free ∧ t.nv.plan = s.nv.plan := by
  cases h
  refine ⟨?_, rfl⟩
  dsimp only

theorem execPlanAdopt_live {s t : State} {p : Port} {body : Body Unit} (h : execPlanAdopt p body s = .next t) :
    (t.live = s.live ∨ t.live = breakingRequest p .planAdopt body (fun _ => planAdopt) s.live) ∧
      (t.nv.plan = s.nv.plan ∨ t.nv.plan = t.live.plan) := by
  unfold execPlanAdopt whenOn at h
  split at h
  case isFalse =>
    cases h
    exact ⟨.inl rfl, .inl rfl⟩
  case isTrue =>
    extract_lets l began at h
    cases h
    refine ⟨.inr rfl, ?_⟩
    dsimp only
    split
    · exact .inr (beginWrite_copy s.nv l).1
    · exact .inl rfl

/-! ## The invariants -/

/-- The count lies in the loop of the active plan. -/
def Live.countInLoop (s : Live) : Prop := s.monitor.count < s.plan.geometry.loopLength

theorem Live.countInLoop_of_same {s t : Live} (count : t.monitor.count = s.monitor.count) (plan : t.plan = s.plan)
    (h : s.countInLoop) : t.countInLoop := by
  unfold Live.countInLoop at h ⊢
  rwa [count, plan]

theorem planAdopt_countInLoop {s : Live} (h : s.countInLoop) : (planAdopt s).1.countInLoop := by
  rcases planAdopt_cases s with refused | ⟨passed, a, adopted⟩
  · rwa [refused]
  · rw [adopted]
    exact adopt_countInLoop a passed h

theorem breakingRequest_planAdopt_countInLoop (p : Port) (body : Body Unit) {s : Live} (h : s.countInLoop) :
    (breakingRequest p .planAdopt body (fun _ => planAdopt) s).countInLoop :=
  takeRequest_keeps (P := Live.countInLoop)
    (fun t r => Live.countInLoop_of_same (withPort_monitorStands t p r).count (withPort_planStands t p r).1)
    (fun t => Live.countInLoop_of_same (breakLoad_monitorStands t p _).count (breakLoad_planStands t p _).1)
    (fun _ => onBody_keeps body fun _ _ => planAdopt_countInLoop) h

theorem execPlanAdopt_countInLoop {s t : State} {p : Port} {body : Body Unit} (h : execPlanAdopt p body s = .next t)
    (hs : CountInLoop s) : CountInLoop t := by
  obtain ⟨live, stored⟩ := execPlanAdopt_live h
  have count : t.live.countInLoop := by
    rcases live with same | ran
    · rw [same]; exact hs.count
    · rw [ran]; exact breakingRequest_planAdopt_countInLoop p body hs.count
  refine ⟨count, ?_⟩
  rcases stored with same | written
  · rw [same]; exact hs.stored
  · rw [written]; exact Nat.zero_lt_of_lt count

theorem startStore_loopLength {n : NonVolatile} (h : 0 < n.plan.geometry.loopLength) :
    0 < (startStore n).active.geometry.loopLength := by
  rw [(startStore_read n).1]
  split
  · exact h
  · decide

theorem coldStartLive_countInLoop {n : NonVolatile} (i : ColdStart) (free : Nat)
    (h : 0 < n.plan.geometry.loopLength) : (coldStartLive n i free).countInLoop := by
  have plan : (coldStartLive n i free).plan = (startStore n).active :=
    congrArg PlanStore.active (coldStartLive_store n i free)
  rw [Live.countInLoop, (coldStartLive_count n i free).1, plan]
  exact startStore_loopLength h

theorem pulse_plan (phase : Nat) (s : Live) : (pulse phase s).plan = s.plan := (pulse_only phase s).planStands.1

theorem indexStep_plan (s : Live) : (indexStep s).plan = s.plan := (indexStep_only s).planStands.1

theorem exec_countInLoop {i : Instr} {s t : State} (h : exec i s = .next t) (hs : CountInLoop s) : CountInLoop t := by
  have kept : (∀ p b, i ≠ .planAdopt p b) → (∀ x, i ≠ .coldStart x) →
      t.live.plan = s.live.plan ∧ t.nv.plan = s.nv.plan := fun notAdopt notCold => by
    obtain ⟨active, stored, -⟩ := planChangesOnlyByAdoption i s t h notAdopt
    exact ⟨(active notCold).1, stored⟩
  by_cases adopts : ∃ p b, i = .planAdopt p b
  · obtain ⟨p, b, rfl⟩ := adopts
    exact execPlanAdopt_countInLoop h hs
  by_cases starts : ∃ x, i = .coldStart x
  · obtain ⟨x, rfl⟩ := starts
    obtain ⟨live, stored⟩ := execColdStart_next h
    refine ⟨?_, stored ▸ hs.stored⟩
    rw [live]
    exact coldStartLive_countInLoop x s.live.free hs.stored
  obtain ⟨plan, stored⟩ := kept (fun p b hi => adopts ⟨p, b, hi⟩) fun x hi => starts ⟨x, hi⟩
  refine ⟨?_, stored ▸ hs.stored⟩
  rcases exec_count_cases h with stands | ⟨phase, ran⟩ | ran | adopt | start
  · exact Live.countInLoop_of_same stands.count plan hs.count
  · rw [ran, pulse_plan, pulse_count]
    exact nextCount_lt hs.count
  · rw [ran, indexStep_plan, indexStep_count]
    exact Nat.zero_lt_of_lt hs.count
  · exact absurd adopt adopts
  · exact absurd start starts

/-- Settles O17. -/
theorem countStaysInLoop : Obligations.CountStaysInLoop := by
  intro s t hs ran
  unfold step at ran
  split at ran
  · cases ran
    exact hs
  · exact exec_countInLoop ran ⟨hs.count, hs.stored⟩

theorem planAdopt_speedFollowsRing {s : Live} (h : SpeedFollowsRing s.monitor) :
    SpeedFollowsRing (planAdopt s).1.monitor := by
  rcases planAdopt_cases s with refused | ⟨-, a, adopted⟩
  · rwa [refused]
  · rw [adopted]
    exact adopt_speedFollowsRing a h

theorem breakingRequest_planAdopt_speedFollowsRing (p : Port) (body : Body Unit) {s : Live}
    (h : SpeedFollowsRing s.monitor) :
    SpeedFollowsRing (breakingRequest p .planAdopt body (fun _ => planAdopt) s).monitor :=
  takeRequest_keeps (P := fun t => SpeedFollowsRing t.monitor)
    (fun t r => (withPort_monitorStands t p r).roll.speedFollowsRing)
    (fun t => (breakLoad_monitorStands t p _).roll.speedFollowsRing)
    (fun _ => onBody_keeps (P := fun t => SpeedFollowsRing t.monitor) body fun _ _ => planAdopt_speedFollowsRing) h

theorem coldStartLive_speedFollowsRing (n : NonVolatile) (i : ColdStart) (free : Nat) :
    SpeedFollowsRing (coldStartLive n i free).monitor := by
  refine (coldStartLive_monitor n i free).monitorStands.roll.speedFollowsRing ?_
  rw [coldDerived_monitor]
  exact speedFollowsRing_of_emptied rfl rfl

theorem exec_speedFollowsRing {i : Instr} {s t : State} (h : exec i s = .next t)
    (hs : SpeedFollowsRing s.live.monitor) : SpeedFollowsRing t.live.monitor := by
  rcases exec_count_cases h with stands | ⟨phase, ran⟩ | ran | ⟨p, body, rfl⟩ | ⟨x, rfl⟩
  · exact stands.speedFollowsRing hs
  · rw [ran]; exact pulse_speedFollowsRing phase hs
  · rw [ran]; exact indexStep_speedFollowsRing hs
  · rcases (execPlanAdopt_live h).1 with same | ran
    · rw [same]; exact hs
    · rw [ran]; exact breakingRequest_planAdopt_speedFollowsRing p body hs
  · rw [(execColdStart_next h).1]
    exact coldStartLive_speedFollowsRing s.nv x s.live.free

/-- Settles O18. -/
theorem rollingSpeedFollowsRing : Obligations.RollingSpeedFollowsRing := by
  intro s t hs ran
  unfold step at ran
  split at ran
  · cases ran
    exact hs
  · exact exec_speedFollowsRing ran hs

end Sys2Proof.Machine

/-! # The chain's record under the changes of the Chain Drive Controller

What a change of the drive output (R51, R65), the end of a sweep (R68), a planned stop (R56 to R60), an emergency brake (R63)
and a LINK pulse (R52) make of the Chain Drive Controller's own record. -/

namespace Sys2Proof.Machine

-- one thread: a proof that waits for the theorems before it would hold a thread of its own
set_option Elab.async false

/-! ## The drive output and the sweep -/

/-- The record with another drive output: the stall timer runs off BRAKE alone (R65). -/
def ChainDrive.turned (c : ChainDrive) (d : DriveOutput) : ChainDrive :=
  { c with
    drive := d
    stallTimer := if c.drive = d then c.stallTimer else if d = .brake then none
      else if c.drive = .brake then some 0 else c.stallTimer }

theorem driveTo_chain (s : Live) (d : DriveOutput) : (s.driveTo d).chain = s.chain.turned d := by
  unfold Live.driveTo ChainDrive.turned
  split
  · next same => rw [← same]
  · split
    · next brake => rw [brake]
    · split
      · exact (rejudge_only _).parts .chain (by decide)
      · rfl

theorem setChain_chain (s : Live) (st : ChainState) : (s.setChain st).chain = { s.chain with state := st } := by
  unfold Live.setChain
  split
  · next same => rw [← same]
  · rfl

/-- The record with no sweep, its gongs silent where one stood (R68). -/
def ChainDrive.unswept (c : ChainDrive) : ChainDrive :=
  { c with
    sweep := none
    gongTimer := if c.sweep.isSome then none else c.gongTimer
    gongsOn := if c.sweep.isSome then false else c.gongsOn }

theorem endSweep_chain (s : Live) : s.endSweep.chain = s.chain.unswept := by
  unfold Live.endSweep ChainDrive.unswept
  split
  · rfl
  · next stands =>
    have none_ : s.chain.sweep = none := by simpa using stands
    rw [← none_]

/-! ## Planned stops -/

theorem placeStop_chain (s : Live) (c : StopCause) :
    let r := Machine.placeStop s.plan s.store.fullClear s.monitor.count s.monitor.speed
    (s.placeStop c).chain =
      if r.decel < r.linksToGo then
        { s.chain with stop := some r, deferred := none, state := .stopping c .approach }
      else { s.chain.turned .creep with stop := some r, deferred := none, state := .stopping c .creeping } := by
  intro r
  unfold Live.placeStop
  extract_lets r' d t
  rw [apply_ite Live.chain]
  refine if_congr Iff.rfl ?_ ?_
  · rw [enterChain_chain]
  · rw [enterChain_chain, driveTo_chain]
    rfl

/-- A stop that is placed keeps the sweep's items and stands in STOPPING with its cause. -/
theorem placeStop_stopping (s : Live) (c : StopCause) :
    (s.placeStop c).chain.deferred = none ∧ (s.placeStop c).chain.sweep = s.chain.sweep ∧
      (s.placeStop c).chain.gongTimer = s.chain.gongTimer ∧ (s.placeStop c).chain.gongsOn = s.chain.gongsOn ∧
      ∃ ph, (s.placeStop c).chain.state = .stopping c ph := by
  rw [placeStop_chain]
  split <;> exact ⟨rfl, rfl, rfl, rfl, _, rfl⟩

theorem requestStop_valid {s : Live} (c : StopCause) (valid : s.monitor.position = .valid) :
    s.requestStop c = s.endSweep.placeStop c := by
  unfold Live.requestStop
  dsimp only
  rw [endSweep_monitor, if_pos valid]

theorem requestStop_notValid_chain {s : Live} (c : StopCause) (notValid : s.monitor.position ≠ .valid) :
    (s.requestStop c).chain = { s.chain.unswept with deferred := some (s.chain.deferred.getD c) } := by
  have monitor := endSweep_monitor s
  have chain := endSweep_chain s
  unfold Live.requestStop
  dsimp only
  generalize s.endSweep = t at monitor chain ⊢
  rw [monitor, if_neg notValid, chain]
  cases before : s.chain.deferred with
  | some d =>
    have stands : s.chain.unswept.deferred = some d := before
    rw [if_pos (by rw [stands]; rfl), chain, Option.getD_some, ← stands]
  | none =>
    have absent : s.chain.unswept.deferred = none := before
    rw [if_neg (by rw [absent]; nofun)]
    rfl

theorem placeDeferred_placed {s : Live} {c : StopCause} (running : s.chain.state = .running)
    (deferred : s.chain.deferred = some c) (valid : s.monitor.position = .valid) :
    s.placeDeferred = s.endSweep.placeStop c := by
  unfold Live.placeDeferred
  simp only [running, deferred, valid, if_true]

/-! ## An emergency brake (R63) -/

theorem emergency_chain (s : Live) (why : EmergencyReason) (i : Nat) (st : ChainState) :
    (s.emergency why i st).chain =
      { s.chain.unswept.turned .brake with stop := none, deferred := none, step := none, state := st } := by
  unfold Live.emergency
  extract_lets left t c u
  refine ((takeChainState_only _).parts .chain (by decide)).trans ?_
  rw [Live.post_chain, (raiseWear_only _ _).parts .chain (by decide), setChain_chain, driveTo_chain]
  simp only [u, c, t, endSweep_chain]
  rfl

theorem driveTo_brake_wear (s : Live) : (s.driveTo .brake).monitor.wear = s.monitor.wear := by
  unfold Live.driveTo
  split
  · rfl
  · rfl

theorem emergency_stops (s : Live) (why : EmergencyReason) (i : Nat) (st : ChainState) :
    (s.emergency why i st).monitor.wear.emergencyStops =
      if s.monitor.wear.emergencyStops < 65535 then s.monitor.wear.emergencyStops + 1
      else s.monitor.wear.emergencyStops := by
  unfold Live.emergency
  extract_lets left t c u
  obtain ⟨w, monitor, -, -, stops⟩ := takeChainState_shutterWear
    ((((u.driveTo .brake).setChain st).raiseWear .emergency).post (.chainEmergency why i left))
  have braked : ((u.driveTo .brake).setChain st).monitor.wear = s.monitor.wear := by
    rw [setChain_monitor, driveTo_brake_wear]
    exact congrArg ChainMonitor.wear (endSweep_monitor s)
  rw [monitor]
  refine stops.trans ?_
  have flip : Config.top16 ≤ s.monitor.wear.emergencyStops ↔ ¬ s.monitor.wear.emergencyStops < 65535 := Nat.not_lt.symm
  rw [Live.post_monitor, raiseWear_monitor, braked]
  simp only [WearEvent.top, WearCounts.count, WearCounts.setCount, flip, ite_not]
  split <;> rfl

theorem emergency_offered (s : Live) (why : EmergencyReason) (i : Nat) (st : ChainState) :
    (s.emergency why i st).offered (.chainEmergency why i s.chain.drive) :=
  (takeChainState_only _).offered (post_offered _ _)

/-! ## A LINK pulse (R52, R65) -/

/-- The stall timer starts again on a pulse off BRAKE (R65). -/
def Live.watched (s : Live) : Live :=
  if s.chain.drive = .brake then s else { s with chain := { s.chain with stallTimer := some 0 } }

theorem watched_chain (s : Live) : s.watched.chain =
    { s.chain with stallTimer := if s.chain.drive = .brake then s.chain.stallTimer else some 0 } := by
  unfold Live.watched
  split <;> rfl

theorem watched_monitor (s : Live) : s.watched.monitor = s.monitor := by
  unfold Live.watched
  split <;> rfl

section
variable {s : Live}

theorem drivePulse_sweep {n : Nat} (running : s.chain.state = .running) (sweep : s.chain.sweep = some n) :
    s.drivePulse = if n ≤ 1 then s.watched.requestStop .sweepEnd
      else { s.watched with chain := { s.watched.chain with sweep := some (n - 1) } } := by
  have state : s.watched.chain.state = .running := by rw [watched_chain]; exact running
  have items : s.watched.chain.sweep = some n := by rw [watched_chain]; exact sweep
  unfold Live.drivePulse
  extract_lets c t
  simp only [show t.chain.state = _ from state, show t.chain.sweep = _ from items]
  rfl

theorem drivePulse_braked {c : StopCause} {r : StopRecord} (braked : s.chain.state = .stopping c .braked)
    (stop : s.chain.stop = some r) : s.drivePulse = { s.watched with chain := { s.watched.chain with
      stop := some { r with overrun := min 65535 (r.overrun + 1) } } } := by
  have state : s.watched.chain.state = .stopping c .braked := by rw [watched_chain]; exact braked
  have items : s.watched.chain.stop = some r := by rw [watched_chain]; exact stop
  unfold Live.drivePulse
  extract_lets c t
  simp only [show t.chain.state = _ from state, show t.chain.stop = _ from items]
  rfl

theorem drivePulse_stopping {c : StopCause} {ph : StopPhase} {r : StopRecord}
    (stopping : s.chain.state = .stopping c ph) (moving : ph ≠ .braked) (stop : s.chain.stop = some r) :
    s.drivePulse = s.watched.stopPulse c ph r := by
  have state : s.watched.chain.state = .stopping c ph := by rw [watched_chain]; exact stopping
  have items : s.watched.chain.stop = some r := by rw [watched_chain]; exact stop
  unfold Live.drivePulse
  extract_lets d t
  cases ph with
  | braked => exact absurd rfl moving
  | approach | creeping =>
    simp only [show t.chain.state = _ from state, show t.chain.stop = _ from items]
    rfl

theorem drivePulse_step {n : Nat} (creeping : s.chain.state = .inspection .creeping) (step : s.chain.step = some n) :
    s.drivePulse =
      if n ≤ 1 then ({ s.watched with chain := { s.watched.chain with step := some (n - 1) } } : Live).brakeStep
      else { s.watched with chain := { s.watched.chain with step := some (n - 1) } } := by
  have state : s.watched.chain.state = .inspection .creeping := by rw [watched_chain]; exact creeping
  have items : s.watched.chain.step = some n := by rw [watched_chain]; exact step
  unfold Live.drivePulse
  extract_lets c t
  simp only [show t.chain.state = _ from state, show t.chain.step = _ from items]
  rfl

theorem drivePulse_noSweep (running : s.chain.state = .running) (sweep : s.chain.sweep = none) :
    s.drivePulse = s.watched := by
  have state : s.watched.chain.state = .running := by rw [watched_chain]; exact running
  have items : s.watched.chain.sweep = none := by rw [watched_chain]; exact sweep
  unfold Live.drivePulse
  extract_lets c t
  simp only [show t.chain.state = _ from state, show t.chain.sweep = _ from items]
  rfl

end

theorem stopPulse_chain (s : Live) (c : StopCause) (ph : StopPhase) (r : StopRecord) :
    (s.stopPulse c ph r).chain =
      let pulsed := { s.chain with stop := some { r with linksToGo := r.linksToGo - 1 } }
      if r.linksToGo - 1 = 0 then { pulsed.turned .brake with state := .stopping c .braked }
      else if ph = .approach ∧ r.linksToGo - 1 = r.decel then
        { pulsed.turned .creep with state := .stopping c .creeping }
      else pulsed := by
  unfold Live.stopPulse
  dsimp only
  simp only [apply_ite Live.chain, enterChain_chain, driveTo_chain]

end Sys2Proof.Machine

/-! # O46: the LINK pulses -/

namespace Sys2Proof.Machine

-- one thread: a proof that waits for the theorems before it would hold a thread of its own
set_option Elab.async false

/-! ## What the Chain Drive Controller does with a pulse (R52, R58, R65, R68, R72) -/

section
variable {s : Live}

theorem drivePulse_overruns {c : StopCause} {r : StopRecord} (braked : s.chain.state = .stopping c .braked)
    (stop : s.chain.stop = some r) : s.drivePulse.chain.stop = some { r with overrun := min 65535 (r.overrun + 1) } ∧
      s.drivePulse.chain.state = .stopping c .braked := by
  rw [drivePulse_braked braked stop]
  refine ⟨rfl, ?_⟩
  dsimp only
  rw [watched_chain]
  exact braked

theorem drivePulse_approaches {c : StopCause} {ph : StopPhase} {r : StopRecord}
    (stopping : s.chain.state = .stopping c ph) (moving : ph ≠ .braked) (stop : s.chain.stop = some r)
    (short : 1 < r.linksToGo) (off : r.linksToGo ≠ r.decel + 1) :
    s.drivePulse.chain.stop = some { r with linksToGo := r.linksToGo - 1 } ∧
      s.drivePulse.chain.state = .stopping c ph := by
  rw [drivePulse_stopping stopping moving stop, stopPulse_chain]
  dsimp only
  rw [if_neg (by omega), if_neg (by omega)]
  refine ⟨rfl, ?_⟩
  rw [watched_chain]
  exact stopping

theorem drivePulse_reachesDecel {c : StopCause} {r : StopRecord} (stopping : s.chain.state = .stopping c .approach)
    (stop : s.chain.stop = some r) (some_ : 0 < r.decel) (next : r.linksToGo = r.decel + 1) :
    s.drivePulse.chain.state = .stopping c .creeping ∧ s.drivePulse.chain.drive = .creep ∧
      s.drivePulse.chain.stop = some { r with linksToGo := r.decel } := by
  have left : r.linksToGo - 1 = r.decel := by omega
  rw [drivePulse_stopping stopping nofun stop, stopPulse_chain]
  dsimp only
  rw [left, if_neg (by omega), if_pos ⟨rfl, rfl⟩]
  exact ⟨rfl, rfl, rfl⟩

theorem drivePulse_reachesTarget {c : StopCause} {ph : StopPhase} {r : StopRecord}
    (stopping : s.chain.state = .stopping c ph) (moving : ph ≠ .braked) (stop : s.chain.stop = some r)
    (last : r.linksToGo = 1) :
    s.drivePulse.chain.state = .stopping c .braked ∧ s.drivePulse.chain.drive = .brake ∧
      s.drivePulse.chain.stop = some { r with linksToGo := 0 } := by
  rw [drivePulse_stopping stopping moving stop, stopPulse_chain]
  dsimp only
  rw [last, if_pos rfl]
  exact ⟨rfl, rfl, rfl⟩

theorem drivePulse_sweeps {n : Nat} (running : s.chain.state = .running) (sweep : s.chain.sweep = some n) (more : 1 < n) :
    s.drivePulse.chain.sweep = some (n - 1) ∧ s.drivePulse.chain.state = .running := by
  rw [drivePulse_sweep running sweep, if_neg (by omega)]
  refine ⟨rfl, ?_⟩
  dsimp only
  rw [watched_chain]
  exact running

/-- A sweep that ends on the pulse is judged by the position as the pulse leaves it (R56, R60, R68). -/
theorem drivePulse_endsSweep (running : s.chain.state = .running) (sweep : s.chain.sweep = some 1) :
    s.drivePulse.chain.sweep = none ∧ s.drivePulse.chain.gongTimer = none ∧ s.drivePulse.chain.gongsOn = false ∧
      (s.monitor.position = .valid → ∃ ph, s.drivePulse.chain.state = .stopping .sweepEnd ph) ∧
      (s.monitor.position ≠ .valid → s.drivePulse.chain.state = .running ∧
        (s.chain.deferred = none → s.drivePulse.chain.deferred = some .sweepEnd)) := by
  rw [drivePulse_sweep running sweep, if_pos (Nat.le_refl 1)]
  have gongs : s.watched.chain.unswept.sweep = none ∧ s.watched.chain.unswept.gongTimer = none ∧
      s.watched.chain.unswept.gongsOn = false := by
    rw [watched_chain]
    simp [ChainDrive.unswept, sweep]
  by_cases valid : s.monitor.position = .valid
  · rw [requestStop_valid _ (by rw [watched_monitor]; exact valid)]
    obtain ⟨-, sweepStands, timer, sounding, ph, state⟩ := placeStop_stopping s.watched.endSweep .sweepEnd
    rw [endSweep_chain] at sweepStands timer sounding
    exact ⟨sweepStands.trans gongs.1, timer.trans gongs.2.1, sounding.trans gongs.2.2, fun _ => ⟨ph, state⟩,
      fun notValid => absurd valid notValid⟩
  · rw [requestStop_notValid_chain _ (by rw [watched_monitor]; exact valid)]
    refine ⟨gongs.1, gongs.2.1, gongs.2.2, fun isValid => absurd isValid valid, fun _ => ⟨?_, fun absent => ?_⟩⟩
    · rw [watched_chain]
      exact running
    · rw [watched_chain]
      dsimp only
      rw [absent]
      rfl

theorem drivePulse_steps {n : Nat} (creeping : s.chain.state = .inspection .creeping) (step : s.chain.step = some n)
    (more : 1 < n) :
    s.drivePulse.chain.step = some (n - 1) ∧ s.drivePulse.chain.state = .inspection .creeping := by
  rw [drivePulse_step creeping step, if_neg (by omega)]
  refine ⟨rfl, ?_⟩
  dsimp only
  rw [watched_chain]
  exact creeping

theorem drivePulse_stallTimer (running : s.chain.state = .running) (moving : s.chain.drive ≠ .brake)
    (more : 1 < s.chain.sweep.getD 2) : s.drivePulse.chain.stallTimer = some 0 := by
  have restarted : s.watched.chain.stallTimer = some 0 := by
    rw [watched_chain]
    exact if_neg moving
  cases sweep : s.chain.sweep with
  | none =>
    rw [drivePulse_noSweep running sweep]
    exact restarted
  | some n =>
    rw [sweep, Option.getD_some] at more
    rw [drivePulse_sweep running sweep, if_neg (Nat.not_le_of_lt more)]
    exact restarted

end

/-! ## A missed index (R39) -/

theorem advanceCount_indexMissed {s : Live} (armed : s.monitor.watchArmed = true)
    (reached : s.nextCount = s.plan.geometry.indexTolerance + 2) : s.advanceCount.indexMissed = true := by
  have plan : s.advanceCount.plan = s.plan := plan_of_store ((advanceCount_only s).parts .store (by decide))
  rw [Live.indexMissed, plan, advanceCount_monitor]
  simp [armed, reached]

theorem loseIndex_offered {s : Live} (missed : s.indexMissed = true) :
    s.loseIndex.offered (.positionLost (s.plan.geometry.indexTolerance + 2)) := by
  unfold Live.loseIndex
  rw [if_pos missed]
  exact post_offered _ _

theorem feedTimers_only (s : Live) (phase : Nat) : Keeps wearParts s (s.feedTimers phase) := by
  unfold Live.feedTimers
  refine keeps_ite (Keeps.next (t := _) ?_ (postIf_only _ _ _)) ?_
  all_goals exact keeps_of (by intro q hq; cases q <;> simp_all [samePart]) rfl rfl

/-- What the rest of a pulse touches once its index has been judged. -/
theorem pulse_afterIndex (phase : Nat) (s : Live) : Keeps chainParts s.advanceCount.loseIndex (pulse phase s) := by
  have judged : Keeps wearParts (s.counted phase) (s.monitorPulse phase) :=
    keeps_ite (keeps_trans (rejudge_only _) (judgeSills_only _)) (rejudge_only _)
  exact keeps_trans (keeps_widen (keeps_trans (feedTimers_only _ phase) judged)) (drivePulse_only _)

theorem pulse_missesIndex (phase : Nat) {s : Live} (armed : s.monitor.watchArmed = true)
    (reached : s.nextCount = s.plan.geometry.indexTolerance + 2) :
    (pulse phase s).monitor.position = .unknown ∧ (pulse phase s).monitor.watchArmed = false ∧
      (pulse phase s).offered (.positionLost (s.plan.geometry.indexTolerance + 2)) := by
  have missed := advanceCount_indexMissed armed reached
  have plan : s.advanceCount.plan = s.plan := plan_of_store ((advanceCount_only s).parts .store (by decide))
  obtain ⟨-, position, watch, -⟩ := counted_read s phase
  have lost := loseIndex_monitor s.advanceCount
  rw [if_pos missed] at lost
  refine ⟨?_, ?_, (pulse_afterIndex phase s).offered (plan ▸ loseIndex_offered missed)⟩
  · rw [(pulse_counted phase s).position, position, lost]
  · rw [(pulse_counted phase s).watch, watch, lost]

/-! ## The rows -/

/-- A pulse's row touches the chain, its monitor, the shutters they tell and the ports. -/
theorem pulse_changesOnly (phase : Nat) (s : State) :
    changesOnly [.chain, .monitor, .gear, .image, .loop, .portC, .portF] s { s with live := pulse phase s.live } :=
  ⟨⟨rfl, rfl, rfl, rfl⟩, onlyParts_widen (pulse_only phase s.live).parts⟩

theorem monitorPulse_chain (phase : Nat) (s : Live) : (s.monitorPulse phase).chain = s.chain :=
  (monitorPulse_only s phase).parts .chain (by decide)

theorem execPulse_due {s : State} {phase : Nat} {due : Live → Bool} (on : s.power = .on) (h : due s.live = true) :
    onLive s (fun l => if due l then pulse phase l else l) = .next { s with live := pulse phase s.live } := by
  rw [onLive_of_on on, if_pos h]

section
variable {s : State} (on : s.power = .on) (phase : Nat)
include on

theorem execLinkPulse_next : exec (.linkPulse phase) s = .next { s with live := pulse phase s.live } := onLive_of_on on _

theorem execMissedIndex_due (armed : s.live.monitor.watchArmed = true)
    (reached : s.live.nextCount = s.live.plan.geometry.indexTolerance + 2) :
    exec (.missedIndex phase) s = .next { s with live := pulse phase s.live } :=
  execPulse_due on (by simp [Live.reachesMissed, armed, reached])

theorem execDecelPoint_due {c : StopCause} {r : StopRecord} (state : s.live.chain.state = .stopping c .approach)
    (stop : s.live.chain.stop = some r) (some_ : 0 < r.decel) (next : r.linksToGo = r.decel + 1) :
    exec (.decelPoint phase) s = .next { s with live := pulse phase s.live } :=
  execPulse_due on (by simp [Live.reachesDecel, state, stop, some_, next])

theorem execStopTargetReached_due {c : StopCause} {ph : StopPhase} {r : StopRecord}
    (state : s.live.chain.state = .stopping c ph) (moving : ph ≠ .braked) (stop : s.live.chain.stop = some r)
    (last : r.linksToGo = 1) :
    exec (.stopTargetReached phase) s = .next { s with live := pulse phase s.live } :=
  execPulse_due on (by cases ph <;> simp_all [Live.reachesTarget])

theorem execSweepEnd_due (running : s.live.chain.state = .running) (sweep : s.live.chain.sweep = some 1) :
    exec (.sweepEnd phase) s = .next { s with live := pulse phase s.live } :=
  execPulse_due on (by simp [Live.reachesSweepEnd, running, sweep])

end

/-- Settles O46. -/
theorem linkPulsesAct : Obligations.LinkPulsesAct := by
  refine ⟨fun s phase on inLoop => ?_, fun s phase on => ?_⟩
  all_goals
    intro frame
    have changes : frame { s with live := pulse phase s.live } := pulse_changesOnly phase s
    have chain := monitorPulse_chain phase s.live
  · have count : (pulse phase s.live).monitor.count = s.live.nextCount := pulse_count phase s.live
    have links := (pulse_counted phase s.live).links.trans (counted_read s.live phase).2.2.2
    refine ⟨⟨_, execLinkPulse_next on phase, changes, count.trans (nextCount_eq_mod inLoop), links, ?_⟩, ?_⟩
    · refine ⟨fun c r braked stop => ?_, fun c ph r stopping moving stop short off => ?_,
        fun n running sweep more => ?_, fun n creeping step more => ?_, fun moving more running => ?_⟩
      all_goals rw [← chain] at *
      · exact drivePulse_overruns braked stop
      · exact drivePulse_approaches stopping moving stop short off
      · exact drivePulse_sweeps running sweep more
      · exact drivePulse_steps creeping step more
      · exact drivePulse_stallTimer running moving more
    · intro armed reached
      obtain ⟨position, watch, offered⟩ := pulse_missesIndex phase armed reached
      exact ⟨_, execMissedIndex_due on phase armed reached, changes, position, watch, count.trans reached, offered⟩
  · refine ⟨fun c r state stop some_ next => ⟨_, execDecelPoint_due on phase state stop some_ next, changes, ?_⟩,
      fun c ph r state moving stop last => ⟨_, execStopTargetReached_due on phase state moving stop last, changes, ?_⟩,
      fun running sweep => ⟨_, execSweepEnd_due on phase running sweep, changes, ?_⟩⟩
    · rw [← chain] at state stop
      exact drivePulse_reachesDecel state stop some_ next
    · rw [← chain] at state stop
      exact drivePulse_reachesTarget state moving stop last
    · have position : (pulse phase s.live).monitor.position = (s.live.monitorPulse phase).monitor.position :=
        (drivePulse_monitorStands _).position
      dsimp only
      rw [position]
      rw [← chain] at running sweep ⊢
      exact drivePulse_endsSweep running sweep

end Sys2Proof.Machine

/-! # O47, O48: the INDEX pulse, the settled event and the stall -/

namespace Sys2Proof.Machine

-- one thread: a proof that waits for the theorems before it would hold a thread of its own
set_option Elab.async false

/-! ## The INDEX pulse (R37, R60) -/

theorem monitorIndex_offered {s : Live} {n : Note}
    (told : (indexJudge s.monitor.position s.indexError s.plan.geometry.indexTolerance).2 = some n) :
    s.monitorIndex.offered n := by
  unfold Live.monitorIndex
  dsimp only
  rw [told]
  exact post_offered _ _

theorem rejudge_chain (s : Live) : s.rejudge.chain = s.chain := (rejudge_only s).parts .chain (by decide)

theorem monitorIndex_chain (s : Live) : s.monitorIndex.chain = s.chain := (monitorIndex_only s).parts .chain (by decide)

theorem indexStep_after (s : Live) : Keeps chainParts s.monitorIndex (indexStep s) :=
  have judged : Keeps chainParts s.monitorIndex s.monitorIndex.rejudge := keeps_widen (rejudge_only _)
  keeps_ite judged (keeps_trans judged (placeDeferred_only _))

/-- The position and the notice of an INDEX pulse are those `indexJudge` gives (R37). -/
theorem indexStep_judges {s : Live} {q : Position} {note : Option Note}
    (judged : indexJudge s.monitor.position s.indexError s.plan.geometry.indexTolerance = (q, note)) :
    (indexStep s).monitor.position = q ∧ ∀ n, note = some n → (indexStep s).offered n := by
  refine ⟨(indexStep_judged s).position.trans ?_, fun n told => (indexStep_after s).offered (monitorIndex_offered ?_)⟩
  · rw [monitorIndex_monitor, judged]
  · rw [judged, told]

section
variable {s : Live}

theorem indexStep_fromUnknown (before : s.monitor.position = .unknown) :
    (indexStep s).monitor.position = .valid ∧ (indexStep s).offered (.positionValid s.indexError) :=
  have ⟨position, told⟩ := indexStep_judges (s := s) (by rw [before]; rfl)
  ⟨position, told _ rfl⟩

theorem indexStep_fromValid (before : s.monitor.position = .valid) :
    (s.indexError = 0 → (indexStep s).monitor.position = .valid) ∧
    (s.indexError ≠ 0 → s.indexError.natAbs ≤ s.plan.geometry.indexTolerance →
      (indexStep s).monitor.position = .valid ∧ (indexStep s).offered (.resync s.indexError)) ∧
    (s.plan.geometry.indexTolerance < s.indexError.natAbs →
      (indexStep s).monitor.position = .suspect ∧ (indexStep s).offered (.positionSuspect s.indexError)) := by
  refine ⟨fun none_ => ?_, fun some_ within => ?_, fun beyond => ?_⟩
  · exact (indexStep_judges (by rw [before, indexJudge, if_pos none_])).1
  · have ⟨position, told⟩ := indexStep_judges (s := s) (q := .valid) (note := some (.resync s.indexError))
      (by rw [before, indexJudge, if_neg some_, if_pos within])
    exact ⟨position, told _ rfl⟩
  · have some_ : s.indexError ≠ 0 := fun none_ => by simp [none_] at beyond
    have ⟨position, told⟩ := indexStep_judges (s := s) (q := .suspect) (note := some (.positionSuspect s.indexError))
      (by rw [before, indexJudge, if_neg some_, if_neg (Nat.not_le_of_lt beyond)])
    exact ⟨position, told _ rfl⟩

theorem indexStep_fromSuspect (before : s.monitor.position = .suspect) :
    (s.indexError.natAbs ≤ s.plan.geometry.indexTolerance →
      (indexStep s).monitor.position = .valid ∧ (indexStep s).offered (.positionValid s.indexError)) ∧
    (s.plan.geometry.indexTolerance < s.indexError.natAbs →
      (indexStep s).monitor.position = .suspect ∧ (indexStep s).offered (.positionSuspect s.indexError)) := by
  refine ⟨fun within => ?_, fun beyond => ?_⟩
  · have ⟨position, told⟩ := indexStep_judges (s := s) (q := .valid) (note := some (.positionValid s.indexError))
      (by rw [before, indexJudge, if_pos within])
    exact ⟨position, told _ rfl⟩
  · have ⟨position, told⟩ := indexStep_judges (s := s) (q := .suspect) (note := some (.positionSuspect s.indexError))
      (by rw [before, indexJudge, if_neg (Nat.not_le_of_lt beyond)])
    exact ⟨position, told _ rfl⟩

/-- A deferred stop is placed as the position becomes VALID (R60). -/
theorem indexStep_placesDeferred {c : StopCause} (running : s.chain.state = .running)
    (deferred : s.chain.deferred = some c) (before : s.monitor.position ≠ .valid)
    (valid : (indexStep s).monitor.position = .valid) :
    (indexStep s).chain.deferred = none ∧ ∃ ph, (indexStep s).chain.state = .stopping c ph := by
  have judged : s.monitorIndex.rejudge.monitor.position = .valid :=
    (rejudge_monitorStands _).position.trans ((indexStep_judged s).position.symm.trans valid)
  have chain : s.monitorIndex.rejudge.chain = s.chain :=
    (rejudge_chain _).trans (monitorIndex_chain s)
  have placed : indexStep s = s.monitorIndex.rejudge.endSweep.placeStop c := by
    unfold indexStep
    dsimp only
    rw [if_neg before, placeDeferred_placed (by rw [chain]; exact running) (by rw [chain]; exact deferred) judged]
  obtain ⟨none_, -, -, -, stopping⟩ := placeStop_stopping s.monitorIndex.rejudge.endSweep c
  rw [placed]
  exact ⟨none_, stopping⟩

end

/-- Settles O47. -/
theorem indexPulseJudgesPosition : Obligations.IndexPulseJudgesPosition := by
  intro s on l e tol
  have stands := indexStep_judged s.live
  have monitor := monitorIndex_monitor s.live
  have index := stands.index
  rw [monitor] at index
  refine ⟨{ s with live := indexStep s.live }, onLive_of_on on _, indexStep_count _, ?_, ?_, ?_,
    indexStep_fromUnknown, indexStep_fromValid, indexStep_fromSuspect,
    fun c running deferred before valid => indexStep_placesDeferred running deferred before valid,
    ⟨rfl, rfl, rfl, rfl⟩, onlyParts_widen (indexStep_only s.live).parts⟩
  · exact stands.watch.trans (by rw [monitor])
  · exact stands.error.trans (by rw [monitor]; rfl)
  · refine index.trans ?_
    dsimp only
    split <;> rfl

/-! ## The settled event (R42, R59, R72) -/

theorem ShutterWear.settled {s t : Live} (h : ShutterWear s t) : t.monitor.settled = s.monitor.settled := by
  obtain ⟨w, monitor, -⟩ := h
  rw [monitor]

theorem ShutterWear.answers {s t : Live} (h : ShutterWear s t) : t.monitor.answers = s.monitor.answers := by
  obtain ⟨w, monitor, -⟩ := h
  rw [monitor]

/-- Whether the chain is settled stands. -/
def SettledStands (s t : Live) : Prop := t.monitor.settled = s.monitor.settled

theorem settledStands_composes : Composes SettledStands := ⟨fun _ => rfl, fun h g => Eq.trans g h⟩

theorem rejudgeSill_settled (s : Live) (i : Nat) : SettledStands s (s.rejudgeSill i) := by
  unfold Live.rejudgeSill
  dsimp only
  split
  · rfl
  · exact (judgeWhere_shutterWear _ _).settled

theorem rejudge_settled (s : Live) : SettledStands s s.rejudge := settledStands_composes.foldl _ rejudgeSill_settled _ s

/-- The number of sills not CLEAR hangs on the plan and the answers (R59). -/
theorem sillsNotClear_of_answers {s t : Live} (plan : t.plan = s.plan) (answers : t.monitor.answers = s.monitor.answers) :
    t.sillsNotClear = s.sillsNotClear := by
  unfold Live.sillsNotClear
  rw [plan, answers]

section
variable {s : Live}

theorem settleDrive_stops {c : StopCause} (braked : s.chain.state = .stopping c .braked) :
    s.settleDrive.chain =
      { s.chain with stop := none, state := if c = .fire then .held .fire else .parked } := by
  unfold Live.settleDrive
  simp only [braked]
  refine ((takeChainState_only _).parts .chain (by decide)).trans ?_
  rw [(postIf_only _ _ _).parts .chain (by decide), setChain_chain]

theorem settleDrive_overran {c : StopCause} {r : StopRecord} (braked : s.chain.state = .stopping c .braked)
    (stop : s.chain.stop = some r) (due : 1 ≤ r.overrun ∨ 1 ≤ s.sillsNotClear) :
    s.settleDrive.offered (.chainOverrun r.overrun s.sillsNotClear) := by
  unfold Live.settleDrive
  simp only [braked, stop, Option.map_some, Option.getD_some]
  refine (takeChainState_only _).offered ?_
  rw [Live.postIf, if_pos (by simpa using due)]
  exact post_offered _ _

theorem settleDrive_steps (braked : s.chain.state = .inspection .braked) :
    s.settleDrive.chain = { s.chain with step := none, state := .inspection .idle } ∧
      s.settleDrive.offered (.stepDone s.monitor.count s.monitor.position) := by
  unfold Live.settleDrive
  simp only [braked]
  constructor
  · refine ((takeChainState_only _).parts .chain (by decide)).trans ?_
    rw [Live.post_chain, setChain_chain]
  · exact (takeChainState_only _).offered (post_offered _ _)

theorem settleDrive_stands (noStop : ∀ c, s.chain.state ≠ .stopping c .braked)
    (noStep : s.chain.state ≠ .inspection .braked) : s.settleDrive = s := by
  unfold Live.settleDrive
  split
  · next c braked => exact absurd braked (noStop c)
  · next braked => exact absurd braked noStep
  · rfl

theorem settleDrive_drive : s.settleDrive.chain.drive = s.chain.drive := by
  by_cases step : s.chain.state = .inspection .braked
  · rw [(settleDrive_steps step).1]
  · by_cases stop : ∃ c, s.chain.state = .stopping c .braked
    · obtain ⟨c, braked⟩ := stop
      rw [settleDrive_stops braked]
    · rw [settleDrive_stands (fun c braked => stop ⟨c, braked⟩) step]

end

/-- The settled event with its answers judged, before the Chain Drive Controller takes it (R42, R59). -/
def Live.settledJudged (s : Live) : Live :=
  ({ s with monitor := { s.monitor with settled := true, settleTimer := none } } : Live).rejudge

theorem settledJudged_monitor (s : Live) : s.settledJudged.monitor.settled = true ∧
    s.settledJudged.monitor.count = s.monitor.count ∧ s.settledJudged.monitor.position = s.monitor.position := by
  unfold Live.settledJudged
  exact ⟨rejudge_settled _, (rejudge_monitorStands _).count, (rejudge_monitorStands _).position⟩

theorem settledJudged_chain (s : Live) : s.settledJudged.chain = s.chain := rejudge_chain _

/-- The shutters take the settled event last: of the chain and its monitor they change the wear counts alone. -/
theorem settled_last (s : Live) : ShutterWear s.settledJudged s.settledJudged.settleDrive.judgeSills ∧
    s.settledJudged.settleDrive.judgeSills.chain = s.settledJudged.settleDrive.chain ∧
    s.settledJudged.settleDrive.judgeSills.plan = s.settledJudged.plan :=
  ⟨shutterWear_composes.trans (settleDrive_shutterWear _) (judgeSills_shutterWear _),
    (judgeSills_only _).parts .chain (by decide),
    plan_of_store (((judgeSills_only _).parts .store (by decide)).trans ((settleDrive_only _).parts .store (by decide)))⟩

theorem chainSettledStep_due {s : Live} {n : Nat} (braked : s.chain.drive = .brake) (moving : s.monitor.settled = false)
    (timer : s.monitor.settleTimer = some n) (due : 1000 ≤ n) :
    chainSettledStep s = s.settledJudged.settleDrive.judgeSills := by
  unfold chainSettledStep
  rw [if_pos ⟨braked, moving, by rw [timer]; exact decide_eq_true due⟩]
  rfl

theorem stallStep_due {s : Live} {n : Nat} (moving : s.chain.drive ≠ .brake) (timer : s.chain.stallTimer = some n)
    (due : s.plan.geometry.stallTime ≤ n) : stallStep s = s.emergency .stall 0 .fault := by
  unfold stallStep
  rw [if_pos ⟨moving, by rw [timer]; exact decide_eq_true due⟩]

/-- Settles O48. -/
theorem settleAndStall : Obligations.SettleAndStall := by
  intro s n on frame
  refine ⟨fun braked moving timer due => ?_, fun moving timer due => ?_⟩
  · obtain ⟨wear, chain, plan⟩ := settled_last s.live
    obtain ⟨settled, count, position⟩ := settledJudged_monitor s.live
    have before := settledJudged_chain s.live
    have notClear := sillsNotClear_of_answers plan wear.answers
    have ran : exec .chainSettled s = .next { s with live := s.live.settledJudged.settleDrive.judgeSills } :=
      (onLive_of_on on _).trans (by rw [chainSettledStep_due braked moving timer due])
    have changes : frame { s with live := chainSettledStep s.live } :=
      ⟨⟨rfl, rfl, rfl, rfl⟩, onlyParts_widen (chainSettledStep_only s.live).parts⟩
    rw [chainSettledStep_due braked moving timer due] at changes
    refine ⟨_, ran, changes, ?_⟩
    dsimp only
    refine ⟨wear.settled.trans settled, wear.unmoved.1.trans count, ?_, fun c stopping => ?_, fun step => ?_,
      fun noStop noStep => ?_⟩
    · rw [chain, settleDrive_drive, before]
      exact braked
    · rw [← before] at stopping
      rw [chain, settleDrive_stops stopping, notClear]
      refine ⟨rfl, rfl, fun r stop due => (judgeSills_only _).offered ?_⟩
      exact settleDrive_overran stopping (by rw [before]; exact stop) due
    · rw [← before] at step
      obtain ⟨stepped, done⟩ := settleDrive_steps step
      rw [chain, stepped]
      rw [count, position] at done
      exact ⟨rfl, rfl, (judgeSills_only _).offered done⟩
    · rw [← before] at noStop noStep
      rw [chain, settleDrive_stands noStop noStep, before]
  · have ran : exec .stall s = .next { s with live := s.live.emergency .stall 0 .fault } :=
      (onLive_of_on on _).trans (by rw [stallStep_due moving timer due])
    refine ⟨_, ran, ⟨⟨rfl, rfl, rfl, rfl⟩, onlyParts_widen (emergency_only s.live _ _ _).parts⟩, ?_⟩
    have stalls : (s.live.chain.unswept.turned .brake).stallTimer = none :=
      (if_neg moving).trans (if_pos rfl)
    dsimp only
    refine ⟨?_, ?_, ?_, ?_, ?_, ?_, ?_, emergency_offered _ _ _ _, emergency_stops _ _ _ _⟩
    all_goals rw [emergency_chain]
    · rfl
    · rfl
    · exact stalls

end Sys2Proof.Machine

/-! # O29: WEAR READ with the clear option, the seconds tick and the wear record -/

namespace Sys2Proof.Machine

-- one thread: a proof that waits for the theorems before it would hold a thread of its own
set_option Elab.async false

/-! ## WEAR READ with the clear option (R48) -/

/-- The part with every wear count 0. -/
def State.wearCleared (s : State) : State :=
  { s with live := { s.live with monitor := { s.live.monitor with wear := .zero } } }

theorem wearCleared_only (s : State) : onlyParts [.monitor] s.live s.wearCleared.live := by
  intro q hq
  cases q <;> simp_all [samePart, State.wearCleared]

theorem execWearReadClear_cleared {s : State} (taken : s.canTake .c .wearRead) :
    exec (.wearReadClear .c (.fits ())) s =
      .next (s.wearCleared.served .c .wearRead .done (.wear s.live.monitor.wear)) :=
  onLive_request_answered (l := s.wearCleared.live) taken (fun _ => rfl) rfl (by rw [breakLoad_never]; rfl)

theorem execWearReadClear_refused {s : State} (taken : s.canTake .f .wearRead) :
    exec (.wearReadClear .f (.fits ())) s = .next (s.served .f .wearRead .notPermitted .none) :=
  onLive_request_answered (l := s.live) taken (fun _ => rfl) rfl (by rw [breakLoad_never]; rfl)

theorem wearCleared_served (s : State) (r : Result) (f : Fields) :
    changesOnly [.monitor, .portC] s (s.wearCleared.served .c .wearRead r f) :=
  ⟨⟨rfl, rfl, rfl, rfl⟩,
    onlyParts_trans (onlyParts_widen (wearCleared_only s)) (onlyParts_widen (withPort_only s.wearCleared.live .c _))⟩

/-! ## The wear record (R47) -/

/-- The sequence number written is higher than either place holds. -/
theorem lastSequence_ge (n : NonVolatile) {o : WearRecord} (held : n.wearA = some o ∨ n.wearB = some o) :
    o.sequence ≤ n.lastSequence := by
  unfold NonVolatile.lastSequence
  rcases held with a | b
  · rw [a]; exact Nat.le_max_left _ _
  · rw [b]; exact Nat.le_max_right _ _

theorem execWearWrite_due {s : State} (on : s.power = .on) (due : s.live.wearDue = true) :
    exec .wearWrite s =
      .next { s with nv := s.nv.writeWear s.live.monitor.wear, live := { s.live with wearDue := false } } := by
  change whenOn s _ = _
  rw [whenOn, if_pos on, if_pos due]

/-- The seconds counter stands at its top (R192). -/
theorem execSecondsTick_top {s : State} (on : s.power = .on) (top : 4294967294 ≤ s.live.seconds) :
    exec .secondsTick s = .next s := by
  refine (onLive_of_on on secondsTickStep).trans ?_
  rw [secondsTickStep, if_neg (show ¬ s.live.seconds < Config.secondsTop from Nat.not_lt_of_le top)]

theorem execSecondsTick_counts {s : State} (on : s.power = .on) (below : s.live.seconds < 4294967294) :
    exec .secondsTick s = .next { s with live := { s.live with
      seconds := s.live.seconds + 1
      wearDue := s.live.wearDue || (s.live.seconds + 1) % 60 == 0 } } := by
  refine (onLive_of_on on secondsTickStep).trans ?_
  rw [secondsTickStep, if_pos (show s.live.seconds < Config.secondsTop from below)]
  rfl

/-- Settles O29. -/
theorem wearReadAndRecord : Obligations.WearReadAndRecord := by
  refine ⟨fun s => ⟨fun taken => ⟨_, execWearReadClear_cleared taken, ⟨rfl, rfl⟩, rfl, wearCleared_served s _ _⟩,
      execWearReadClear_refused⟩,
    fun s on => ⟨execSecondsTick_counts on, execSecondsTick_top on, fun due => ?_⟩⟩
  exact ⟨_, ⟨s.live.monitor.wear, s.nv.lastSequence + 1⟩, execWearWrite_due on due, rfl, rfl,
    fun o held => Nat.lt_succ_of_le (lastSequence_ge s.nv held), rfl, rfl, rfl⟩

end Sys2Proof.Machine

/-! # O24: the frame, the notice record, signed numbers and lists -/

namespace Sys2Proof.Machine

-- one thread: a proof that waits for the theorems before it would hold a thread of its own
set_option Elab.async false

/-! ## Fields (R189) -/

@[simp] theorem bigEndian_length (k n : Nat) : (bigEndian k n).length = k := by
  induction k generalizing n with
  | zero => rfl
  | succ k ih => simp [bigEndian, ih]

theorem bigEndian_one (n : Nat) : bigEndian 1 n = [BitVec.ofNat 8 n] := rfl

@[simp] theorem optField_length (k : Nat) (x : Option Nat) : (optField k x).length = k := by
  cases x <;> simp [optField]

@[simp] theorem signedField_length (k : Nat) (x : Option Int) : (signedField k x).length = k := by
  cases x <;> simp [signedField]

/-- Two bytes, the more significant first, spell a number below 65,536. -/
theorem append_toNat {m : Nat} (h : m < 65536) :
    (BitVec.ofNat 8 (m / 256) ++ BitVec.ofNat 8 m : BitVec 16).toNat = m := by
  rw [BitVec.toNat_append, ← Nat.shiftLeft_add_eq_or_of_lt (BitVec.isLt _)]
  simp only [BitVec.toNat_ofNat, Nat.shiftLeft_eq]
  omega

/-- The two bytes of a signed number are its two's complement (R37, R189). -/
theorem signedField_two {e : Int} (low : -32768 ≤ e) (high : e < 32768) :
    ∃ a b : Byte, signedField 2 (some e) = [a, b] ∧ (a ++ b : BitVec 16).toInt = e := by
  refine ⟨_, _, rfl, ?_⟩
  have bound : (e % (256 ^ 2 : Nat)).toNat < 65536 := by omega
  rw [BitVec.toInt_eq_toNat_cond, append_toNat bound]
  split <;> omega

theorem byteList_toNat {l : List Nat} (count : l.length ≤ 255) (bytes : ∀ x ∈ l, x ≤ 255) :
    (byteList l).map BitVec.toNat = l.length :: l := by
  have byte : ∀ {x : Nat}, x ≤ 255 → (BitVec.ofNat 8 x).toNat = x := fun h => by
    rw [BitVec.toNat_ofNat]
    exact Nat.mod_eq_of_lt (by omega)
  have elements : (l.flatMap (bigEndian 1)).map BitVec.toNat = l := by
    induction l with
    | nil => rfl
    | cons x rest ih =>
      have later := ih (by simp at count; omega) fun y hy => bytes y (List.mem_cons_of_mem _ hy)
      rw [List.flatMap_cons, List.map_append, later, bigEndian_one, List.map_singleton, byte (bytes x List.mem_cons_self)]
      rfl
  rw [byteList, listField, List.map_append, elements, bigEndian_one, List.map_singleton, byte count]
  rfl

/-! ## The notice record (section 11.6) -/

theorem StepResult.bytes_length (r : StepResult) : r.bytes.length ≤ 2 := by
  cases r <;> simp [StepResult.bytes]

theorem callDetail_length (key : CallKey) (other : Byte) (number : Option Nat) (level : Nat) (place : Option Nat) :
    (callDetail key other number level place).length = 4 := by
  simp [callDetail]

theorem detail_length (stamp : Nat) (n : Note) : (n.detail stamp).length ≤ 4 := by
  cases n with
  | callEntered | callDropped | callRemoved => exact Nat.le_of_eq (callDetail_length _ _ _ _ _)
  | programmeStep i kind result => simpa [Note.detail] using Nat.lt_add_one_of_le (Nat.le_succ_of_le result.bytes_length)
  | stepSkipped i kind reason => cases reason <;> simp [Note.detail]
  | _ => simp [Note.detail, closeField]

theorem noticeBytes_length (n : Notice) : (noticeBytes n).length = 12 := by
  have detail := detail_length n.stamp n.note
  simp only [noticeBytes, List.length_append, bigEndian_length, List.length_replicate]
  omega

/-! ## The frame (R187) -/

theorem lengthByte_toNat {body : List Byte} (short : body.length ≤ 200) : (lengthByte body).toNat = body.length := by
  rw [lengthByte, BitVec.toNat_ofNat]
  exact Nat.mod_eq_of_lt (by omega)

/-- The two bytes of the check spell it, the more significant first. -/
theorem crcBytes_joined (r : Word16) :
    ((r >>> 8).setWidth 8).zeroExtend 16 <<< 8 ||| (r.setWidth 8 : BitVec 8).zeroExtend 16 = r := by
  ext i hi
  by_cases low : i < 8
  · simp [low, hi]
  · simp [low, hi, show i - 8 < 8 by omega, show 8 + (i - 8) = i by omega]

/-- While its bytes are short of the length byte's count and the check, a frame is unfinished. -/
theorem frameStatus_unfinished {n : Byte} {rest : List Byte} (nonempty : n ≠ 0) (most : n.toNat ≤ 200)
    (short : rest.length < n.toNat + 2) : frameStatus (n :: rest) = .unfinished := by
  have length : ¬ (n = 0 ∨ Config.bodyMax < n.toNat) := not_or.mpr ⟨nonempty, Nat.not_lt_of_le most⟩
  rw [frameStatus, if_neg length, if_pos short]

/-- A receiver takes byte after byte as long as what it holds is an unfinished frame. -/
theorem receiveBytes_unfinished {l held : List Byte}
    (unfinished : ∀ k, k < l.length → frameStatus (held ++ l.take k) = .unfinished) :
    l.foldl receiveByte (.receiving held) = .receiving (held ++ l) := by
  induction l generalizing held with
  | nil => simp
  | cons b rest ih =>
    have first : receiveByte (.receiving held) b = .receiving (held ++ [b]) := by
      have status := unfinished 0 (by simp)
      rw [List.take_zero, List.append_nil] at status
      simp only [receiveByte, status]
    rw [List.foldl_cons, first, ih fun k hk => ?_, List.append_assoc, List.singleton_append]
    have later := unfinished (k + 1) (by simpa using hk)
    rwa [List.take_succ_cons, ← List.singleton_append, ← List.append_assoc] at later

section
variable {body : List Byte} (nonempty : 1 ≤ body.length) (short : body.length ≤ 200)
include nonempty short

theorem lengthByte_ne_zero : lengthByte body ≠ 0 := fun zero => by
  have length := lengthByte_toNat short
  rw [zero, show BitVec.toNat (0 : Byte) = 0 from rfl] at length
  omega

theorem frameTail_unfinished (k : Nat) (hk : k < (frameTail body).length) :
    frameStatus ((frameTail body).take k) = .unfinished := by
  cases k with
  | zero => rfl
  | succ k =>
    have length := lengthByte_toNat short
    simp only [frameTail, crcBytes, List.length_append, List.length_cons, List.length_nil] at hk
    rw [frameTail, List.cons_append, List.take_succ_cons]
    refine frameStatus_unfinished (lengthByte_ne_zero nonempty short) (by omega) ?_
    rw [List.length_take, length]
    omega

theorem frameTail_whole : frameStatus (frameTail body) = .whole := by
  have length := lengthByte_toNat short
  have fits : ¬ (lengthByte body = 0 ∨ Config.bodyMax < (lengthByte body).toNat) :=
    not_or.mpr ⟨lengthByte_ne_zero nonempty short, by rw [length]; exact Nat.not_lt_of_le short⟩
  rw [frameTail, List.cons_append, frameStatus, if_neg fits, length, if_neg (by simp [crcBytes])]
  simp [crcBytes, crcBytes_joined]

theorem frameBytes_received : (frameBytes body).foldl receiveByte .hunting = .receiving (frameTail body) := by
  rw [frameBytes, List.foldl_cons, show receiveByte .hunting leadByte = .receiving [] from rfl]
  exact receiveBytes_unfinished fun k hk => frameTail_unfinished nonempty short k hk

end

/-- Settles O24. -/
theorem framesAndNoticesLaidOut : Obligations.FramesAndNoticesLaidOut := by
  refine ⟨fun body nonempty short => ⟨frameBytes_received nonempty short, frameTail_whole nonempty short⟩,
    fun n => ⟨detail_length n.stamp n.note, noticeBytes_length n⟩, fun e stamp low high => ?_,
    fun l count bytes => byteList_toNat count bytes⟩
  obtain ⟨a, b, bytes, value⟩ := signedField_two low high
  exact ⟨a, b, bytes, bytes, bytes, value⟩

end Sys2Proof.Machine

/-! # The chain's moves and the interlock

What every change of the Chain Drive Controller keeps of its own record (`ChainMove`): it engages no chain anew, takes the drive
off BRAKE in the driven states alone, and leaves no item where the item table of section 4.1 gives none (R51, R65). `Safe` says
the same of the whole running part, with the sill shutters of R51 and the zones in ALARM of R79. -/

namespace Sys2Proof.Machine

-- one thread: a proof that waits for the theorems before it would hold a thread of its own
set_option Elab.async false

/-- Shutters in OPEN stay there. -/
def OpenedStand (s t : Live) : Prop := ∀ k, (s.shutter k).state = .opened → (t.shutter k).state = .opened

/-- The chain's operations judge shutters in ARMED alone. -/
theorem openedStand_chainRule : ChainRule OpenedStand where
  same := fun _ _ hg k opened => by simpa only [Live.shutter, hg] using opened
  judge := fun s q k opened => by rw [(rests_chainRule k).judge s q (by rw [opened]; nofun)]; exact opened
  trans := fun h g k opened => g k (h k opened)

/-- The drive is off BRAKE in the driven states alone (R51). -/
def ChainDrive.Driven (c : ChainDrive) : Prop := c.drive ≠ .brake → c.state.driven = true

/-- The drive stands at BRAKE, in a state that calls for it. -/
def ChainDrive.AtBrake (c : ChainDrive) : Prop := c.drive = .brake ∧ c.state.driven = false

/-- A change of the Chain Drive Controller's record that engages no chain anew, releases no brake outside the driven
states and leaves no item where the item table of section 4.1 gives none. -/
structure ChainMove (s t : Live) : Prop where
  driven : s.chain.Driven → t.chain.Driven
  engaged : s.chain.Driven → t.chain.state.engaged = true → s.chain.state.engaged = true
  items : s.chain.Driven → ChainItems s → ChainItems t
  atBrake : s.chain.AtBrake → t.chain.AtBrake

theorem ChainItems.of_chain {s t : Live} (h : t.chain = s.chain) (i : ChainItems s) : ChainItems t := by
  constructor <;> rw [h]
  exacts [i.stop, i.deferred, i.sweep, i.carried, i.step, i.warnTimer, i.gongTimer, i.stallTimer]

theorem chainMove_of_chain {s t : Live} (h : t.chain = s.chain) : ChainMove s t where
  driven := by rw [h]; exact id
  engaged := by rw [h]; exact fun _ => id
  items := fun _ => ChainItems.of_chain h
  atBrake := by rw [h]; exact id

theorem chainMove_refl (s : Live) : ChainMove s s := chainMove_of_chain rfl

theorem ChainMove.trans {s t u : Live} (h : ChainMove s t) (g : ChainMove t u) : ChainMove s u where
  driven := g.driven ∘ h.driven
  engaged := fun d => h.engaged d ∘ g.engaged (h.driven d)
  items := fun d => g.items (h.driven d) ∘ h.items d
  atBrake := g.atBrake ∘ h.atBrake

theorem chainMove_ite {s t u : Live} {c : Prop} [Decidable c] (ht : ChainMove s t) (hu : ChainMove s u) :
    ChainMove s (if c then t else u) := ChainRule.either ht hu

/-! ## The changes of the Chain Drive Controller -/

/-- A state that calls for BRAKE is not driven. -/
theorem ChainState.not_driven {st : ChainState} (rests : st.engaged = false) : st.driven = false := by
  grind [ChainState.engaged]

theorem emergency_move {s : Live} (moves : s.chain.state.driven = true) (why : EmergencyReason) (i : Nat)
    {st : ChainState} (rests : st.engaged = false) : ChainMove s (s.emergency why i st) := by
  have chain := emergency_chain s why i st
  have still := ChainState.not_driven rests
  constructor
  · grind [ChainDrive.Driven, ChainDrive.turned]
  · grind
  · rintro - ⟨stop, deferred, sweep, carried, step, warnTimer, gongTimer, stallTimer⟩
    constructor <;> grind [ChainDrive.turned, ChainDrive.unswept, ChainState.driven]
  · grind [ChainDrive.AtBrake]

/-- The record once a warning has ended, or a start or a stop is dropped: the state alone may be another, and the timer
and the carried sweep of a warning, a stop and a step are absent. -/
theorem endWarning_chain (s : Live) (st : ChainState) : (s.endWarning st).chain =
    { s.chain with warnTimer := none, carriedLoops := none, gongsOn := false, state := st } :=
  enterChain_chain _ st

theorem dropTo_chain (s : Live) (st : ChainState) :
    (s.dropTo st).chain = { s.chain with stop := none, step := none, state := st } := enterChain_chain _ st

theorem enterWarning_chain (s : Live) (l : Option Nat) : (s.enterWarning l).chain =
    { s.chain with warnTimer := some 0, carriedLoops := l, gongsOn := true, state := .warning } :=
  enterChain_chain _ .warning

theorem beginSweep_chain (s : Live) (n : Nat) : (s.beginSweep n).chain =
    { s.chain with sweep := some (n * s.plan.geometry.loopLength), gongTimer := some 0, gongsOn := true } := rfl

theorem endWarning_move {s : Live} (warning : s.chain.state = .warning) {st : ChainState} (rests : st.engaged = false) :
    ChainMove s (s.endWarning st) := by
  have chain := endWarning_chain s st
  have still := ChainState.not_driven rests
  constructor
  · grind [ChainDrive.Driven, ChainState.driven]
  · grind
  · rintro d ⟨stop, deferred, sweep, carried, step, warnTimer, gongTimer, stallTimer⟩
    constructor <;> grind [ChainState.driven]
  · grind [ChainDrive.AtBrake]

/-- A stop or a step that has braked is left. -/
theorem dropTo_move {s : Live} {c : StopCause}
    (braked : s.chain.state = .stopping c .braked ∨ s.chain.state = .inspection .braked) {st : ChainState}
    (rests : st.engaged = false) : ChainMove s (s.dropTo st) := by
  have chain := dropTo_chain s st
  have still := ChainState.not_driven rests
  have was : s.chain.state.driven = false := by grind [ChainState.driven]
  constructor
  · grind [ChainDrive.Driven]
  · grind
  · rintro d ⟨stop, deferred, sweep, carried, step, warnTimer, gongTimer, stallTimer⟩
    constructor <;> grind
  · grind [ChainDrive.AtBrake]

/-- A state of rest gives none of the items. -/
theorem ChainState.atRest_not {st : ChainState} (rests : st.atRest = true) :
    st.engaged = false ∧ st.driven = false ∧ (∀ c p, st ≠ .stopping c p) ∧ st ≠ .running ∧ st ≠ .warning ∧
      st ≠ .inspection .creeping ∧ st ≠ .inspection .braked := by
  unfold ChainState.atRest at rests
  split at rests
  case h_4 => cases rests
  all_goals exact ⟨rfl, rfl, nofun, nofun, nofun, nofun, nofun⟩

/-- One state of rest passes to another. -/
theorem enterChain_move {s : Live} (rests : s.chain.state.atRest = true) {st : ChainState} (still : st.atRest = true) :
    ChainMove s (s.enterChain st) := by
  have chain := enterChain_chain s st
  obtain ⟨-, undriven, noStop, notRunning, notWarning, notCreeping, notBraked⟩ := ChainState.atRest_not rests
  obtain ⟨unengaged, undriven', -⟩ := ChainState.atRest_not still
  constructor
  · grind [ChainDrive.Driven]
  · grind
  · rintro d ⟨stop, deferred, sweep, carried, step, warnTimer, gongTimer, stallTimer⟩
    constructor <;> grind
  · grind [ChainDrive.AtBrake]

/-- A stop takes another cause in the phase it has reached (R61). -/
theorem enterChain_cause_move {s : Live} {c : StopCause} {ph : StopPhase} (stopping : s.chain.state = .stopping c ph)
    (c' : StopCause) : ChainMove s (s.enterChain (.stopping c' ph)) := by
  have chain := enterChain_chain s (.stopping c' ph)
  have same : (ChainState.stopping c' ph).driven = (ChainState.stopping c ph).driven := by cases ph <;> rfl
  constructor
  · grind [ChainDrive.Driven]
  · grind [ChainState.engaged]
  · rintro d ⟨stop, deferred, sweep, carried, step, warnTimer, gongTimer, stallTimer⟩
    constructor <;> grind
  · grind [ChainDrive.AtBrake]

theorem endSweep_move (s : Live) : ChainMove s s.endSweep := by
  have chain := endSweep_chain s
  constructor
  · grind [ChainDrive.Driven, ChainDrive.unswept]
  · grind [ChainDrive.unswept]
  · rintro d ⟨stop, deferred, sweep, carried, step, warnTimer, gongTimer, stallTimer⟩
    constructor <;> grind [ChainDrive.unswept]
  · grind [ChainDrive.AtBrake, ChainDrive.unswept]

theorem placeStop_move {s : Live} (running : s.chain.state = .running) (unswept : s.chain.sweep = none) (c : StopCause) :
    ChainMove s (s.placeStop c) := by
  have chain := placeStop_chain s c
  constructor
  · grind [ChainDrive.Driven, ChainDrive.turned, ChainState.driven]
  · grind [ChainState.engaged, ChainState.driven]
  · rintro d ⟨stop, deferred, sweep, carried, step, warnTimer, gongTimer, stallTimer⟩
    dsimp only at chain
    split at chain <;> constructor <;> grind [ChainDrive.turned, ChainState.driven]
  · grind [ChainDrive.AtBrake, ChainState.driven]

/-- A stop placed in RUNNING, its sweep ended. -/
theorem endSweep_placeStop_move {s : Live} (running : s.chain.state = .running) (c : StopCause) :
    ChainMove s (s.endSweep.placeStop c) :=
  (endSweep_move s).trans (placeStop_move (by rw [endSweep_chain]; exact running) (by rw [endSweep_chain]; rfl) c)

theorem requestStop_move {s : Live} (running : s.chain.state = .running) (c : StopCause) :
    ChainMove s (s.requestStop c) := by
  by_cases valid : s.monitor.position = .valid
  · rw [requestStop_valid c valid]
    exact endSweep_placeStop_move running c
  · have chain := requestStop_notValid_chain c valid
    constructor
    · grind [ChainDrive.Driven, ChainDrive.unswept]
    · grind [ChainDrive.unswept]
    · rintro d ⟨stop, deferred, sweep, carried, step, warnTimer, gongTimer, stallTimer⟩
      constructor <;> grind [ChainDrive.unswept]
    · grind [ChainDrive.AtBrake, ChainState.driven]

theorem placeDeferred_move (s : Live) : ChainMove s s.placeDeferred := by
  unfold Live.placeDeferred
  split
  · next running _ => exact chainMove_ite (endSweep_placeStop_move running _) (chainMove_refl s)
  · exact chainMove_refl s

/-- The drive output turns off BRAKE in a driven state (R55). -/
theorem driveTo_move {s : Live} (moves : s.chain.state.driven = true) {d : DriveOutput} (off : d ≠ .brake) :
    ChainMove s (s.driveTo d) := by
  have chain := driveTo_chain s d
  constructor
  · grind [ChainDrive.Driven, ChainDrive.turned]
  · grind [ChainDrive.turned]
  · rintro - ⟨stop, deferred, sweep, carried, step, warnTimer, gongTimer, stallTimer⟩
    constructor <;> grind [ChainDrive.turned]
  · grind [ChainDrive.AtBrake]

theorem serviceDrive_off (s : Live) : s.serviceDrive ≠ .brake := by
  unfold Live.serviceDrive
  split <;> nofun

theorem fireStop_move (s : Live) : ChainMove s s.fireStop := by
  unfold Live.fireStop
  split
  case h_1 running =>
    exact chainMove_ite (endSweep_placeStop_move running _) (emergency_move (by rw [running]; rfl) _ _ rfl)
  case h_2 stopping => exact enterChain_cause_move stopping _
  case h_3 warning => exact endWarning_move warning rfl
  case h_4 creeping => exact emergency_move (by rw [creeping]; rfl) _ _ rfl
  case h_5 braked => exact dropTo_move (c := .fire) (.inr braked) rfl
  case h_6 rests | h_7 rests | h_8 rests => exact enterChain_move (by rw [rests]; rfl) rfl
  case h_9 => exact chainMove_refl s

/-- What a flap trip or a sill shutter leaves behind is a state of rest. -/
theorem heldAfter_held (st : ChainState) (c : HeldCause) : ∃ c', heldAfter st c = .held c' := by
  unfold heldAfter
  split <;> exact ⟨_, rfl⟩

theorem heldAfter_engaged (st : ChainState) (c : HeldCause) : (heldAfter st c).engaged = false := by
  obtain ⟨c', held⟩ := heldAfter_held st c
  rw [held]
  rfl

theorem flapTrip_move (s : Live) (i : Nat) : ChainMove s (s.flapTrip i) := by
  unfold Live.flapTrip
  split
  case h_4 braked => exact dropTo_move (.inl braked) (heldAfter_engaged _ _)
  case h_5 warning => exact endWarning_move warning rfl
  case h_7 braked => exact dropTo_move (c := .fire) (.inr braked) rfl
  case h_1 moves | h_6 moves => exact emergency_move (by rw [moves]; rfl) _ _ rfl
  case h_2 moves | h_3 moves => exact emergency_move (by rw [moves]; rfl) _ _ (heldAfter_engaged _ _)
  all_goals exact chainMove_refl s

/-- A record whose state, drive and items stand. -/
theorem chainMove_of_items {s t : Live} (h : t.chain.state = s.chain.state ∧ t.chain.drive = s.chain.drive ∧
      t.chain.stop = s.chain.stop ∧ t.chain.deferred = s.chain.deferred ∧ t.chain.sweep = s.chain.sweep ∧
      t.chain.carriedLoops = s.chain.carriedLoops ∧ t.chain.step = s.chain.step ∧
      t.chain.warnTimer = s.chain.warnTimer ∧ t.chain.gongTimer = s.chain.gongTimer ∧
      t.chain.stallTimer = s.chain.stallTimer) : ChainMove s t := by
  obtain ⟨state, drive, stop, deferred, sweep, carried, step, warn, gong, stall⟩ := h
  constructor
  · rw [ChainDrive.Driven, ChainDrive.Driven, state, drive]; exact id
  · rw [state]; exact fun _ => id
  · rintro - i
    constructor <;> simp only [state, drive, stop, deferred, sweep, carried, step, warn, gong, stall]
    exacts [i.stop, i.deferred, i.sweep, i.carried, i.step, i.warnTimer, i.gongTimer, i.stallTimer]
  · rw [ChainDrive.AtBrake, ChainDrive.AtBrake, state, drive]; exact id

theorem flapChange_move (s : Live) (b x : Bool) : ChainMove s (s.flapChange b x) := by
  have recorded : ChainMove s (({ s with
      chain := if b then { s.chain with flapBottom := x } else { s.chain with flapTop := x } } : Live).post
      (.flapChange b x)) := chainMove_of_items (by cases b <;> simp)
  exact chainMove_ite (recorded.trans (flapTrip_move _ _)) recorded

theorem slowChange_move (s : Live) (x : Bool) : ChainMove s (s.slowChange x) := by
  unfold Live.slowChange
  extract_lets c t
  have recorded : ChainMove s t := chainMove_of_items (by simp [t, c])
  clear_value t
  split
  case h_1 moves | h_2 moves => exact recorded.trans (driveTo_move (by rw [moves]; rfl) (serviceDrive_off t))
  case h_3 => exact recorded

theorem beginSweep_move {s : Live} (running : s.chain.state = .running) (n : Nat) : ChainMove s (s.beginSweep n) := by
  have chain := beginSweep_chain s n
  constructor
  · grind [ChainDrive.Driven]
  · grind
  · rintro - ⟨stop, deferred, sweep, carried, step, warnTimer, gongTimer, stallTimer⟩
    constructor <;> grind
  · grind [ChainDrive.AtBrake]

theorem warningGongStep_move (s : Live) : ChainMove s (warningGongStep s) := by
  unfold warningGongStep
  split
  · exact chainMove_ite (chainMove_refl s) (chainMove_of_items (by simp [Live.writeGongs]))
  · exact chainMove_refl s

/-- The gong timer of a sweep starts again. -/
theorem sweepGongStep_move (s : Live) : ChainMove s (sweepGongStep s) := by
  unfold sweepGongStep
  split
  · next n t sweep gong =>
    refine chainMove_ite ?_ (chainMove_ite (chainMove_of_items (by simp [Live.writeGongs])) (chainMove_refl s))
    exact ⟨id, fun _ => id, fun _ i => { i with gongTimer := fun _ _ => Option.isSome_of_eq_some sweep }, id⟩
  · exact chainMove_refl s

/-! ## Starting, stopping and the requests of the Closing Sequencer -/

theorem stopChain_move (s : Live) : ChainMove s s.stopChain := by
  unfold Live.stopChain
  split
  · next running => exact chainMove_ite (chainMove_refl s) (requestStop_move running _)
  · next warning => exact endWarning_move warning rfl
  · next creeping =>
    have chain : ({ s with chain := { s.chain with step := some 0 } } : Live).brakeStep.chain =
        { ChainDrive.turned { s.chain with step := some 0 } .brake with state := .inspection .braked } := by
      rw [Live.brakeStep, driveTo_chain]
    constructor
    · grind [ChainDrive.Driven, ChainDrive.turned]
    · grind [ChainState.engaged, ChainState.driven]
    · rintro d ⟨stop, deferred, sweep, carried, step, warnTimer, gongTimer, stallTimer⟩
      constructor <;> grind [ChainDrive.turned]
    · grind [ChainDrive.AtBrake, ChainState.driven]
  · exact chainMove_refl s

theorem requestPark_move (s : Live) : ChainMove s s.requestPark.1 := by
  unfold Live.requestPark
  split
  · next running =>
    split_ifs
    · exact chainMove_refl s
    · exact requestStop_move running _
  all_goals exact chainMove_refl s

theorem clearSweep_move (s : Live) : ChainMove s s.clearSweep := by
  unfold Live.clearSweep
  split
  · exact endSweep_move s
  · exact ⟨id, fun _ => id, fun _ i => { i with carried := nofun }, id⟩
  · exact chainMove_refl s

/-! ## The pulses, the settled event and the stall -/

theorem stopPulse_move {s : Live} {c : StopCause} {ph : StopPhase} {r : StopRecord}
    (stopping : s.chain.state = .stopping c ph) (moves : ph ≠ .braked) : ChainMove s (s.stopPulse c ph r) := by
  have chain := stopPulse_chain s c ph r
  have driven : s.chain.state.driven = true := by
    rw [stopping]
    cases ph with
    | braked => exact absurd rfl moves
    | approach | creeping => rfl
  dsimp only at chain
  constructor
  · grind [ChainDrive.Driven, ChainDrive.turned, ChainState.driven]
  · grind [ChainState.engaged]
  · rintro - ⟨stop, deferred, sweep, carried, step, warnTimer, gongTimer, stallTimer⟩
    split at chain
    · constructor <;> grind [ChainDrive.turned, ChainState.driven]
    · split at chain <;> constructor <;> grind [ChainDrive.turned, ChainState.driven]
  · grind [ChainDrive.AtBrake]

theorem watched_move (s : Live) : ChainMove s s.watched := by
  have chain := watched_chain s
  constructor
  · grind [ChainDrive.Driven]
  · grind
  · rintro d ⟨stop, deferred, sweep, carried, step, warnTimer, gongTimer, stallTimer⟩
    constructor <;> grind [ChainDrive.Driven]
  · grind [ChainDrive.AtBrake]

theorem brakeStep_move {s : Live} (creeping : s.chain.state = .inspection .creeping) : ChainMove s s.brakeStep := by
  have chain : s.brakeStep.chain = { s.chain.turned .brake with state := .inspection .braked } := by
    rw [Live.brakeStep, driveTo_chain]
  constructor
  · grind [ChainDrive.Driven, ChainDrive.turned]
  · grind [ChainState.engaged, ChainState.driven]
  · rintro - ⟨stop, deferred, sweep, carried, step, warnTimer, gongTimer, stallTimer⟩
    constructor <;> grind [ChainDrive.turned]
  · grind [ChainDrive.AtBrake, ChainState.driven]

theorem drivePulse_move (s : Live) : ChainMove s s.drivePulse := by
  have watched := watched_move s
  unfold Live.drivePulse
  extract_lets c t
  change ChainMove s t at watched
  refine watched.trans ?_
  clear_value t
  split
  · next running =>
    split
    · next n sweep =>
      refine chainMove_ite (requestStop_move running _) ?_
      exact ⟨id, fun _ => id, fun _ i => { i with
        sweep := fun _ _ => running, gongTimer := fun _ _ => rfl }, id⟩
    · exact chainMove_refl t
  · next c' braked =>
    split
    · exact ⟨id, fun _ => id, fun _ i => { i with stop := fun _ _ => ⟨c', .braked, braked⟩ }, id⟩
    · exact chainMove_refl t
  · next c' ph notBraked stopping =>
    split
    · exact stopPulse_move stopping (by rintro rfl; exact notBraked rfl)
    · exact chainMove_refl t
  · next creeping =>
    split
    · have stepped (n : Nat) : ChainMove t { t with chain := { t.chain with step := some n } } :=
        ⟨id, fun _ => id, fun _ i => { i with step := fun _ _ => .inl creeping }, id⟩
      exact chainMove_ite ((stepped _).trans (brakeStep_move creeping)) (stepped _)
    · exact chainMove_refl t
  · exact chainMove_refl t

/-- A stop or a step that has braked ends, its record absent. -/
theorem chainMove_of_settled {s t : Live} {st : ChainState} (rests : st.engaged = false)
    (settled : (∃ c, s.chain.state = .stopping c .braked) ∧ t.chain = { s.chain with stop := none, state := st } ∨
      s.chain.state = .inspection .braked ∧ t.chain = { s.chain with step := none, state := st }) : ChainMove s t := by
  have still := ChainState.not_driven rests
  have was : s.chain.state.driven = false := by grind [ChainState.driven]
  constructor
  · grind [ChainDrive.Driven]
  · grind
  · rintro d ⟨stop, deferred, sweep, carried, step, warnTimer, gongTimer, stallTimer⟩
    constructor <;> grind
  · grind [ChainDrive.AtBrake]

theorem settleDrive_move (s : Live) : ChainMove s s.settleDrive := by
  by_cases step : s.chain.state = .inspection .braked
  · exact chainMove_of_settled (by rfl) (.inr ⟨step, (settleDrive_steps step).1⟩)
  · by_cases stop : ∃ c, s.chain.state = .stopping c .braked
    · obtain ⟨c, braked⟩ := stop
      exact chainMove_of_settled (by split <;> rfl) (.inl ⟨⟨c, braked⟩, settleDrive_stops braked⟩)
    · rw [settleDrive_stands (fun c braked => stop ⟨c, braked⟩) step]
      exact chainMove_refl s

theorem chainSettledStep_move (s : Live) : ChainMove s (chainSettledStep s) :=
  chainMove_ite
    (((chainMove_of_chain (settledJudged_chain s)).trans (settleDrive_move _)).trans (chainMove_of_chain (settled_last s).2.1))
    (chainMove_refl s)

/-- A drive that is off BRAKE is so in a driven state. -/
theorem chainMove_of_driven {s t : Live} (h : s.chain.Driven → ChainMove s t) : ChainMove s t where
  driven := fun d => (h d).driven d
  engaged := fun d => (h d).engaged d
  items := fun d => (h d).items d
  atBrake := fun b => (h fun off => absurd b.1 off).atBrake b

theorem stallStep_move (s : Live) : ChainMove s (stallStep s) :=
  chainMove_of_driven fun driven => by
    unfold stallStep
    split
    · next stalled => exact emergency_move (driven stalled.1) _ _ rfl
    · exact chainMove_refl s

theorem pulse_move (phase : Nat) (s : Live) : ChainMove s (pulse phase s) :=
  (chainMove_of_chain (monitorPulse_chain phase s)).trans (drivePulse_move _)

theorem indexStep_move (s : Live) : ChainMove s (indexStep s) := by
  have judged : ChainMove s s.monitorIndex.rejudge :=
    chainMove_of_chain ((rejudge_chain _).trans (monitorIndex_chain s))
  unfold indexStep
  exact chainMove_ite judged (judged.trans (placeDeferred_move _))

/-! ## What each command keeps of the chain and of the zones -/

/-- What every command but four keeps: the interlock, the items it gives, a drive at BRAKE, and every zone in ALARM. -/
structure Safe (s t : Live) : Prop where
  interlock : Interlock s → Interlock t
  items : Interlock s → ChainItems s → ChainItems t
  atBrake : s.chain.AtBrake → t.chain.AtBrake
  alarms : ∀ z, s.inAlarm z = true → t.inAlarm z = true

theorem safe_refl (s : Live) : Safe s s := ⟨id, fun _ => id, id, fun _ => id⟩

theorem Safe.trans {s t u : Live} (h : Safe s t) (g : Safe t u) : Safe s u where
  interlock := g.interlock ∘ h.interlock
  items := fun i => g.items (h.interlock i) ∘ h.items i
  atBrake := g.atBrake ∘ h.atBrake
  alarms := fun z => g.alarms z ∘ h.alarms z

theorem safe_composes : Composes Safe := ⟨safe_refl, Safe.trans⟩

theorem safe_ite {s t u : Live} {c : Prop} [Decidable c] (ht : Safe s t) (hu : Safe s u) :
    Safe s (if c then t else u) := ChainRule.either ht hu

theorem Live.sillsOpen_of_open {s t : Live} (plan : t.plan = s.plan) (opened : OpenedStand s t) (h : s.sillsOpen) :
    t.sillsOpen := fun k sill => opened k (h k (by rwa [Live.isSill, plan] at sill))

theorem inAlarm_of_zones {s t : Live} (h : t.zones = s.zones) (z : Nat) : t.inAlarm z = s.inAlarm z := by
  simp only [Live.inAlarm, Live.zone, h]

/-- A change of the chain that leaves the plan, the shutters in OPEN and the zones. -/
theorem safe_of_move {s t : Live} (move : ChainMove s t) (opened : OpenedStand s t) (plan : t.plan = s.plan)
    (zones : t.zones = s.zones) : Safe s t where
  interlock := fun i =>
    ⟨fun e => Live.sillsOpen_of_open plan opened (i.guarded (move.engaged i.driven e)), move.driven i.driven⟩
  items := fun i => move.items i.driven
  atBrake := move.atBrake
  alarms := fun z => by rw [inAlarm_of_zones zones]; exact id

/-- An operation whose frame holds neither the plan store nor the zones. -/
theorem Keeps.safeMove {ps : List Part} {s t : Live} (h : Keeps ps s t) (move : ChainMove s t) (opened : OpenedStand s t)
    (hs : .store ∉ ps := by decide) (hz : .zones ∉ ps := by decide) : Safe s t :=
  safe_of_move move opened (plan_of_store (h.parts .store hs)) (h.parts .zones hz)

/-- An operation that leaves the chain and the shutters in OPEN. -/
theorem Keeps.safeOpen {ps : List Part} {s t : Live} (h : Keeps ps s t) (opened : OpenedStand s t)
    (hc : .chain ∉ ps := by decide) (hs : .store ∉ ps := by decide) (hz : .zones ∉ ps := by decide) : Safe s t :=
  h.safeMove (chainMove_of_chain (h.parts .chain hc)) opened hs hz

/-- An operation whose frame holds none of the chain, the shutters, the plan store and the zones. -/
theorem Keeps.safe {ps : List Part} {s t : Live} (h : Keeps ps s t) (hg : .gear ∉ ps := by decide)
    (hc : .chain ∉ ps := by decide) (hs : .store ∉ ps := by decide) (hz : .zones ∉ ps := by decide) : Safe s t :=
  h.safeOpen (fun k opened => by rw [shutter_of_gear (h.parts .gear hg)]; exact opened) hc hs hz

theorem Safe.next {ps : List Part} {s t u : Live} (h : Safe s t) (g : Keeps ps t u) (hg : .gear ∉ ps := by decide)
    (hc : .chain ∉ ps := by decide) (hs : .store ∉ ps := by decide) (hz : .zones ∉ ps := by decide) : Safe s u :=
  h.trans (g.safe hg hc hs hz)

/-- A change of parts that are neither the chain, the shutters, the active plan nor the zones. -/
theorem safe_of_same {s t : Live} (chain : t.chain = s.chain) (gear : t.gear.records = s.gear.records)
    (plan : t.plan = s.plan) (zones : t.zones = s.zones) : Safe s t :=
  safe_of_move (chainMove_of_chain chain) (fun k => by simp only [Live.shutter, gear]; exact id) plan zones

theorem Safe.after {s t u : Live} (h : Safe t u) (chain : t.chain = s.chain) (gear : t.gear.records = s.gear.records)
    (plan : t.plan = s.plan) (zones : t.zones = s.zones) : Safe s u := (safe_of_same chain gear plan zones).trans h

end Sys2Proof.Machine

/-! # The chain, the shutters and the programme under the interlock

The operations of the chain and the shutters, and those of the blocks above them, keep `Safe`. A sill shutter that leaves OPEN
is followed together with the brake it brings about (R66): between the two the interlock does not hold. -/

namespace Sys2Proof.Machine

-- one thread: a proof that waits for the theorems before it would hold a thread of its own
set_option Elab.async false



/-! ## The chain -/

theorem pulse_safe (phase : Nat) (s : Live) : Safe s (pulse phase s) :=
  (pulse_only phase s).safeMove (pulse_move phase s) (openedStand_chainRule.pulse phase s)

theorem indexStep_safe (s : Live) : Safe s (indexStep s) :=
  (indexStep_only s).safeMove (indexStep_move s) (openedStand_chainRule.indexStep s)

theorem chainSettledStep_safe (s : Live) : Safe s (chainSettledStep s) :=
  (chainSettledStep_only s).safeMove (chainSettledStep_move s) (openedStand_chainRule.chainSettledStep s)

theorem stallStep_safe (s : Live) : Safe s (stallStep s) :=
  (stallStep_only s).safeMove (stallStep_move s) (openedStand_chainRule.stallStep s)

theorem warningGongStep_safe (s : Live) : Safe s (warningGongStep s) :=
  (warningGongStep_only s).safeMove (warningGongStep_move s) (openedStand_chainRule.warningGongStep s)

theorem sweepGongStep_safe (s : Live) : Safe s (sweepGongStep s) :=
  (sweepGongStep_only s).safeMove (sweepGongStep_move s) (openedStand_chainRule.sweepGongStep s)

theorem stopChain_safe (s : Live) : Safe s s.stopChain :=
  (stopChain_only s).safeMove (stopChain_move s) (openedStand_chainRule.stopChain s)

theorem requestPark_safe (s : Live) : Safe s s.requestPark.1 :=
  (requestPark_only s).safeMove (requestPark_move s) (openedStand_chainRule.requestPark s)

theorem clearSweep_safe (s : Live) : Safe s s.clearSweep :=
  (clearSweep_only s).safeMove (clearSweep_move s) (openedStand_chainRule.clearSweep s)

theorem fireStop_safe (s : Live) : Safe s s.fireStop :=
  (fireStop_only s).safeMove (fireStop_move s) (openedStand_chainRule.fireStop s)

theorem flapChange_safe (s : Live) (b x : Bool) : Safe s (s.flapChange b x) :=
  (flapChange_only s b x).safeMove (flapChange_move s b x) (openedStand_chainRule.flapChange s b x)

theorem slowChange_safe (s : Live) (x : Bool) : Safe s (s.slowChange x) :=
  (slowChange_only s x).safeMove (slowChange_move s x) (openedStand_chainRule.slowChange s x)

theorem enterChain_safe {s : Live} {st : ChainState} (rests : s.chain.state.atRest = true) (still : st.atRest = true) :
    Safe s (s.enterChain st) :=
  (enterChain_only s st).safeMove (enterChain_move rests still) (openedStand_chainRule.enterChain s st)

/-- No sill shutter is out of OPEN where none is found (R53). -/
theorem sillsOpen_of_none {s : Live} (h : s.sillNotOpen = none) : s.sillsOpen := fun k sill => by
  have found := List.find?_eq_none.mp h k (List.mem_range.mpr (Live.isSill_lt sill))
  simpa [sill] using found

theorem sillsOpen_of_startRefusal {s : Live} (h : s.startRefusal = none) : s.sillsOpen := by
  unfold Live.startRefusal at h
  split at h
  · cases h
  · next none_ => exact sillsOpen_of_none none_

/-- A start warning begins from rest or from a fault, every sill shutter in OPEN (R53). -/
theorem enterWarning_safe {s : Live} (startable : s.chain.state.startable = true) (conditions : s.startRefusal = none)
    (loops : Option Nat) : Safe s (s.enterWarning loops) := by
  have chain := enterWarning_chain s loops
  have rests : s.chain.state.driven = false ∧ s.chain.state ≠ .running ∧ (∀ c p, s.chain.state ≠ .stopping c p) ∧
      s.chain.state ≠ .inspection .creeping ∧ s.chain.state ≠ .inspection .braked := by
    unfold ChainState.startable at startable
    split at startable
    case h_4 => cases startable
    all_goals next state => rw [state]; exact ⟨rfl, nofun, nofun, nofun, nofun⟩
  obtain ⟨undriven, notRunning, noStop, notCreeping, notBraked⟩ := rests
  have plan : (s.enterWarning loops).plan = s.plan := (enterWarning_only s loops).planStands.1
  refine ⟨fun i => ⟨fun _ => Live.sillsOpen_of_open plan (openedStand_chainRule.enterWarning s loops)
    (sillsOpen_of_startRefusal conditions), ?_⟩, ?_, ?_, ?_⟩
  · have driven := i.driven
    grind
  · rintro i ⟨stop, deferred, sweep, carried, step, warnTimer, gongTimer, stallTimer⟩
    constructor <;> grind
  · grind [ChainDrive.AtBrake, ChainState.driven]
  · intro z
    rw [inAlarm_of_zones ((enterWarning_only s loops).parts .zones (by decide))]
    exact id

theorem requestSweep_safe (s : Live) : Safe s s.requestSweep.1 := by
  have record {c : ChainDrive} (move : ChainMove s { s with chain := c }) : Safe s { s with chain := c } :=
    (chain_only s c).safeMove move (openedStand_chainRule.chain s c)
  unfold Live.requestSweep
  dsimp only
  split
  · next running =>
    split_ifs
    · exact safe_refl s
    · exact record ⟨id, fun _ => id, fun _ i => { i with sweep := fun _ _ => running, gongTimer := fun _ _ => rfl }, id⟩
    · exact (beginSweep_only s _).safeMove (beginSweep_move running _) (openedStand_chainRule.beginSweep s _)
  · next parked =>
    split
    · next conditions => exact enterWarning_safe (by rw [parked]; rfl) (Option.isNone_iff_eq_none.mp conditions) _
    · exact safe_refl s
  · next warning => exact record ⟨id, fun _ => id, fun _ i => { i with carried := fun _ _ => warning }, id⟩
  · exact safe_refl s

/-! ## Shutters and the chain together -/

/-- A change of one shutter that does not stand in OPEN. -/
theorem openedStand_of_others {s t : Live} {k : Nat} (shut : (s.shutter k).state ≠ .opened)
    (others : ∀ j, k ≠ j → t.shutter j = s.shutter j) : OpenedStand s t := fun j opened => by
  rw [others j (by rintro rfl; exact shut opened)]
  exact opened

section
variable {s : Live} {k : Nat} (shut : (s.shutter k).state ≠ .opened)
include shut

theorem changeShutter_safe (r : ShutterRecord) : Safe s (s.changeShutter k r) :=
  (changeShutter_only s k r).safeOpen (openedStand_of_others shut fun _ => shutter_changeShutter_other s r)

theorem closeAtLimit_safe : Safe s (s.closeAtLimit k) :=
  (closeAtLimit_only s k).safeOpen (openedStand_of_others shut fun _ h => shutter_closeAtLimit_other h s)

theorem obstruct_safe : Safe s (s.obstruct k) :=
  (obstruct_only s k).safeOpen (openedStand_of_others shut fun _ h => shutter_obstruct_other h s)

theorem enterDescending_safe (r : ShutterRecord) : Safe s (s.enterDescending k r) :=
  (enterDescending_only s k r).safeOpen (openedStand_of_others shut fun _ h => shutter_enterDescending_other h s r)

end

theorem judge_safe (s : Live) (k : Nat) : Safe s (s.judge k) :=
  (judge_only s k).safeOpen (openedStand_chainRule.judge s k)

theorem edgeAsserted_safe (s : Live) (k : Nat) : Safe s (s.edgeAsserted k) := by
  unfold Live.edgeAsserted
  dsimp only
  split
  · next meets => exact obstruct_safe (by rw [meets.1]; nofun)
  · exact safe_refl s

theorem retractStep_safe (k : Nat) (s : Live) : Safe s (retractStep k s) := by
  unfold retractStep
  split
  · next due => exact changeShutter_safe (by rw [due.1]; nofun) _
  · exact safe_refl s

theorem pauseStep_safe (k : Nat) (s : Live) : Safe s (pauseStep k s) := by
  unfold pauseStep
  split
  · next due => exact enterDescending_safe (by rw [due.1]; nofun) _
  · exact safe_refl s

theorem descentLimitStep_safe (k : Nat) (s : Live) : Safe s (descentLimitStep k s) := by
  unfold descentLimitStep
  split
  · next due => exact changeShutter_safe (by rw [due.1]; nofun) _
  · exact safe_refl s

theorem raiseLimitStep_safe (k : Nat) (s : Live) : Safe s (raiseLimitStep k s) := by
  unfold raiseLimitStep
  split
  · next due => exact changeShutter_safe (by rw [due.1]; nofun) _
  · exact safe_refl s

theorem sillLeavesOpen_move (s : Live) (k : Nat) (b : Bool) : ChainMove s (s.sillLeavesOpen k b) := by
  unfold Live.sillLeavesOpen
  split
  case h_5 warning => exact endWarning_move warning (by split <;> rfl)
  case h_1 moves | h_6 moves => exact emergency_move (by rw [moves]; rfl) _ _ rfl
  case h_2 moves | h_3 moves => exact emergency_move (by rw [moves]; rfl) _ _ (heldAfter_engaged _ _)
  all_goals exact chainMove_refl s

/-- After a sill shutter has left OPEN the chain neither moves nor sounds its warning (R66). -/
theorem sillLeavesOpen_disengaged (s : Live) (k : Nat) (b : Bool) : (s.sillLeavesOpen k b).chain.state.engaged = false := by
  unfold Live.sillLeavesOpen
  split
  case h_5 => rw [endWarning_chain]; split <;> rfl
  case h_1 | h_6 => rw [emergency_chain]; rfl
  case h_2 | h_3 => rw [emergency_chain]; exact heldAfter_engaged _ _
  all_goals next state => rw [state]; rfl

theorem moveShutter_safe (s : Live) (k : Nat) (r : ShutterRecord) (b : Bool) : Safe s (s.moveShutter k r b) := by
  have changed := changeShutter_only s k r
  have move : ChainMove s (s.changeShutter k r) := chainMove_of_chain (changed.parts .chain (by decide))
  unfold Live.moveShutter
  dsimp only
  split
  · have moved := move.trans (sillLeavesOpen_move (s.changeShutter k r) k b)
    have frame := keeps_trans (keeps_widen changed) (sillLeavesOpen_only (s.changeShutter k r) k b)
    refine ⟨fun i => ⟨fun e => ?_, moved.driven i.driven⟩, fun i => moved.items i.driven, moved.atBrake, fun z => ?_⟩
    · rw [sillLeavesOpen_disengaged] at e
      cases e
    · rw [inAlarm_of_zones (frame.parts .zones (by decide))]
      exact id
  · next stays =>
    have plan : (s.changeShutter k r).plan = s.plan := changed.planStands.1
    refine ⟨fun i => ⟨fun e j sill => ?_, move.driven i.driven⟩, fun i => move.items i.driven, move.atBrake, fun z => ?_⟩
    · have sill' : s.isSill j = true := by rwa [Live.isSill, plan] at sill
      have opened := i.guarded (move.engaged i.driven e) j sill'
      by_cases own : k = j
      · subst own
        rw [shutter_changeShutter_same s r (Live.isSill_lt sill')]
        simpa [sill', opened] using stays
      · rw [shutter_changeShutter_other s r own]
        exact opened
    · rw [inAlarm_of_zones (changed.parts .zones (by decide))]
      exact id

theorem closeByState_safe (s : Live) (k : Nat) (c : CloseCause) : Safe s (s.closeByState k c) := by
  have arm : Safe s (s.arm k c) := safe_ite ((moveShutter_safe s k _ _).trans (judge_safe _ k)) (moveShutter_safe s k _ _)
  unfold Live.closeByState
  split
  case h_10 => exact safe_refl s
  case h_1 | h_2 | h_3 | h_4 | h_5 => exact arm
  all_goals next state => exact safe_ite (changeShutter_safe (by rw [state]; nofun) _) (safe_refl s)

theorem closeRequest_safe (s : Live) (k : Nat) (c : CloseCause) : Safe s (s.closeRequest k c) :=
  safe_ite (safe_refl s) (closeByState_safe s k c)

theorem limitByState_safe (s : Live) (k : Nat) (l : Limit) : Safe s (s.limitByState k l) := by
  unfold Live.limitByState
  dsimp only
  split
  case h_1 | h_2 => exact safe_ite (safe_refl s) (moveShutter_safe s k _ _)
  case h_3 => exact safe_ite (moveShutter_safe s k _ _) (safe_refl s)
  case h_4 state => exact safe_ite (closeAtLimit_safe (by rw [state]; nofun)) (safe_refl s)
  case h_5 state | h_6 state => exact safe_ite (changeShutter_safe (by rw [state]; nofun) _) (safe_refl s)
  all_goals exact safe_refl s

theorem limitChange_safe (s : Live) (k : Nat) (l : Limit) : Safe s (s.limitChange k l) :=
  safe_ite (safe_refl s) (safe_ite (moveShutter_safe s k _ _) (limitByState_safe s k l))

theorem shutterModuleLost_safe (s : Live) (k : Nat) : Safe s (s.shutterModuleLost k) :=
  safe_ite (moveShutter_safe s k _ _) (safe_refl s)

theorem raiseShutter_safe (s : Live) (k : Nat) : Safe s (s.raiseShutter k) :=
  safe_ite (moveShutter_safe s k _ _) (moveShutter_safe s k _ _)

theorem haltShutter_safe {s : Live} {k : Nat} (shut : (s.shutter k).state ≠ .opened) : Safe s (s.haltShutter k) :=
  (changeShutter_safe shut _).next (post_only _ _)

/-! ## The Closing Sequencer -/

theorem executeStep_safe (s : Live) (i close : Nat) : Safe s (s.executeStep i close).1 := by
  have bell : ∀ (cs : List Nat) (a : Live × Nat), Safe a.1
      (cs.foldl (fun a c => ((a.1.programmeCall i c).1, if (a.1.programmeCall i c).2 then a.2 + 1 else a.2)) a).1 := by
    intro cs
    induction cs with
    | nil => exact fun a => safe_refl _
    | cons c rest ih =>
      exact fun a => (programmeCall_only a.1 i c).safe.trans
        (ih ((a.1.programmeCall i c).1, if (a.1.programmeCall i c).2 then a.2 + 1 else a.2))
  unfold Live.executeStep
  dsimp only
  split
  · exact (enterQueue_only s _).safe
  · exact bell _ (s, 0)
  · exact requestSweep_safe s
  · exact requestPark_safe s
  · exact safe_composes.foldl _ (fun t k => closeRequest_safe t k _) _ s
  · exact safe_composes.foldl _ (fun t c => (setMask_only t c _).safe) _ s

theorem withClosing_safe (s : Live) (c : Closing) : Safe s (s.withClosing c) := safe_of_same rfl rfl rfl rfl

theorem takeDue_safe (b : Bool) (fuel : Nat) (s : Live) : Safe s (s.takeDue b fuel) := by
  have taken (s : Live) (i close : Nat) : Safe s (s.takeStep i close b).1 := by
    unfold Live.takeStep
    split
    · exact safe_refl s
    · exact executeStep_safe s i close
  have marked (s : Live) (i : Nat) (t : Taken) : Safe s (s.markStep i t) := by
    cases t <;> exact safe_of_same rfl rfl rfl rfl
  induction fuel generalizing s with
  | zero => exact safe_refl s
  | succ n ih =>
    unfold Live.takeDue
    split
    · exact safe_ite (((taken s _ _).trans (marked _ _ _)).trans (ih _)) (safe_refl s)
    · exact safe_of_same rfl rfl rfl rfl
    · exact safe_refl s

theorem suspendClosing_safe (s : Live) : Safe s s.suspendClosing := by
  unfold Live.suspendClosing
  split
  · exact (((withClosing_safe s _).next (withdrawCalls_only _)).next (withdrawSpeech_only _)).next (post_only _ _)
  all_goals exact safe_refl s

/-! ## The Zone Monitor -/

/-- A zone's record changes: a zone that stands in ALARM stays there. -/
theorem withZone_safe {s : Live} {z : Nat} {r : ZoneRecord} (stays : s.inAlarm z = true → r.state = .alarm) :
    Safe s (s.withZone z r) where
  interlock := fun i => ⟨i.guarded, i.driven⟩
  items := fun _ => ChainItems.of_chain rfl
  atBrake := id
  alarms := fun q alarm => by
    by_cases own : z = q
    · subst own
      by_cases hz : z < 16
      · simp [Live.inAlarm, Live.zone, Live.withZone, Bank.read_put_same _ _ _ _ hz, stays alarm]
      · rw [inAlarm_beyond s (Nat.le_of_not_lt hz)] at alarm
        cases alarm
    · rw [Live.inAlarm, Live.zone, Live.withZone, Bank.read_put_other _ _ _ _ _ own]
      exact alarm

theorem setZone_safe {s : Live} {z : Nat} {r : ZoneRecord} (stays : s.inAlarm z = true → r.state = .alarm) :
    Safe s (s.setZone z r) := (withZone_safe stays).next (post_only _ _)

/-- A zone in another state than ALARM. -/
theorem not_inAlarm {s : Live} {z : Nat} {st r : ZoneState} (h : (s.zone z).state = st) (other : st ≠ .alarm)
    (alarm : s.inAlarm z = true) : r = .alarm := by
  rw [Live.inAlarm, h] at alarm
  exact absurd (by simpa using alarm) other

theorem issue_safe (s : Live) (z : Nat) : Safe s (s.issue z) :=
  have closed := safe_composes.foldl (fun t k => Live.closeRequest t k .fire)
    (fun t k => closeRequest_safe t k .fire) (s.plan.contribution z) s
  safe_ite (closed.trans (fireStop_safe _)) closed

theorem handAlarm_safe (s : Live) (d : Demand) (z : Nat) (b : Bool) : Safe s (s.handAlarm d z b) := by
  unfold Live.handAlarm
  extract_lets g t u v
  have issued : Safe s u := (issue_safe t z).after rfl rfl rfl rfl
  have suspended : Safe s v := safe_ite (issued.trans (suspendClosing_safe u)) issued
  exact (suspended.next (handCircuits_only _ _)).next (handSpeech_only _ _)

theorem handDemand_safe (s : Live) (d : Demand) : Safe s (s.handDemand d) :=
  have handed : Safe s (({ s with gear := { s.gear with fireSet := s.demand.shutters } } : Live).handCircuits d.circuits) :=
    (handCircuits_only _ _).safe.after rfl rfl rfl rfl
  handed.next (handSpeech_only _ d)

theorem latch_safe (s : Live) (z d : Nat) : Safe s (s.latch z d) := by
  rw [latch_eq]
  exact (((withZone_safe fun _ => rfl).next (post_only _ _)).next (post_only _ _)).trans (handAlarm_safe _ _ _ _)

end Sys2Proof.Machine

/-! # O8, O9 and O22: the interlock, the items and the zones in ALARM under every command -/

namespace Sys2Proof.Machine

-- one thread: a proof that waits for the theorems before it would hold a thread of its own
set_option Elab.async false

/-! ## Detectors, the scan and its points -/

theorem resound_safe (s : Live) (z d : Nat) : Safe s (s.resound z d) := by
  have posted : Safe s (s.post (.zoneAlarm z d)) := (post_only s _).safe
  refine safe_ite (posted.trans ((setZone_safe fun alarm => ?_).trans (handAlarm_safe _ _ z false))) posted
  simpa [Live.inAlarm] using alarm

theorem takeLine_safe {s : Live} {z : Nat} {st : ZoneState} (state : (s.zone z).state = st) (other : st ≠ .alarm) :
    Safe s (s.takeLine z) := safe_ite (safe_refl s) (setZone_safe (not_inAlarm state other))

theorem detectorChange_safe (s : Live) (d : Nat) : Safe s (s.detectorChange d) := by
  unfold Live.detectorChange
  split
  · exact safe_refl s
  · split
    case h_4 => exact safe_refl s
    case h_3 => exact safe_ite (resound_safe s _ _) (safe_refl s)
    case h_1 state | h_2 state => exact safe_ite (latch_safe s _ _) (takeLine_safe state nofun)

theorem latchAlarmed_safe (s : Live) : Safe s s.latchAlarmed := by
  refine safe_composes.foldl _ (fun t z => ?_) _ s
  split
  · exact safe_ite (safe_refl t) (latch_safe t z _)
  · exact safe_refl t

/-- A change of the field loop's own record. -/
theorem loop_safe (s : Live) (l : FieldLoop) : Safe s { s with loop := l } := safe_of_same rfl rfl rfl rfl

theorem sampleDetector_safe (d : Nat) (x : LineState) (s : Live) : Safe s (sampleDetector d x s) :=
  safe_ite (loop_safe s _) ((detectorChange_safe _ d).after rfl rfl rfl rfl)

theorem debouncePush_safe (p : Nat) (x : PushState) (s : Live) : Safe s (debouncePush p x s) :=
  safe_ite (loop_safe s _) ((pushChange_only _ p _ _).safe.after rfl rfl rfl rfl)

theorem firstAfterBlanking_safe (p : Nat) (x : PushState) (s : Live) : Safe s (firstAfterBlanking p x s) :=
  safe_ite ((pushChange_only _ p _ _).safe.after rfl rfl rfl rfl) (debouncePush_safe p x s)

theorem samplePush_safe (p : Nat) (b : Option Nat) (x : PushState) (s : Live) : Safe s (samplePush p b x s) := by
  unfold samplePush
  split
  · exact debouncePush_safe p x s
  · exact firstAfterBlanking_safe p x s
  · exact safe_refl s

theorem sampleUp_safe (k : Nat) (x : Bool) (s : Live) : Safe s (sampleUp k x s) :=
  safe_ite (loop_safe s _) ((limitChange_safe _ k .up).after rfl rfl rfl rfl)

theorem sampleDown_safe (k : Nat) (x : Bool) (s : Live) : Safe s (sampleDown k x s) :=
  safe_ite (loop_safe s _) ((limitChange_safe _ k .down).after rfl rfl rfl rfl)

theorem sampleEdge_safe (k : Nat) (x : Bool) (s : Live) : Safe s (sampleEdge k x s) :=
  safe_ite ((edgeAsserted_safe _ k).after rfl rfl rfl rfl) (loop_safe s _)

theorem sampleGear_safe (k : Nat) (b : Bool) (x : ShutterSample) (s : Live) : Safe s (sampleGear k b x s) :=
  have limits := (sampleUp_safe k x.up s).trans (sampleDown_safe k x.down _)
  safe_ite limits (limits.trans (sampleEdge_safe k x.edge _))

theorem sampleReady_safe (ch : Nat) (x : Bool) (s : Live) : Safe s (sampleReady ch x s) :=
  safe_ite (loop_safe s _) ((readyChange_only _ ch _).safe.after rfl rfl rfl rfl)

theorem eachPoint_safe {α : Type} (f : Nat → α → Live → Live) (h : ∀ i x s, Safe s (f i x s)) (n : Nat) (l : List α)
    (s : Live) : Safe s (eachPoint f n l s) := by
  induction l generalizing n s with
  | nil => exact safe_refl s
  | cons x rest ih => exact (h n x s).trans (ih _ _)

theorem takeReply_safe (s : Live) (first : Nat) (r : ModuleReply) : Safe s (s.takeReply first r) := by
  cases r with
  | detector xs => exact eachPoint_safe _ (fun i x s => sampleDetector_safe _ x s) 0 xs s
  | call xs =>
    exact (eachPoint_safe _ (fun _ _ s => loop_safe s _) 0 xs s).trans
      (eachPoint_safe _ (fun i (x : Option Nat × PushState) s => samplePush_safe _ x.1 x.2 s) 0 _ _)
  | shutter xs =>
    exact (eachPoint_safe _ (fun _ _ s => loop_safe s _) 0 xs s).trans
      (eachPoint_safe _ (fun i (x : Bool × ShutterSample) s => sampleGear_safe _ x.1 x.2 s) 0 _ _)
  | audio xs => exact eachPoint_safe _ (fun i x s => sampleReady_safe _ x s) 0 xs s
  | bell | other code => exact safe_refl s

theorem losePoint_safe (s : Live) (k : ModuleKind) (i : Nat) : Safe s (s.losePoint k i) := by
  cases k with
  | detector => exact safe_ite (loop_safe s _) ((detectorChange_safe _ i).after rfl rfl rfl rfl)
  | shutter => exact (shutterModuleLost_safe _ i).after rfl rfl rfl rfl
  | call | audio | bell | other code => exact safe_of_same rfl rfl rfl rfl

theorem missReply_safe (s : Live) (pos : Nat) (m : ModuleRecord) : Safe s (s.missReply pos m) := by
  have pass : Safe s (s.passBlanking m) := by
    unfold Live.passBlanking
    split
    · exact safe_composes.foldl _ (fun t p => loop_safe t _) _ s
    · exact safe_composes.foldl _ (fun t p => loop_safe t _) _ s
    · exact safe_refl s
  have lose : ∀ t : Live, Safe t (t.loseModule pos m) := fun t =>
    (safe_composes.foldl _ (fun u i => losePoint_safe u _ i) _ _).after rfl rfl rfl rfl
  exact safe_ite (safe_ite (pass.trans (lose _)) (pass.trans (loop_safe _ _))) pass

theorem heedReply_safe (s : Live) (pos : Nat) (m : ModuleRecord) (r : ModuleReply) : Safe s (s.heedReply pos m r) := by
  unfold Live.heedReply
  extract_lets t
  have found : Safe s t := (loop_safe s _).next (postIf_only _ _ _)
  split
  · exact found.trans (takeReply_safe _ _ _)
  · exact found

theorem scanModule_safe (s : Live) (pos : Nat) (r : Option ModuleReply) : Safe s (s.scanModule pos r) := by
  unfold Live.scanModule
  dsimp only
  split
  · exact safe_refl s
  · split
    · exact (missReply_safe _ pos _).after rfl rfl rfl rfl
    · exact (heedReply_safe _ pos _ _).after rfl rfl rfl rfl

theorem scanPins_safe (s : Live) (p : PinSample) : Safe s (s.scanPins p) := by
  have flap : ∀ (b x : Bool) (t : Live), Safe t (sampleFlap b x t) := fun b x t =>
    safe_ite (loop_safe t _) ((flapChange_safe _ _ _).after rfl rfl rfl rfl)
  have slow : ∀ (x : Bool) (t : Live), Safe t (sampleSlow x t) := fun x t =>
    safe_ite (loop_safe t _) ((slowChange_safe _ _).after rfl rfl rfl rfl)
  exact ((flap false p.flapTop s).trans (flap true p.flapBottom _)).trans (slow p.slow _)

/-- A timer runs only where it is present. -/
theorem runOpt_some {limit t : Nat} {o : Option Nat} (h : runOpt limit o = some t) : ∃ t', o = some t' := by
  cases o with
  | none => cases h
  | some t' => exact ⟨t', rfl⟩

theorem advance_move (s : Live) (m : List Host.Cell) : ChainMove s (s.advance m) where
  driven := id
  engaged := fun _ => id
  items := fun _ i => { i with
    warnTimer := fun t h => by
      obtain ⟨t', present⟩ := runOpt_some h
      exact i.warnTimer t' present
    gongTimer := fun t h => by
      obtain ⟨t', present⟩ := runOpt_some h
      exact i.gongTimer t' present
    stallTimer := fun t h => by
      obtain ⟨t', present⟩ := runOpt_some h
      exact i.stallTimer t' present }
  atBrake := id

theorem advance_openedStand (s : Live) (m : List Host.Cell) : OpenedStand s (s.advance m) := fun k opened => by
  by_cases hk : k < 32
  · rw [advance_shutter s m hk, (advanceShutter_timers s k).1]
    exact opened
  · rw [Live.shutter, Bank.read_beyond _ _ _ (Nat.le_of_not_lt hk)] at opened
    cases opened

theorem scanStep_safe (m : List Host.Cell) (i : ScanInput) (s : Live) : Safe s (scanStep m i s) := by
  have passed : Safe s (s.advance m) := safe_of_move (advance_move s m) (advance_openedStand s m) rfl rfl
  exact (passed.trans (safe_composes.foldl _ (fun t pos => scanModule_safe t pos _) _ _)).trans (scanPins_safe _ _)

theorem pushBlankingEndStep_safe (p : Nat) (x : PushState) (s : Live) : Safe s (pushBlankingEndStep p x s) :=
  safe_ite ((firstAfterBlanking_safe p x _).after rfl rfl rfl rfl) (safe_refl s)

theorem edgeBlankingEndStep_safe (k : Nat) (x : Bool) (s : Live) : Safe s (edgeBlankingEndStep k x s) :=
  safe_ite ((sampleEdge_safe k x _).after rfl rfl rfl rfl) (safe_refl s)

/-! ## The restart, the adoption and the loss of supply -/

/-- A chain out of motion and warning, at BRAKE, with no item left. -/
structure ChainCleared (c : ChainDrive) : Prop where
  brake : c.drive = .brake
  rests : c.state.engaged = false
  stop : c.stop = none
  deferred : c.deferred = none
  sweep : c.sweep = none
  carried : c.carriedLoops = none
  step : c.step = none
  warnTimer : c.warnTimer = none
  gongTimer : c.gongTimer = none
  stallTimer : c.stallTimer = none

theorem ChainCleared.interlock {t : Live} (h : ChainCleared t.chain) : Interlock t where
  guarded := fun e => by rw [h.rests] at e; cases e
  driven := fun off => absurd h.brake off

theorem ChainCleared.items {t : Live} (h : ChainCleared t.chain) : ChainItems t := by
  obtain ⟨-, -, stop, deferred, sweep, carried, step, warnTimer, gongTimer, stallTimer⟩ := h
  constructor <;> simp [*]

theorem ChainCleared.atBrake {t : Live} (h : ChainCleared t.chain) : t.chain.AtBrake :=
  ⟨h.brake, ChainState.not_driven h.rests⟩

/-- A restarted chain keeps no item: its stall timer alone may stand, where it stood at BRAKE already. -/
theorem warmRestart_safe (s : Live) : Safe s s.warmRestart := by
  have chain := warmRestart_chain s
  obtain ⟨brake, state, -⟩ := warmRestart_chainRests s
  have rests : s.warmRestart.chain.state.engaged = false := by
    rw [state]
    cases h : s.chain.state with
    | stopping c p => rfl
    | inspection x => cases x <;> rfl
    | _ => rfl
  refine ⟨fun _ => ⟨fun e => ?_, fun off => absurd brake off⟩, fun i items => ?_,
    fun _ => ⟨brake, ChainState.not_driven rests⟩, fun z => ?_⟩
  · rw [rests] at e
    cases e
  · have stall := items.stallTimer
    constructor <;> grind [ChainDrive.braked, ChainDrive.cleared]
  · rw [inAlarm_of_zones ((warmRestart_after s).parts .zones (by decide))]
    exact id

theorem coldStartLive_cleared (n : NonVolatile) (i : ColdStart) (free : Nat) :
    ChainCleared (coldStartLive n i free).chain := by
  rw [coldStartLive_chain]
  refine ⟨rfl, ?_, rfl, rfl, rfl, rfl, rfl, rfl, rfl, rfl⟩
  dsimp only
  split <;> rfl

/-- R28: no zone of a quiescent part is in ALARM. -/
theorem disquiet_noAlarm {s : Live} (quiet : s.disquiet = none) (z : Nat) : s.inAlarm z = false := by
  unfold Live.disquiet at quiet
  split at quiet
  · cases quiet
  · next none_ =>
    by_cases hz : z < 16
    · simpa using List.find?_eq_none.mp none_ z (List.mem_range.mpr hz)
    · exact inAlarm_beyond s (Nat.le_of_not_lt hz)

theorem ChainStill.disengaged {s : Live} (still : ChainStill s) : s.chain.state.engaged = false := by
  rcases still with rests | fault
  · exact (ChainState.atRest_not rests).1
  · rw [fault]
    rfl

/-- A quiescent part adopts a plan: its chain stands still, whatever sills the plan names (R28, R29). -/
theorem adopt_safe {s : Live} (quiet : s.disquiet = none) (a : List Nat) : Safe s (s.adopt a) := by
  have chain := adoptBare_chain s a
  have still := (disquiet_none quiet).2.disengaged
  have bare : Safe s (s.adoptBare a) := by
    refine ⟨fun i => ⟨fun e => ?_, ?_⟩, fun _ => ChainItems.of_chain chain, ?_, fun z alarm => ?_⟩
    · rw [chain, still] at e
      cases e
    · rw [chain]
      exact i.driven
    · rw [chain]
      exact id
    · rw [disquiet_noAlarm quiet] at alarm
      cases alarm
  rw [adopt_eq]
  exact bare.trans (latchAlarmed_safe _)

theorem planAdopt_safe (s : Live) : Safe s (planAdopt s).1 := by
  cases failed : s.store.pending.firstFailure s.loop with
  | some f => rw [planAdopt_planCheck failed]; exact safe_refl s
  | none =>
    by_cases empty : s.store.pending.residues = []
    · rw [planAdopt_noParkResidue failed empty]; exact safe_refl s
    · cases disquiet : s.disquiet with
      | some q => rw [planAdopt_notQuiescent failed empty disquiet]; exact safe_refl s
      | none => simpa only [planAdopt_adopts failed empty disquiet] using adopt_safe disquiet s.store.pending.residues

theorem drop_safe (s : Live) : Safe s s.drop where
  interlock := fun i => ⟨i.guarded, nofun⟩
  items := fun _ i => { i with stallTimer := nofun }
  atBrake := fun b => ⟨rfl, b.2⟩
  alarms := fun _ => id

/-! ## The handlers of the requests -/

theorem free_safe (s : Live) (n : Nat) : Safe s { s with free := n } := safe_of_same rfl rfl rfl rfl

section
variable {h : Live → Handled} (hh : ∀ s, Safe s (h s).1)
include hh

theorem onZone_safe (z : Nat) (s : Live) : Safe s (onZone z h s).1 := by
  unfold onZone
  split_ifs
  · exact safe_refl s
  · exact hh s
  · exact safe_refl s

theorem onShutter_safe (k : Nat) (s : Live) : Safe s (onShutter k h s).1 := by
  unfold onShutter
  split_ifs
  · exact safe_refl s
  · exact hh s
  · exact safe_refl s

theorem onRowCode_safe (code : RowCode) (s : Live) : Safe s (onRowCode h code s).1 := by
  cases code with
  | named => exact hh s
  | unnamed => exact safe_refl s

end

theorem zoneIsolate_safe (z : Nat) (s : Live) : Safe s (zoneIsolate z s).1 := by
  unfold zoneIsolate
  split
  case h_1 state | h_2 state => exact setZone_safe (not_inAlarm state nofun)
  all_goals exact safe_refl s

theorem zoneRestore_safe (z : Nat) (s : Live) : Safe s (zoneRestore z s).1 := by
  unfold zoneRestore
  split
  · next state =>
    show Safe s (s.restoreZone z)
    unfold Live.restoreZone
    split
    · exact latch_safe s z _
    · exact setZone_safe (not_inAlarm state nofun)
  all_goals exact safe_refl s

theorem zoneSilence_safe (z : Nat) (s : Live) : Safe s (zoneSilence z s).1 := by
  unfold zoneSilence
  split
  · next state =>
    show Safe s (s.silenceZone z)
    unfold Live.silenceZone
    split
    · exact safe_refl s
    · have silenced : Safe s (s.setZone z { s.zone z with silenced := true }) := setZone_safe fun _ => state
      exact silenced.trans (handDemand_safe _ _)
  all_goals exact safe_refl s

theorem shutterLower_safe (k : Nat) (s : Live) : Safe s (shutterLower k s).1 := by
  unfold shutterLower
  split
  · exact free_safe s _
  · exact closeByState_safe s k _

theorem shutterRaise_safe (k : Nat) (s : Live) : Safe s (shutterRaise k s).1 := by
  unfold shutterRaise
  split_ifs
  case neg => exact raiseShutter_safe s k
  all_goals exact free_safe s _

theorem shutterHalt_safe (k : Nat) (s : Live) : Safe s (shutterHalt k s).1 := by
  unfold shutterHalt
  split
  case h_5 state => exact haltShutter_safe (by rw [state]; nofun)
  case h_6 => exact safe_refl s
  case h_1 state | h_2 state | h_3 state | h_4 state =>
    split
    · exact free_safe s _
    · exact haltShutter_safe (by rw [state]; nofun)
  all_goals exact free_safe s _

theorem chainStart_safe (s : Live) : Safe s (chainStart s).1 := by
  unfold chainStart
  split
  · next startable =>
    split
    · exact safe_refl s
    · next conditions => exact enterWarning_safe startable conditions none
  · exact safe_refl s

theorem inspectOn_safe (s : Live) : Safe s (inspectOn s).1 := by
  unfold inspectOn
  split
  · next parked =>
    split
    · exact safe_refl s
    · exact enterChain_safe (by rw [parked]; rfl) rfl
  · exact safe_refl s

theorem inspectOff_safe (s : Live) : Safe s (inspectOff s).1 := by
  unfold inspectOff
  split
  · next idle => exact enterChain_safe (by rw [idle]; rfl) rfl
  all_goals exact safe_refl s

theorem callPlace_safe (f : CallPlaceFields) (s : Live) : Safe s (callPlace f s).1 := by
  unfold callPlace
  split_ifs
  · exact safe_refl s
  · exact safe_refl s
  · split
    · exact (replacePlaced_only s _ f).safe
    · dsimp only
      split_ifs <;> exact (join_only s _).safe

theorem callClear_safe (f : Option CallKey) (s : Live) : Safe s (callClear f s).1 := by
  unfold callClear
  split
  · exact safe_refl s
  · split_ifs
    · exact safe_refl s
    · split
      · exact safe_refl s
      · split_ifs
        · exact free_safe s _
        · exact (removeCall_only s _ _).safe

theorem callMask_safe (f : CallMaskFields) (s : Live) : Safe s (callMask f s).1 := by
  unfold callMask
  split_ifs
  · exact safe_refl s
  · exact (setMask_only s _ _).safe
  · exact safe_refl s

theorem speak_safe (p : Port) (f : SpeakFields) (s : Live) : Safe s (speak p f s).1 := by
  unfold speak
  split_ifs
  case neg =>
    extract_lets r e
    have entered : Safe s e.1 := (enterQueue_only s r).safe
    split <;> exact entered
  all_goals exact safe_refl s

theorem speakCancel_safe (p : Port) (tag : Nat) (s : Live) : Safe s (speakCancel p tag s).1 := by
  unfold speakCancel
  split_ifs
  · exact safe_refl s
  · exact free_safe s _
  · split
    · split_ifs
      · exact safe_refl s
      · exact ((unqueue_only s tag).safe.next (post_only _ _)).next (grants_only _)
    · split
      · split_ifs
        · exact safe_refl s
        · exact (stopPlay_only s _ _).safe.next (grants_only _)
      · exact safe_refl s

theorem closingBegin_safe (n : Nat) (s : Live) : Safe s (closingBegin n s).1 := by
  unfold closingBegin
  extract_lets marks
  split_ifs
  · exact safe_refl s
  · exact safe_refl s
  · exact free_safe s _
  · split
    · exact safe_refl s
    · exact ((withClosing_safe s _).next (postProgramme_only _ _)).trans (takeDue_safe _ _ _)

theorem closingPostpone_safe (n : Nat) (s : Live) : Safe s (closingPostpone n s).1 := by
  unfold closingPostpone
  split_ifs
  · exact safe_refl s
  · split
    · split <;> exact safe_of_same rfl rfl rfl rfl
    · exact free_safe s _

theorem closingAbort_safe (s : Live) : Safe s (closingAbort s).1 := by
  unfold closingAbort
  split
  · exact free_safe s _
  all_goals
    exact ((((withClosing_safe s _).next (withdrawCalls_only _)).next (withdrawSpeech_only _)).trans
      (clearSweep_safe _)).next (postProgramme_only _ _)

theorem closingResume_safe (s : Live) : Safe s (closingResume s).1 := by
  unfold closingResume
  split
  · split
    · exact safe_refl s
    · exact ((withClosing_safe s _).next (postProgramme_only _ _)).trans (takeDue_safe _ _ _)
  all_goals exact free_safe s _

theorem onlyParts.safe {ps : List Part} {s t : Live} (h : onlyParts ps s t) (hg : .gear ∉ ps := by decide)
    (hc : .chain ∉ ps := by decide) (hs : .store ∉ ps := by decide) (hz : .zones ∉ ps := by decide) : Safe s t :=
  safe_of_same (h .chain hc) (congrArg ShutterGear.records (h .gear hg)) (plan_of_store (h .store hs)) (h .zones hz)

theorem withPort_safe (s : Live) (p : Port) (r : PortRecord) : Safe s (s.withPort p r) := by
  cases p <;> exact safe_of_same rfl rfl rfl rfl

theorem noticeFetch_safe (p : Port) (s : Live) : Safe s (noticeFetch p s).1 := by
  unfold noticeFetch
  dsimp only
  split
  · exact safe_refl s
  · exact withPort_safe s p _

theorem planOpen_safe (f : PlanOpenFields) (s : Live) : Safe s (planOpen f s).1 := by
  unfold planOpen
  split
  · exact safe_refl s
  · split <;> exact safe_of_same rfl rfl rfl rfl

theorem planEntry_safe (f : EntryFrame) (s : Live) : Safe s (planEntry f s).1 := by
  unfold planEntry
  split
  · split
    · exact safe_refl s
    · split <;> exact safe_of_same rfl rfl rfl rfl
  · exact safe_refl s

theorem sampleOpen_safe (ph : Nat) (s : Live) : Safe s (sampleOpen ph s).1 := by
  unfold sampleOpen
  split
  · exact safe_refl s
  · extract_lets e
    split <;> exact safe_of_same rfl rfl rfl rfl

theorem sampleData_safe (bytes : List Byte) (s : Live) : Safe s (sampleData bytes s).1 := by
  unfold sampleData
  split
  · split <;> exact safe_of_same rfl rfl rfl rfl
  · exact free_safe s _

theorem wearReadClear_safe (p : Port) (s : Live) : Safe s (wearReadClear p s).1 := by
  unfold wearReadClear
  split <;> exact safe_of_same rfl rfl rfl rfl

/-! ## Taking a request -/

theorem breakLoad_safe (s : Live) (p : Port) (b : Cursor → Bool) : Safe s (s.breakLoad p b) :=
  safe_ite (safe_of_same rfl rfl rfl rfl) (safe_refl s)

/-- A request keeps what its handler keeps, where that follows from `Safe`. -/
theorem takeRequest_keepsSafe {R : Live → Live → Prop} (composes : Composes R) (safe : ∀ {s t}, Safe s t → R s t)
    (p : Port) (k : Kind) (b : Cursor → Bool) (fit : Bool) {h : Live → Handled} (hh : ∀ s, R s (h s).1) (s : Live) :
    R s (takeRequest p k b fit h s) := by
  have replied : ∀ (t : Live) (r : PortRecord), R t (t.withPort p r) := fun t r => safe (withPort_safe t p r)
  unfold takeRequest
  refine ChainRule.either ?_ (composes.refl s)
  extract_lets t
  refine composes.trans (safe ((withPort_safe s p _).trans (breakLoad_safe _ p b)))
    (ChainRule.either (replied _ _) (ChainRule.either (replied _ _) ?_))
  unfold Live.putHandled
  split
  · exact composes.trans (hh t) (replied _ _)
  · exact hh t

theorem takeRequest_safe (p : Port) (k : Kind) (b : Cursor → Bool) (fit : Bool) {h : Live → Handled}
    (hh : ∀ s, Safe s (h s).1) (s : Live) : Safe s (takeRequest p k b fit h s) :=
  takeRequest_keepsSafe safe_composes id p k b fit hh s

section
variable {α : Type} {h : α → Live → Handled}

theorem onBody_safe (body : Body α) (hh : ∀ a s, Safe s (h a s).1) (s : Live) : Safe s (onBody body h s).1 := by
  cases body with
  | fits a => exact hh a s
  | misfit => exact safe_refl s

theorem breakingRequest_safe (p : Port) (k : Kind) (body : Body α) (hh : ∀ a s, Safe s (h a s).1) (s : Live) :
    Safe s (breakingRequest p k body h s) := takeRequest_safe p k _ _ (onBody_safe body hh) s

end

/-! ## The rows -/

theorem whenOn_safe {s t : State} {out : Out} (hout : out = .next t → Safe s.live t.live) (h : whenOn s out = .next t) :
    Safe s.live t.live := by
  unfold whenOn at h
  split at h
  · exact hout h
  · cases h
    exact safe_refl _

theorem onLive_safe {s t : State} {f : Live → Live} (hf : ∀ l, Safe l (f l)) (h : onLive s f = .next t) :
    Safe s.live t.live :=
  whenOn_safe (fun hn => by cases hn; exact hf _) h

/-- A row that touches none of the chain, the shutters, the plan store and the zones. -/
theorem onLive_clear {ps : List Part} {s t : State} {f : Live → Live} (hf : ∀ l, Keeps ps l (f l))
    (h : onLive s f = .next t) (hg : .gear ∉ ps := by decide) (hc : .chain ∉ ps := by decide)
    (hs : .store ∉ ps := by decide) (hz : .zones ∉ ps := by decide) : Safe s.live t.live :=
  onLive_safe (fun l => (hf l).safe hg hc hs hz) h

/-- The rows that act only where they are due. -/
theorem safe_whenDue {f : Live → Live} (hf : ∀ l, Safe l (f l)) (due : Live → Bool) (l : Live) :
    Safe l (if due l then f l else l) := safe_ite (hf l) (safe_refl l)

theorem writeSamples_safe (s : State) (n : Nat) : Safe s.live (s.writeSamples n).live := by
  obtain ⟨frame, -⟩ := writeSamples_frame s n
  exact safe_of_same (frame .chain (by decide)) (congrArg ShutterGear.records (frame .gear (by decide)))
    (writeSamples_planKept s n).1.1 (frame .zones (by decide))

theorem sampleDoneReply_safe (s : Live) : Safe s (sampleDoneReply s) := by
  unfold sampleDoneReply
  split
  · exact (withPort_safe _ _ _).after rfl rfl rfl rfl
  · exact safe_refl s

theorem execScan_safe {s t : State} {i : ScanInput} (h : execScan i s = .next t) : Safe s.live t.live :=
  whenOn_safe (fun hn => by
    split at hn <;> cases hn
    exact (writeSamples_safe s i.bytesWritten).trans (scanStep_safe _ i _)) h

theorem execSampleWriteDone_safe {s t : State} (h : execSampleWriteDone s = .next t) : Safe s.live t.live :=
  whenOn_safe (fun hn => by
    split at hn
    · cases hn; exact safe_refl _
    · next bytes _ =>
      split at hn <;> cases hn
      exact (writeSamples_safe s bytes.length).trans (sampleDoneReply_safe _)) h

theorem execPowerLoss_safe {s t : State} (torn : Bool) (h : execPowerLoss torn s = .next t) : Safe s.live t.live := by
  unfold execPowerLoss at h
  split at h <;> cases h
  · exact safe_refl _
  · exact drop_safe s.live

theorem execWearWrite_safe {s t : State} (h : execWearWrite s = .next t) : Safe s.live t.live :=
  whenOn_safe (fun hn => by
    split at hn <;> cases hn
    · exact safe_of_same rfl rfl rfl rfl
    · exact safe_refl _) h

theorem execPhraseEnd_safe {s t : State} (pl : Player) (h : execPhraseEnd pl s = .next t) : Safe s.live t.live :=
  whenOn_safe (fun hn => by
    split at hn <;> cases hn
    exact (phraseEndStep_only _ pl _).safe) h

theorem execStoreWriteDone_safe {s t : State} (matched : Bool) (h : execStoreWriteDone matched s = .next t) :
    Safe s.live t.live :=
  whenOn_safe (fun hn => by
    split at hn <;> cases hn
    · have written := storeDoneStep_only matched s.live
      exact safe_of_same (written .chain (by decide)) (congrArg ShutterGear.records (written .gear (by decide))) rfl
        (written .zones (by decide))
    · exact safe_refl _) h

theorem execPlanAdopt_safe {s t : State} (p : Port) (body : Body Unit) (h : execPlanAdopt p body s = .next t) :
    Safe s.live t.live := by
  rcases (execPlanAdopt_live h).1 with stands | taken
  · rw [stands]
    exact safe_refl _
  · rw [taken]
    exact breakingRequest_safe p _ body (fun _ => planAdopt_safe) _

theorem frameByteStep_safe (p : Port) (b : Byte) (s : Live) : Safe s (frameByteStep p b s) :=
  safe_ite (withPort_safe s p _) (safe_refl s)

theorem frameGapStep_safe (p : Port) (s : Live) : Safe s (frameGapStep p s) := by
  unfold frameGapStep
  split
  · exact safe_ite (withPort_safe s p _) (safe_refl s)
  · exact safe_refl s

theorem frameDiscardStep_safe (p : Port) (s : Live) : Safe s (frameDiscardStep p s) := by
  unfold frameDiscardStep
  split
  · exact safe_ite (withPort_safe s p _) (safe_refl s)
  · exact safe_refl s

theorem replySentStep_safe (p : Port) (s : Live) : Safe s (replySentStep p s) :=
  safe_ite (withPort_safe s p _) (safe_refl s)

theorem unknownKindStep_safe (p : Port) (code : Byte) (s : Live) : Safe s (unknownKindStep p code s) :=
  safe_ite (((withPort_safe s p _).trans (breakLoad_safe _ p _)).trans (withPort_safe _ _ _)) (safe_refl s)

theorem secondsTickStep_safe (s : Live) : Safe s (secondsTickStep s) :=
  safe_ite (safe_of_same rfl rfl rfl rfl) (safe_refl s)

/-! ## Every command -/

/-- The commands that take the drive off BRAKE in a state that calls for it (R54, R72). -/
def Instr.releasesBrake : Instr → Bool
  | .startWarningEnd | .chainStep _ _ => true
  | _ => false

/-- The commands that take a zone out of ALARM (R86, R94). -/
def Instr.endsAlarm : Instr → Bool
  | .zoneReset _ _ | .coldStart _ => true
  | _ => false

theorem exec_safe {i : Instr} {s t : State} (hb : Instr.releasesBrake i = false) (ha : Instr.endsAlarm i = false)
    (h : exec i s = .next t) : Safe s.live t.live := by
  cases i with
  | startWarningEnd | chainStep p body => cases hb
  | zoneReset p body | coldStart x => cases ha
  | scan x => exact execScan_safe h
  | secondsTick => exact onLive_safe secondsTickStep_safe h
  | sampleWriteDone => exact execSampleWriteDone_safe h
  | pushBlankingEnd p x => exact onLive_safe (pushBlankingEndStep_safe p x) h
  | edgeBlankingEnd k x => exact onLive_safe (edgeBlankingEndStep_safe k x) h
  | resetLow torn => exact whenOn_safe (fun hn => by cases hn; exact drop_safe s.live) h
  | powerLoss torn => exact execPowerLoss_safe torn h
  | linkPulse phase => exact onLive_safe (pulse_safe phase) h
  | decelPoint phase => exact onLive_safe (safe_whenDue (pulse_safe phase) Live.reachesDecel) h
  | stopTargetReached phase => exact onLive_safe (safe_whenDue (pulse_safe phase) Live.reachesTarget) h
  | sweepEnd phase => exact onLive_safe (safe_whenDue (pulse_safe phase) Live.reachesSweepEnd) h
  | stepRemainderEnd phase => exact onLive_safe (safe_whenDue (pulse_safe phase) Live.reachesStepEnd) h
  | missedIndex phase => exact onLive_safe (safe_whenDue (pulse_safe phase) Live.reachesMissed) h
  | indexPulse => exact onLive_safe indexStep_safe h
  | chainSettled => exact onLive_safe chainSettledStep_safe h
  | stall => exact onLive_safe stallStep_safe h
  | warningGongToggle => exact onLive_safe warningGongStep_safe h
  | sweepGongTimer => exact onLive_safe sweepGongStep_safe h
  | wearWrite => exact execWearWrite_safe h
  | reRing key => exact onLive_clear (reRingStep_only key) h
  | closingStepDue => exact onLive_safe (takeDue_safe _ _) h
  | shutterWarningExpiry k => exact onLive_safe (safe_whenDue (judge_safe · k) (Live.warnExpired · k)) h
  | holdOffExpiry k => exact onLive_safe (safe_whenDue (judge_safe · k) (Live.holdExpired · k)) h
  | retractExpiry k => exact onLive_safe (retractStep_safe k) h
  | pauseExpiry k => exact onLive_safe (pauseStep_safe k) h
  | descentLimitExpiry k => exact onLive_safe (descentLimitStep_safe k) h
  | raiseLimitExpiry k => exact onLive_safe (raiseLimitStep_safe k) h
  | phaseEnd c => exact onLive_clear (phaseEndStep_only c) h
  | itemTimerExpiry pl =>
    exact onLive_safe (safe_whenDue (f := fun l => (l.endItem pl).grants)
      (fun l => (endItem_only l pl).safe.next (grants_only _)) (Live.itemDue · pl)) h
  | phraseEnd pl => exact execPhraseEnd_safe pl h
  | ampWaitExpiry ch => exact onLive_clear (ampWaitStep_only ch) h
  | ampHoldExpiry ch => exact onLive_clear (ampHoldStep_only ch) h
  | evacuationRestExpiry => exact onLive_clear evacRestStep_only h
  | frameGapTimeout p => exact onLive_safe (frameGapStep_safe p) h
  | frameDiscard p => exact onLive_safe (frameDiscardStep_safe p) h
  | replySent p => exact onLive_safe (replySentStep_safe p) h
  | frameByte p byte => exact onLive_safe (frameByteStep_safe p byte) h
  | unknownKind p code => exact onLive_safe (unknownKindStep_safe p code) h
  | unitRead p body | zoneRead p body | shutterRead p body | chainRead p body | callList p body | speakList p body
  | closingRead p body | wearRead p body | planRead p body | circuitRead p body =>
    exact onLive_safe (takeRequest_safe p _ _ _ (onBody_safe body fun _ s => safe_refl s)) h
  | wearReadClear p body =>
    exact onLive_safe (takeRequest_safe p _ _ _ (onBody_safe body fun _ => wearReadClear_safe p)) h
  | noticeFetch p body =>
    exact onLive_safe (takeRequest_safe p _ _ _ (onBody_safe body fun _ => noticeFetch_safe p)) h
  | planOpen p body => exact onLive_safe (breakingRequest_safe p _ body planOpen_safe) h
  | planEntry p body => exact onLive_safe (takeRequest_safe p _ _ _ (onBody_safe body planEntry_safe)) h
  | planClose p body => exact onLive_safe (breakingRequest_safe p _ body fun _ s => safe_of_same rfl rfl rfl rfl) h
  | planAdopt p body => exact execPlanAdopt_safe p body h
  | storeWriteDone matched => exact execStoreWriteDone_safe matched h
  | planDiscard p body => exact onLive_safe (breakingRequest_safe p _ body fun _ s => safe_of_same rfl rfl rfl rfl) h
  | sampleOpen p body => exact onLive_safe (breakingRequest_safe p _ body sampleOpen_safe) h
  | sampleData p body => exact onLive_safe (takeRequest_safe p _ _ _ (onBody_safe body sampleData_safe)) h
  | zoneIsolate p body => exact onLive_safe (breakingRequest_safe p _ body fun z => onZone_safe (zoneIsolate_safe z) z) h
  | zoneRestore p body => exact onLive_safe (breakingRequest_safe p _ body fun z => onZone_safe (zoneRestore_safe z) z) h
  | zoneSilence p body => exact onLive_safe (breakingRequest_safe p _ body fun z => onZone_safe (zoneSilence_safe z) z) h
  | shutterLower p body =>
    exact onLive_safe (breakingRequest_safe p _ body fun k => onShutter_safe (shutterLower_safe k) k) h
  | shutterRaise p body =>
    exact onLive_safe (breakingRequest_safe p _ body fun k => onShutter_safe (shutterRaise_safe k) k) h
  | shutterHalt p body =>
    exact onLive_safe (breakingRequest_safe p _ body fun k => onShutter_safe (shutterHalt_safe k) k) h
  | chainStart p body => exact onLive_safe (breakingRequest_safe p _ body fun _ => chainStart_safe) h
  | chainStop p body => exact onLive_safe (breakingRequest_safe p _ body fun _ => stopChain_safe) h
  | chainInspectOn p body => exact onLive_safe (breakingRequest_safe p _ body (onRowCode_safe inspectOn_safe)) h
  | chainInspectOff p body => exact onLive_safe (breakingRequest_safe p _ body (onRowCode_safe inspectOff_safe)) h
  | callPlace p body => exact onLive_safe (breakingRequest_safe p _ body callPlace_safe) h
  | callClear p body => exact onLive_safe (breakingRequest_safe p _ body callClear_safe) h
  | callMask p body => exact onLive_safe (breakingRequest_safe p _ body callMask_safe) h
  | speak p body => exact onLive_safe (breakingRequest_safe p _ body (speak_safe p)) h
  | speakCancel p body => exact onLive_safe (breakingRequest_safe p _ body (speakCancel_safe p)) h
  | closingBegin p body => exact onLive_safe (breakingRequest_safe p _ body closingBegin_safe) h
  | closingPostpone p body => exact onLive_safe (breakingRequest_safe p _ body closingPostpone_safe) h
  | closingAbort p body => exact onLive_safe (breakingRequest_safe p _ body fun _ => closingAbort_safe) h
  | closingResume p body => exact onLive_safe (breakingRequest_safe p _ body fun _ => closingResume_safe) h
  | unitRestart p body => exact onLive_safe (breakingRequest_safe p _ body fun _ s => safe_of_same rfl rfl rfl rfl) h
  | warmRestart => exact onLive_safe (fun l => safe_ite (warmRestart_safe l) (safe_refl l)) h

/-- What a command keeps: the interlock with the items always, a drive at BRAKE but where the command releases it, the
zones in ALARM but where it ends an alarm. -/
structure Kept (i : Instr) (s t : Live) : Prop where
  interlock : Interlock s → Interlock t
  items : Interlock s → ChainItems s → ChainItems t
  atBrake : Instr.releasesBrake i = false → s.chain.AtBrake → t.chain.AtBrake
  alarms : Instr.endsAlarm i = false → ∀ z, s.inAlarm z = true → t.inAlarm z = true

theorem Safe.kept {s t : Live} (h : Safe s t) (i : Instr) : Kept i s t :=
  ⟨h.interlock, h.items, fun _ => h.atBrake, fun _ => h.alarms⟩

theorem kept_composes (i : Instr) : Composes (Kept i) where
  refl s := (safe_refl s).kept i
  trans h g := ⟨g.interlock ∘ h.interlock, fun i => g.items (h.interlock i) ∘ h.items i,
    fun hb => g.atBrake hb ∘ h.atBrake hb, fun ha z => g.alarms ha z ∘ h.alarms ha z⟩

section
variable {i : Instr} {s t : State}

theorem onLive_kept {f : Live → Live} (hf : ∀ l, Kept i l (f l)) (h : onLive s f = .next t) : Kept i s.live t.live := by
  unfold onLive whenOn at h
  split at h <;> cases h
  · exact hf _
  · exact (safe_refl _).kept i

theorem breakingRequest_kept {α : Type} {h : α → Live → Handled} (p : Port) (k : Kind) (body : Body α)
    (hh : ∀ a s, Kept i s (h a s).1) (l : Live) : Kept i l (breakingRequest p k body h l) := by
  refine takeRequest_keepsSafe (kept_composes i) (Safe.kept · i) p k _ _ (fun s => ?_) l
  cases body with
  | fits a => exact hh a s
  | misfit => exact (safe_refl s).kept i

end

/-! ### The commands that release BRAKE -/

/-- The chain's record at the end of its start warning (R54, R55). -/
def ChainDrive.started (c : ChainDrive) (d : DriveOutput) : ChainDrive :=
  { c.turned d with warnTimer := none, carriedLoops := none, gongsOn := false, state := .running }

/-- RUNNING entered at the end of a start warning, before a carried sweep begins (R54, R55). -/
def Live.startRun (s : Live) : Live :=
  ((({ s with chain := { s.chain with warnTimer := none, carriedLoops := none } } : Live).writeGongs false).driveTo
    s.serviceDrive).enterChain .running

theorem startWarningEndStep_due {s : Live} (warning : s.chain.state = .warning)
    (due : timerAt (1000 * s.plan.geometry.startWarning) s.chain.warnTimer = true) :
    startWarningEndStep s = match s.chain.carriedLoops with
      | some n => s.startRun.beginSweep n
      | none => s.startRun := by
  unfold startWarningEndStep
  rw [if_pos ⟨warning, due⟩]
  rfl

theorem startRun_chain (s : Live) : s.startRun.chain = s.chain.started s.serviceDrive := by
  rw [Live.startRun, enterChain_chain, driveTo_chain]
  rfl

theorem startRun_only (s : Live) : Keeps chainParts s s.startRun :=
  keeps_trans (keeps_trans (keeps_trans (chain_only s _) (keeps_widen (writeGongs_only _ _))) (driveTo_only _ _))
    (enterChain_only _ _)

theorem startWarningEndStep_chain {s : Live} (warning : s.chain.state = .warning)
    (due : timerAt (1000 * s.plan.geometry.startWarning) s.chain.warnTimer = true) :
    (startWarningEndStep s).chain = match s.chain.carriedLoops with
      | some n => { s.chain.started s.serviceDrive with
          sweep := some (n * s.plan.geometry.loopLength), gongTimer := some 0, gongsOn := true }
      | none => s.chain.started s.serviceDrive := by
  have plan : s.startRun.plan = s.plan := (startRun_only s).planStands.1
  rw [startWarningEndStep_due warning due]
  cases s.chain.carriedLoops with
  | none => exact startRun_chain s
  | some n =>
    dsimp only
    rw [beginSweep_chain, startRun_chain, plan]

theorem startWarningEndStep_kept (s : Live) : Kept .startWarningEnd s (startWarningEndStep s) := by
  by_cases due : s.chain.state = .warning ∧ timerAt (1000 * s.plan.geometry.startWarning) s.chain.warnTimer = true
  · have chain := startWarningEndStep_chain due.1 due.2
    have frame := startWarningEndStep_only s
    have off := serviceDrive_off s
    have running : (startWarningEndStep s).chain.state = .running := by rw [chain]; split <;> rfl
    have opened := Live.sillsOpen_of_open frame.planStands.1 (openedStand_chainRule.startWarningEndStep s)
    refine ⟨fun i => ⟨fun _ => opened (i.guarded (by rw [due.1]; rfl)), fun _ => by rw [running]; rfl⟩,
      fun i items => ?_, nofun, fun _ z => ?_⟩
    · obtain ⟨stop, deferred, sweep, carried, step, warnTimer, gongTimer, stallTimer⟩ := items
      split at chain <;> constructor <;> grind [ChainDrive.started, ChainDrive.turned, ChainState.driven]
    · rw [inAlarm_of_zones (frame.parts .zones (by decide))]
      exact id
  · rw [startWarningEndStep, if_neg due]
    exact (safe_refl s).kept _

theorem sillsOpen_of_stepRefusal {s : Live} (h : s.stepRefusal = none) : s.sillsOpen := by
  unfold Live.stepRefusal at h
  split at h
  · cases h
  · next none_ => exact sillsOpen_of_none none_

/-- A step taken from INSPECTION IDLE (R72). -/
def Live.beginStep (s : Live) (n : Nat) : Live :=
  (({ s with chain := { s.chain with step := some (min n s.plan.geometry.loopLength) } } : Live).driveTo .creep).enterChain
    (.inspection .creeping)

theorem beginStep_chain (s : Live) (n : Nat) : (s.beginStep n).chain =
    { s.chain.turned .creep with
      step := some (min n s.plan.geometry.loopLength), state := .inspection .creeping } := by
  rw [Live.beginStep, enterChain_chain, driveTo_chain]
  rfl

theorem beginStep_only (s : Live) (n : Nat) : Keeps chainParts s (s.beginStep n) :=
  keeps_trans (keeps_trans (chain_only s _) (driveTo_only _ _)) (enterChain_only _ _)

theorem beginStep_kept {s : Live} (idle : s.chain.state = .inspection .idle) (conditions : s.stepRefusal = none)
    (p : Port) (body : Body Nat) (n : Nat) : Kept (.chainStep p body) s (s.beginStep n) := by
  have chain := beginStep_chain s n
  have frame := beginStep_only s n
  have opens : OpenedStand s (s.beginStep n) := openedStand_chainRule.trans
    (openedStand_chainRule.trans (openedStand_chainRule.chain s _) (openedStand_chainRule.driveTo _ _))
    (openedStand_chainRule.enterChain _ _)
  refine ⟨fun i => ⟨fun _ => Live.sillsOpen_of_open frame.planStands.1 opens (sillsOpen_of_stepRefusal conditions),
    fun _ => by rw [chain]; rfl⟩, fun i items => ?_, nofun, fun _ z => ?_⟩
  · obtain ⟨stop, deferred, sweep, carried, step, warnTimer, gongTimer, stallTimer⟩ := items
    constructor <;> grind [ChainDrive.turned, ChainState.driven]
  · rw [inAlarm_of_zones (frame.parts .zones (by decide))]
    exact id

theorem chainStep_kept (p : Port) (body : Body Nat) (n : Nat) (s : Live) :
    Kept (.chainStep p body) s (chainStep n s).1 := by
  have stands := (safe_refl s).kept (.chainStep p body)
  unfold chainStep
  split_ifs with zero idle
  · exact stands
  · split
    · exact stands
    · next conditions => exact beginStep_kept idle conditions p body n
  · exact stands

/-! ### The commands that end an alarm -/

theorem zoneReset_kept (p : Port) (body : Body Nat) (z : Nat) (s : Live) :
    Kept (.zoneReset p body) s (onZone z (zoneReset z) s).1 := by
  have stands := (safe_refl s).kept (.zoneReset p body)
  have reset : Kept (.zoneReset p body) s (s.resetZone z) := by
    have record : Kept (.zoneReset p body) s
        (s.withZone z ⟨(s.zone z).present, s.lineCondition z, false, none, none⟩) :=
      ⟨fun i => ⟨i.guarded, i.driven⟩, fun _ => ChainItems.of_chain rfl, fun _ => id, nofun⟩
    exact (kept_composes _).trans record (((post_only _ _).safe.trans (handDemand_safe _ _)).kept _)
  unfold onZone
  split_ifs
  · exact stands
  · unfold zoneReset
    split
    · split
      · exact stands
      · exact reset
    all_goals exact stands
  · exact stands

theorem exec_kept {i : Instr} {s t : State} (h : exec i s = .next t) : Kept i s.live t.live := by
  cases i with
  | startWarningEnd => exact onLive_kept startWarningEndStep_kept h
  | chainStep p body => exact onLive_kept (breakingRequest_kept p _ body (chainStep_kept p body)) h
  | zoneReset p body => exact onLive_kept (breakingRequest_kept p _ body (zoneReset_kept p body)) h
  | coldStart x =>
    have cleared := coldStartLive_cleared s.nv x s.live.free
    rw [(execColdStart_next h).1]
    exact ⟨fun _ => cleared.interlock, fun _ _ => cleared.items, fun _ _ => cleared.atBrake, nofun⟩
  | _ => exact (exec_safe rfl rfl h).kept _

/-- A step takes the first waiting command, or leaves the running part as it is. -/
theorem step_kept {s t : State} (h : step s = .next t) : t.live = s.live ∨ ∃ i, Kept i s.live t.live := by
  unfold step at h
  split at h
  · cases h
    exact .inl rfl
  · next i rest _ => exact .inr ⟨i, exec_kept (s := { s with pending := rest }) h⟩

/-- Settles O8. -/
theorem interlockKept : Obligations.InterlockKept := by
  intro s t interlock ran
  rcases step_kept ran with same | ⟨i, kept⟩
  · rwa [same]
  · exact kept.interlock interlock

/-- Settles O9. -/
theorem chainItemsKept : Obligations.ChainItemsKept := by
  intro s t interlock items ran
  rcases step_kept ran with same | ⟨i, kept⟩
  · rwa [same]
  · exact kept.items interlock items

/-- Settles O22. -/
theorem alarmAndBrakeHold : Obligations.AlarmAndBrakeHold := by
  refine ⟨fun i s t z ran alarm notReset notCold => ?_, fun i s t ran brake rests off => ?_⟩
  · refine (exec_kept ran).alarms ?_ z alarm
    cases i with
    | zoneReset p b => exact absurd rfl (notReset p b)
    | coldStart x => exact absurd rfl (notCold x)
    | _ => rfl
  · cases i with
    | startWarningEnd => exact .inl rfl
    | chainStep p b => exact .inr ⟨p, b, rfl⟩
    | _ => exact absurd ((exec_kept ran).atBrake rfl ⟨brake, rests⟩).1 off

end Sys2Proof.Machine

/-! # O42: CHAIN START

First what a request's rule finds and leaves where it acts (`breakingRequest_acts`), and what a judged shutter leaves alone
(`ShutterRule`); then the start itself (R53, R54). -/

namespace Sys2Proof.Machine

-- one thread: a proof that waits for the theorems before it would hold a thread of its own
set_option Elab.async false

/-! ## Taking the request -/

/-- The running part as a request's rule finds it: a load broken by port C's request, the frame taken (R17, R188). -/
def State.begun (s : State) (p : Port) : Live := (s.loadClosed p).live.takeFrame p

theorem begun_only (s : State) (p : Port) : onlyParts [.store, portPart p] s.live (s.begun p) :=
  onlyParts_trans (onlyParts_widen (loadClosed_only s p) (by simp))
    (onlyParts_widen (withPort_only _ _ _) (by simp))

theorem begun_planStands (s : State) (p : Port) : PlanStands s.live (s.begun p) := by
  cases p <;> exact ⟨rfl, rfl⟩

theorem putReply_only (v : Live) (p : Port) (n : Nat) (r : Result) (f : Fields) :
    onlyParts [portPart p] v (v.putReply p n r f) := withPort_only _ _ _

/-- The running part `v` with a reply put on a port. -/
structure Delivered (v t : Live) : Prop where
  parts : onlyParts [.portC, .portF] v t
  notices : ∀ q, (t.port q).notices = (v.port q).notices
  lost : ∀ q, (t.port q).lost = (v.port q).lost

theorem putReply_delivered (v : Live) (p : Port) (n : Nat) (r : Result) (f : Fields) :
    Delivered v (v.putReply p n r f) where
  parts := by cases p <;> exact onlyParts_widen (putReply_only v _ n r f)
  notices q := by cases p <;> cases q <;> rfl
  lost q := by cases p <;> cases q <;> rfl

theorem Delivered.chain {v t : Live} (h : Delivered v t) : t.chain = v.chain := h.parts .chain (by decide)

theorem Delivered.offered {v t : Live} (h : Delivered v t) {note : Note} (offered : v.offered note) : t.offered note :=
  fun q => by
    rw [h.notices, h.lost, (h.parts .clock (by decide)).1]
    exact offered q

section
variable {α : Type} {s : State} {p : Port} {k : Kind} {a : α} {h : α → Live → Handled} {r : Result} {f : Fields}

/-- A request refused, or answered with nothing changed. -/
theorem breakingRequest_unchanged (taken : s.canTake p k) (permitted : p = .f → k.onPortF = true)
    (rule : h a (s.begun p) = (s.begun p, some (r, f))) :
    onLive s (breakingRequest p k (.fits a) h) = .next ((s.loadClosed p).served p k r f) := by
  rw [breakingRequest_answered taken permitted rule]
  cases p <;> rfl

/-- A request whose rule acts and answers at once. -/
theorem breakingRequest_acts {ps qs : List Part} {v : Live} (taken : s.canTake p k) (permitted : p = .f → k.onPortF = true)
    (rule : h a (s.begun p) = (v, some (r, f))) (keeps : Keeps qs (s.begun p) v) (hq : qs ⊆ ps := by decide)
    (hp : [.store, portPart p] ⊆ ps := by decide) : ∃ t, onLive s (breakingRequest p k (.fits a) h) = .next t ∧
      Delivered v t.live ∧ t.replied p k r f ∧ changesOnly ps s t := by
  refine ⟨{ s with live := v.putReply p k.replyCode r f }, ?_, putReply_delivered v p _ r f, ⟨?_, ?_⟩, ⟨rfl, rfl, rfl, rfl⟩, ?_⟩
  · have closed : s.live.breakLoad p breaksAlways = (s.loadClosed p).live := congrArg State.live (breakLoad_always s p)
    refine (onLive_request_handled taken permitted rfl).trans ?_
    rw [closed]
    exact congrArg (fun x => Host.Outcome.next { s with live := Live.putHandled p k x }) rule
  · have pending : (v.port p).replyPending = true := (keeps.wire p).2.2.1.trans (by cases p <;> rfl)
    cases p <;> exact pending
  · cases p <;> rfl
  · exact onlyParts_trans (onlyParts_trans (onlyParts_widen (begun_only s p) hp) (onlyParts_widen keeps.parts hq))
      (onlyParts_widen (putReply_only v p _ r f) fun x hx => hp (List.mem_cons_of_mem _ hx))

end

/-! ## What a judged shutter leaves alone -/

/-- A relation that a change of shutter `k`'s record keeps, with its notices and wear. -/
structure ShutterRule (k : Nat) (R : Live → Live → Prop) : Prop where
  record : ∀ (s : Live) (r : ShutterRecord), R s (s.withShutter k r)
  change : ∀ (s : Live) (r : ShutterRecord), R s (s.changeShutter k r)
  noted : ∀ {s t : Live}, Keeps [.monitor, .portC, .portF] s t → R s t
  trans : ∀ {s t u : Live}, R s t → R t u → R s u

namespace ShutterRule
variable {k : Nat} {R : Live → Live → Prop} (h : ShutterRule k R)
include h

theorem refl (s : Live) : R s s := h.noted (keeps_refl _ s)

theorem post (s : Live) (n : Note) : R s (s.post n) := h.noted (keeps_widen (post_only s n))

theorem closeAtLimit (s : Live) : R s (s.closeAtLimit k) := h.trans (h.change s _) (h.noted (raiseWear_only _ _))

theorem thirdObstruction (s : Live) : R s (s.thirdObstruction k) :=
  ChainRule.either (h.trans (h.record s _) (h.post _ _)) (h.trans (h.change s _) (h.post _ _))

theorem obstruct (s : Live) : R s (s.obstruct k) := by
  unfold Live.obstruct
  extract_lets r r' t
  have counted : R s t := h.trans (h.trans (h.record s r') (h.noted (raiseWear_only _ _))) (h.post _ _)
  exact ChainRule.either (h.trans counted (h.change t _)) (h.trans counted (h.thirdObstruction t))

theorem enterDescending (s : Live) (r : ShutterRecord) : R s (s.enterDescending k r) :=
  h.trans (h.change s _)
    (ChainRule.either (h.closeAtLimit _) (ChainRule.either (h.obstruct _) (h.refl _)))

theorem judge (s : Live) : R s (s.judge k) :=
  ChainRule.either
    (ChainRule.either (h.enterDescending s _)
      (ChainRule.either (h.trans (h.post s _) (h.enterDescending _ _))
        (ChainRule.either (h.refl s) (h.trans (h.record s _) (h.post _ _)))))
    (h.refl s)

end ShutterRule

/-- The gongs of the image and the Shutter Controller's copy of the chain state stand. -/
def GongsStand (s t : Live) : Prop := t.image.gongs = s.image.gongs ∧ t.gear.chainCopy = s.gear.chainCopy

theorem gongsStand_composes : Composes GongsStand :=
  ⟨fun _ => ⟨rfl, rfl⟩, fun h g => ⟨g.1.trans h.1, g.2.trans h.2⟩⟩

theorem GongsStand.after {s t u : Live} (h : GongsStand t u) (hi : t.image.gongs = s.image.gongs)
    (hg : t.gear.chainCopy = s.gear.chainCopy) : GongsStand s u := gongsStand_composes.trans ⟨hi, hg⟩ h

theorem Keeps.gongsStand {ps : List Part} {s t : Live} (h : Keeps ps s t) (hi : .image ∉ ps := by decide)
    (hg : .gear ∉ ps := by decide) : GongsStand s t :=
  ⟨congrArg Image.gongs (h.parts .image hi), congrArg ShutterGear.chainCopy (h.parts .gear hg)⟩

theorem writeGear_gongsStand (s : Live) (k : Nat) (st : ShutterState) : GongsStand s (s.writeGear k st) := by
  unfold Live.writeGear
  split
  · dsimp only
    split
    · unfold Live.blankEdge
      split <;> exact ⟨rfl, rfl⟩
    · exact ⟨rfl, rfl⟩
  · exact ⟨rfl, rfl⟩

theorem gongsStand_shutterRule (k : Nat) : ShutterRule k GongsStand where
  record _ _ := ⟨rfl, rfl⟩
  change s r := by
    have written : GongsStand s (if (s.shutter k).state = r.state then s.withShutter k r
        else (s.withShutter k r).writeGear k r.state) :=
      ChainRule.either ⟨rfl, rfl⟩ (gongsStand_composes.trans (t := s.withShutter k r) ⟨rfl, rfl⟩ (writeGear_gongsStand _ k _))
    exact gongsStand_composes.trans written (postIf_only _ _ _).gongsStand
  noted h := h.gongsStand
  trans := gongsStand_composes.trans

theorem judgeWhere_gongsStand (s : Live) (which : Nat → Bool) : GongsStand s (s.judgeWhere which) :=
  gongsStand_composes.foldl _
    (fun t k => ChainRule.either ((gongsStand_shutterRule k).judge t) (gongsStand_composes.refl t)) _ s

theorem rejudgeSill_gongsStand (s : Live) (i : Nat) : GongsStand s (s.rejudgeSill i) := by
  unfold Live.rejudgeSill
  dsimp only
  split
  · exact gongsStand_composes.refl s
  · exact (judgeWhere_gongsStand _ _).after rfl rfl

theorem rejudge_gongsStand (s : Live) : GongsStand s s.rejudge :=
  gongsStand_composes.foldl _ rejudgeSill_gongsStand _ s

/-- A change of chain state leaves the gongs as they are written. -/
theorem enterChain_gongs (s : Live) (st : ChainState) : (s.enterChain st).image.gongs = s.image.gongs := by
  have set : (s.setChain st).image.gongs = s.image.gongs := by
    unfold Live.setChain
    split <;> rfl
  refine Eq.trans ?_ set
  unfold Live.enterChain Live.takeChainState
  split
  · rfl
  · exact (judgeWhere_gongsStand _ _).1

/-- The gongs that sound: those numbered, of the plan's landings (R54). -/
theorem writeGongs_gongs (s : Live) (on : Bool) {i : Nat} (hi : i < 8) : (s.writeGongs on).image.gongs.read i false =
    (on && s.loop.gongNumbered i && decide (i < s.plan.geometry.landings.length)) :=
  Bank.read_build _ _ _ _ hi

theorem enterChain_offered {s : Live} {st : ChainState} (other : s.chain.state ≠ st) :
    (s.enterChain st).offered (.chainState st) := by
  refine (takeChainState_only _).offered ?_
  rw [Live.setChain, if_neg other]
  exact post_offered _ _

/-! ## CHAIN START (R53, R54) -/

section
variable {u : Live}

theorem chainStart_busyState (h : u.chain.state.startable = false) : chainStart u = answer u (.busy .state 0) :=
  if_neg (by simp [h])

theorem chainStart_refused (h : u.chain.state.startable = true) {r : BusyReason × Nat} (refusal : u.startRefusal = some r) :
    chainStart u = answer u (.busy r.1 r.2) := by
  rw [chainStart, if_pos h, refusal]

theorem chainStart_starts (h : u.chain.state.startable = true) (conditions : u.startRefusal = none) :
    chainStart u = answer (u.enterWarning none) .done := by
  rw [chainStart, if_pos h, conditions]

theorem startRefusal_shutter {k : Nat} (sill : u.sillNotOpen = some k) : u.startRefusal = some (.shutter, k) := by
  rw [Live.startRefusal, sill]

theorem startRefusal_flapTop (sill : u.sillNotOpen = none) (top : u.chain.flapTop = true) :
    u.startRefusal = some (.flap, 0) := by
  simp [Live.startRefusal, sill, top]

theorem startRefusal_flapBottom (sill : u.sillNotOpen = none) (top : u.chain.flapTop = false)
    (bottom : u.chain.flapBottom = true) : u.startRefusal = some (.flap, 1) := by
  simp [Live.startRefusal, sill, top, bottom]

theorem startRefusal_zone (sill : u.sillNotOpen = none) (top : u.chain.flapTop = false)
    (bottom : u.chain.flapBottom = false) : u.startRefusal = u.alarmWithLanding.map fun z => (.zone, z) := by
  cases zone : u.alarmWithLanding <;> simp [Live.startRefusal, sill, top, bottom, zone]

end

/-- The gongs of the plan's landings sound in a start warning (R53, R54). -/
theorem enterWarning_gongs (u : Live) (l : Option Nat) {i : Nat} (hi : i < 8) :
    (u.enterWarning l).image.gongs.read i false =
      (u.loop.gongNumbered i && decide (i < u.plan.geometry.landings.length)) := by
  rw [Live.enterWarning, enterChain_gongs, writeGongs_gongs _ _ hi]
  exact Bool.true_and _ ▸ rfl

theorem enterWarning_offered {u : Live} (l : Option Nat) (other : u.chain.state ≠ .warning) :
    (u.enterWarning l).offered (.chainState .warning) := enterChain_offered other

/-- Settles O42. -/
theorem chainStartEffect : Obligations.ChainStartEffect := by
  intro s taken busy
  have refused {r : BusyReason} {n : Nat} (startable : s.live.chain.state.startable = true)
      (refusal : (s.begun .c).startRefusal = some (r, n)) : busy r n :=
    breakingRequest_unchanged taken nofun (chainStart_refused (u := s.begun .c) startable refusal)
  have zones (sill : s.live.sillNotOpen = none) (top : s.live.chain.flapTop = false)
      (bottom : s.live.chain.flapBottom = false) :
      (s.begun .c).startRefusal = s.live.alarmWithLanding.map fun z => (.zone, z) :=
    startRefusal_zone (u := s.begun .c) sill top bottom
  refine ⟨fun state => breakingRequest_unchanged taken nofun (chainStart_busyState (u := s.begun .c) state),
    fun startable => ⟨fun k sill => refused startable (startRefusal_shutter sill),
      fun sill => ⟨fun top => refused startable (startRefusal_flapTop sill top),
        fun top bottom => refused startable (startRefusal_flapBottom sill top bottom),
        fun top bottom => ⟨fun z zone => refused startable (by rw [zones sill top bottom, zone]; rfl), fun zone => ?_⟩⟩⟩⟩
  have conditions : (s.begun .c).startRefusal = none := by rw [zones sill top bottom, zone]; rfl
  have other : s.live.chain.state ≠ .warning := by rintro warning; rw [warning] at startable; cases startable
  obtain ⟨t, ran, delivered, replied, changes⟩ := breakingRequest_acts (h := fun _ => chainStart) taken nofun
    (chainStart_starts (u := s.begun .c) startable conditions) (enterWarning_only _ none)
    (ps := [.chain, .monitor, .gear, .image, .loop, .store, .portC, .portF])
  refine ⟨t, ran, replied, ?_, delivered.offered (enterWarning_offered none other), fun i hi => ?_, changes⟩
  · rw [delivered.chain, enterWarning_chain]
    rfl
  · rw [delivered.parts .image (by decide), enterWarning_gongs _ _ hi]
    rfl

end Sys2Proof.Machine

/-! # O43: the end of the start warning, and the gongs -/

namespace Sys2Proof.Machine

-- one thread: a proof that waits for the theorems before it would hold a thread of its own
set_option Elab.async false

/-! ## The end of the start warning (R54, R55) -/

/-- The settle timer of the Chain Monitor stands. -/
def SettleTimerStands (s t : Live) : Prop := t.monitor.settleTimer = s.monitor.settleTimer

theorem ShutterWear.settleTimer {s t : Live} (h : ShutterWear s t) : SettleTimerStands s t := by
  obtain ⟨w, monitor, -⟩ := h
  rw [SettleTimerStands, monitor]

theorem rejudgeSill_settleTimer (s : Live) (i : Nat) : SettleTimerStands s (s.rejudgeSill i) := by
  unfold Live.rejudgeSill
  dsimp only
  split
  · rfl
  · exact (judgeWhere_shutterWear _ _).settleTimer

theorem settleTimerStands_composes : Composes SettleTimerStands := ⟨fun _ => rfl, fun h g => Eq.trans g h⟩

theorem rejudge_settleTimer (s : Live) : SettleTimerStands s s.rejudge :=
  settleTimerStands_composes.foldl _ rejudgeSill_settleTimer _ s

/-- A drive that leaves BRAKE ends settling and stops the settle timer (R42). -/
theorem driveTo_released {s : Live} {d : DriveOutput} (brake : s.chain.drive = .brake) (off : d ≠ .brake) :
    (s.driveTo d).monitor.settleTimer = none ∧ (s.driveTo d).monitor.settled = false := by
  unfold Live.driveTo
  rw [if_neg (by rw [brake]; exact off.symm), if_neg off, if_pos brake]
  exact ⟨rejudge_settleTimer _, rejudge_settled _⟩

theorem startRun_monitor {s : Live} (brake : s.chain.drive = .brake) :
    s.startRun.monitor.settleTimer = none ∧ s.startRun.monitor.settled = false := by
  have entered := enterChain_shutterWear ((({ s with chain := { s.chain with
    warnTimer := none, carriedLoops := none } } : Live).writeGongs false).driveTo s.serviceDrive) .running
  obtain ⟨timer, settled⟩ := driveTo_released
    (s := ({ s with chain := { s.chain with warnTimer := none, carriedLoops := none } } : Live).writeGongs false)
    brake (serviceDrive_off s)
  exact ⟨entered.settleTimer.trans timer, entered.settled.trans settled⟩

theorem startRun_offered {s : Live} (warning : s.chain.state = .warning) : s.startRun.offered (.chainState .running) := by
  refine enterChain_offered ?_
  rw [driveTo_chain]
  dsimp only [ChainDrive.turned, Live.writeGongs_chain]
  rw [warning]
  nofun

section
variable {s : Live} (warning : s.chain.state = .warning)
  (due : timerAt (1000 * s.plan.geometry.startWarning) s.chain.warnTimer = true)
include warning due

theorem startWarningEndStep_monitor (brake : s.chain.drive = .brake) :
    (startWarningEndStep s).monitor.settleTimer = none ∧ (startWarningEndStep s).monitor.settled = false := by
  rw [startWarningEndStep_due warning due]
  split <;> exact startRun_monitor brake

theorem startWarningEndStep_offered : (startWarningEndStep s).offered (.chainState .running) := by
  rw [startWarningEndStep_due warning due]
  split
  · exact (beginSweep_only _ _).offered (startRun_offered warning)
  · exact startRun_offered warning

end

/-- The drive that a start turns off BRAKE begins its stall timer (R55, R65). -/
theorem started_stallTimer {c : ChainDrive} {d : DriveOutput} (brake : c.drive = .brake) (off : d ≠ .brake) :
    (c.started d).stallTimer = some 0 := by
  simp [ChainDrive.started, ChainDrive.turned, brake, off, off.symm]

/-! ## The gongs (R54, R68) -/

theorem warningGongStep_chain {s : Live} {n : Nat} (warning : s.chain.state = .warning)
    (timer : s.chain.warnTimer = some n) :
    (warningGongStep s).chain = { s.chain with gongsOn := n / 500 % 2 == 0 } := by
  unfold warningGongStep
  simp only [warning, timer]
  split
  · next same => rw [← show s.chain.gongsOn = (n / 500 % 2 == 0) from same, ← warning, ← timer]
  · rw [Live.writeGongs_chain, ← warning, ← timer]
    rfl

section
variable {s : Live} {m n : Nat} (sweep : s.chain.sweep = some m) (timer : s.chain.gongTimer = some n)
include sweep timer

theorem sweepGongStep_struck (due : 5000 ≤ n) :
    (sweepGongStep s).chain = { s.chain with gongTimer := some 0, gongsOn := true } := by
  unfold sweepGongStep
  simp only [sweep, timer]
  rw [if_pos (show Config.sweepGongMs ≤ n from due)]
  rfl

theorem sweepGongStep_ends (stroke : 500 ≤ n) (early : n < 5000) :
    (sweepGongStep s).chain = { s.chain with gongsOn := false } := by
  unfold sweepGongStep
  simp only [sweep, timer]
  rw [if_neg (show ¬ Config.sweepGongMs ≤ n from Nat.not_le.mpr early)]
  split
  · rw [Live.writeGongs_chain, ← sweep, ← timer]
  · next silent =>
    have off : s.chain.gongsOn = false := by simpa [show Config.gongMs ≤ n from stroke] using silent
    rw [← off, ← sweep, ← timer]

end

/-- Settles O43. -/
theorem warningAndGongs : Obligations.WarningAndGongs := by
  intro s n on
  refine ⟨fun warning timer due brake => ?_, fun warning timer => ?_, fun m sweep timer => ⟨fun due => ?_, fun stroke early => ?_⟩⟩
  · have due' : timerAt (1000 * s.live.plan.geometry.startWarning) s.live.chain.warnTimer = true := by
      rw [timer]
      exact decide_eq_true due
    have chain := startWarningEndStep_chain warning due'
    obtain ⟨settleTimer, settled⟩ := startWarningEndStep_monitor warning due' brake
    have stall := started_stallTimer brake (serviceDrive_off s.live)
    refine ⟨_, onLive_of_on on _, ?_, ?_, ?_, ?_, ?_, fun m carried => ?_, fun none_ => ?_, settleTimer, settled,
      startWarningEndStep_offered warning due', ⟨rfl, rfl, rfl, rfl⟩,
      onlyParts_widen (startWarningEndStep_only s.live).parts⟩
    all_goals dsimp only; rw [chain]
    · split <;> rfl
    · split <;> rfl
    · split <;> rfl
    · split <;> rfl
    · split <;> exact stall
    · rw [carried]
      exact ⟨rfl, rfl⟩
    · rw [none_]
      rfl
  · exact ⟨_, onLive_of_on on _, warningGongStep_chain warning timer, ⟨rfl, rfl, rfl, rfl⟩,
      (warningGongStep_only s.live).parts⟩
  · exact ⟨_, onLive_of_on on _, sweepGongStep_struck sweep timer due, ⟨rfl, rfl, rfl, rfl⟩,
      (sweepGongStep_only s.live).parts⟩
  · exact ⟨_, onLive_of_on on _, sweepGongStep_ends sweep timer stroke early, ⟨rfl, rfl, rfl, rfl⟩,
      (sweepGongStep_only s.live).parts⟩

end Sys2Proof.Machine

/-! # O44: CHAIN STOP -/

namespace Sys2Proof.Machine

-- one thread: a proof that waits for the theorems before it would hold a thread of its own
set_option Elab.async false

/-! ## Planned stops (R57, R58) -/

/-- The stop placed from where the chain stands (R57). -/
def Live.nextStop (s : Live) : StopRecord :=
  Machine.placeStop s.plan s.store.fullClear s.monitor.count s.monitor.speed

/-- A stop placed with its sweep ended: it is approached where it lies beyond its decel point, and crept to otherwise. -/
theorem endSweep_placeStop_chain (s : Live) (c : StopCause) : (s.endSweep.placeStop c).chain =
    if s.nextStop.decel < s.nextStop.linksToGo then
      { s.chain.unswept with stop := some s.nextStop, deferred := none, state := .stopping c .approach }
    else { s.chain.unswept.turned .creep with
      stop := some s.nextStop, deferred := none, state := .stopping c .creeping } := by
  have store : s.endSweep.store = s.store := (endSweep_only s).parts .store (by decide)
  have next : s.endSweep.nextStop = s.nextStop := by
    simp only [Live.nextStop, plan_of_store store, store, endSweep_monitor]
  have placed := placeStop_chain s.endSweep c
  rw [endSweep_chain] at placed
  exact placed.trans (by rw [← next]; rfl)

section
variable (s : Live) (c : StopCause)

theorem endSweep_placeStop_items : (s.endSweep.placeStop c).chain.stop = some s.nextStop ∧
    (s.endSweep.placeStop c).chain.sweep = none ∧ (s.endSweep.placeStop c).chain.deferred = none ∧
    (s.endSweep.placeStop c).chain.gongTimer = s.chain.unswept.gongTimer ∧
    (s.endSweep.placeStop c).chain.gongsOn = s.chain.unswept.gongsOn := by
  rw [endSweep_placeStop_chain]
  split <;> exact ⟨rfl, rfl, rfl, rfl, rfl⟩

theorem endSweep_placeStop_phase : if s.nextStop.decel < s.nextStop.linksToGo then
      (s.endSweep.placeStop c).chain.state = .stopping c .approach ∧ (s.endSweep.placeStop c).chain.drive = s.chain.drive
    else (s.endSweep.placeStop c).chain.state = .stopping c .creeping ∧
      (s.endSweep.placeStop c).chain.drive = .creep := by
  rw [endSweep_placeStop_chain]
  split
  · exact ⟨rfl, rfl⟩
  · exact ⟨rfl, rfl⟩

end

/-- A stop without a VALID position is deferred, with its notice (R60). -/
theorem requestStop_defers {s : Live} {c : StopCause} (notValid : s.monitor.position ≠ .valid)
    (none_ : s.chain.deferred = none) : (s.requestStop c).chain = { s.chain.unswept with deferred := some c } ∧
      (s.requestStop c).offered (.stopDeferred c) := by
  refine ⟨by rw [requestStop_notValid_chain c notValid, none_]; rfl, ?_⟩
  have absent : ¬ s.endSweep.chain.deferred.isSome = true := by
    rw [endSweep_chain]
    simp [ChainDrive.unswept, none_]
  unfold Live.requestStop
  dsimp only
  rw [endSweep_monitor, if_neg notValid, if_neg absent]
  exact post_offered _ _

/-! ## CHAIN STOP (R56) -/

section
variable {s : Live}

theorem stopChain_running (running : s.chain.state = .running) (none_ : s.chain.deferred = none) :
    s.stopChain = s.requestStop .host := by
  simp only [Live.stopChain, running, none_]
  rfl

theorem stopChain_warning (warning : s.chain.state = .warning) : s.stopChain = s.endWarning .parked := by
  simp only [Live.stopChain, warning]

/-- A step under way brakes with nothing left to do (R73). -/
theorem stopChain_creeping (creeping : s.chain.state = .inspection .creeping) :
    s.stopChain = ({ s with chain := { s.chain with step := some 0 } } : Live).brakeStep := by
  simp only [Live.stopChain, creeping]

/-- A chain that CHAIN STOP leaves as it is. -/
theorem stopChain_stands (h : (s.chain.state = .running ∧ s.chain.deferred ≠ none) ∨ s.chain.state = .parked ∨
      (∃ c, s.chain.state = .held c) ∨ s.chain.state = .fault ∨ (∃ c ph, s.chain.state = .stopping c ph) ∨
      s.chain.state = .inspection .idle ∨ s.chain.state = .inspection .braked) : s.stopChain = s := by
  unfold Live.stopChain
  rcases h with ⟨running, deferred⟩ | parked | ⟨c, held⟩ | fault | ⟨c, ph, stopping⟩ | idle | braked
  · simp only [running]
    exact if_pos (Option.isSome_iff_ne_none.mpr deferred)
  · simp only [parked]
  · simp only [held]
  · simp only [fault]
  · simp only [stopping]
  · simp only [idle]
  · simp only [braked]

end

theorem brakeStep_chain (s : Live) :
    s.brakeStep.chain = { s.chain.turned .brake with state := .inspection .braked } := by
  rw [Live.brakeStep, driveTo_chain]

/-- Settles O44. -/
theorem chainStopEffect : Obligations.ChainStopEffect := by
  intro p s taken r becomes
  have chain : (s.begun p).chain = s.live.chain := begun_only s p .chain (by cases p <;> decide)
  have monitor : (s.begun p).monitor = s.live.monitor := begun_only s p .monitor (by cases p <;> decide)
  have next : (s.begun p).nextStop = r := by cases p <;> rfl
  have acts (P : Live → Prop) (holds : ∀ t, Delivered (s.begun p).stopChain t → P t) : becomes P := by
    obtain ⟨t, ran, delivered, replied, changes⟩ := breakingRequest_acts (h := fun _ s => answer s.stopChain .done) (a := ())
      taken (fun _ => rfl) rfl (stopChain_only _) (ps := [.chain, .monitor, .gear, .image, .loop, .store, .portC, .portF])
      (hp := by cases p <;> decide)
    exact ⟨t, ran, replied, holds _ delivered, changes⟩
  clear_value becomes
  rw [← chain, ← monitor, ← next]
  refine ⟨fun running none_ valid => acts _ ?_, fun running none_ notValid => acts _ ?_, fun warning => acts _ ?_,
    fun creeping => acts _ ?_, fun stands => ?_⟩
  · intro t done
    rw [stopChain_running running none_, requestStop_valid _ valid] at done
    obtain ⟨stop, sweep, -⟩ := endSweep_placeStop_items (s.begun p) .host
    rw [done.chain]
    exact ⟨stop, sweep, endSweep_placeStop_phase _ _⟩
  · intro t done
    rw [stopChain_running running none_] at done
    obtain ⟨deferred, posted⟩ := requestStop_defers (c := .host) notValid none_
    rw [done.chain, deferred]
    exact ⟨running, rfl, rfl, done.offered posted⟩
  · intro t done
    rw [stopChain_warning warning] at done
    rw [done.chain, endWarning_chain]
    exact ⟨rfl, rfl, rfl, rfl, rfl⟩
  · intro t done
    rw [stopChain_creeping creeping] at done
    obtain ⟨gear, portC, portF⟩ := brakeStep_silent ({ s.begun p with chain := { (s.begun p).chain with step := some 0 } })
    refine ⟨?_, ?_, ?_, ?_, fun q => ?_⟩
    · rw [done.chain]; rfl
    · rw [done.chain, brakeStep_drive]
    · rw [done.chain, brakeStep_chain]; rfl
    · rw [done.parts .gear (by decide), gear]
      exact begun_only s p .gear (by cases p <;> decide)
    · rw [done.notices]
      cases q <;> cases p <;> simp only [Live.port, portC, portF] <;> rfl
  · refine breakingRequest_unchanged (h := fun _ s => answer s.stopChain .done) (a := ()) taken (fun _ => rfl) ?_
    rw [stopChain_stands stands]
    rfl

end Sys2Proof.Machine

/-! # O45: CHAIN INSPECT, CHAIN STEP and the last pulse of a step -/

namespace Sys2Proof.Machine

-- one thread: a proof that waits for the theorems before it would hold a thread of its own
set_option Elab.async false

/-! ## CHAIN INSPECT and CHAIN STEP (R71, R72) -/

section
variable {u : Live}

theorem inspectOn_begins (parked : u.chain.state = .parked) (sill : u.sillNotOpen = none) :
    inspectOn u = answer (u.enterChain (.inspection .idle)) .done := by
  rw [inspectOn, if_pos parked, sill]

theorem inspectOn_busyShutter {k : Nat} (parked : u.chain.state = .parked) (sill : u.sillNotOpen = some k) :
    inspectOn u = answer u (.busy .shutter k) := by
  rw [inspectOn, if_pos parked, sill]

theorem inspectOn_busyState (other : u.chain.state ≠ .parked) : inspectOn u = answer u (.busy .state 0) := if_neg other

theorem inspectOff_parks (idle : u.chain.state = .inspection .idle) :
    inspectOff u = answer (u.enterChain .parked) .done := by
  simp only [inspectOff, idle]

theorem inspectOff_busyState (stepping : u.chain.state = .inspection .creeping ∨ u.chain.state = .inspection .braked) :
    inspectOff u = answer u (.busy .state 0) := by
  rcases stepping with creeping | braked
  · simp only [inspectOff, creeping]
  · simp only [inspectOff, braked]

theorem inspectOff_outside (outside : ∀ x, u.chain.state ≠ .inspection x) : inspectOff u = answer u .done := by
  unfold inspectOff
  split
  · next state => exact absurd state (outside _)
  · next x _ state => exact absurd state (outside x)
  · rfl

theorem chainStep_zero : chainStep 0 u = answer u .badValue := if_pos rfl

theorem chainStep_busyState {n : Nat} (links : 0 < n) (other : u.chain.state ≠ .inspection .idle) :
    chainStep n u = answer u (.busy .state 0) := by
  rw [chainStep, if_neg (Nat.ne_of_gt links), if_neg other]

theorem chainStep_refused {n : Nat} (links : 0 < n) (idle : u.chain.state = .inspection .idle)
    {r : BusyReason × Nat} (refusal : u.stepRefusal = some r) : chainStep n u = answer u (.busy r.1 r.2) := by
  rw [chainStep, if_neg (Nat.ne_of_gt links), if_pos idle, refusal]

theorem chainStep_begins {n : Nat} (links : 0 < n) (idle : u.chain.state = .inspection .idle)
    (conditions : u.stepRefusal = none) : chainStep n u = answer (u.beginStep n) .done := by
  rw [chainStep, if_neg (Nat.ne_of_gt links), if_pos idle, conditions]
  rfl

theorem stepRefusal_shutter {k : Nat} (sill : u.sillNotOpen = some k) : u.stepRefusal = some (.shutter, k) := by
  rw [Live.stepRefusal, sill]

theorem stepRefusal_flapTop (sill : u.sillNotOpen = none) (top : u.chain.flapTop = true) :
    u.stepRefusal = some (.flap, 0) := by
  simp [Live.stepRefusal, sill, top]

theorem stepRefusal_flapBottom (sill : u.sillNotOpen = none) (top : u.chain.flapTop = false)
    (bottom : u.chain.flapBottom = true) : u.stepRefusal = some (.flap, 1) := by
  simp [Live.stepRefusal, sill, top, bottom]

theorem stepRefusal_none (sill : u.sillNotOpen = none) (top : u.chain.flapTop = false)
    (bottom : u.chain.flapBottom = false) : u.stepRefusal = none := by
  simp [Live.stepRefusal, sill, top, bottom]

end

/-! ### The last pulse of a step -/

/-- A LINK pulse's part of the Chain Monitor hands no chain state to the Shutter Controller (R51). -/
theorem monitorPulse_gongsStand (s : Live) (phase : Nat) : GongsStand s (s.monitorPulse phase) := by
  have counted : GongsStand s ((s.advanceCount).loseIndex) := by
    refine gongsStand_composes.trans (advanceCount_only s).gongsStand ?_
    unfold Live.loseIndex
    split <;> exact ⟨rfl, rfl⟩
  have fed (t : Live) : GongsStand t (t.feedTimers phase) := by
    unfold Live.feedTimers
    dsimp only
    split
    · exact (postIf_only _ _ _).gongsStand.after rfl rfl
    · exact ⟨rfl, rfl⟩
  have judged := gongsStand_composes.trans (gongsStand_composes.trans counted (fed _)) (rejudge_gongsStand _)
  exact ChainRule.either (gongsStand_composes.trans judged (judgeWhere_gongsStand _ _)) judged

theorem drivePulse_stepEnds {s : Live} (creeping : s.chain.state = .inspection .creeping) (last : s.chain.step = some 1) :
    s.drivePulse.chain.state = .inspection .braked ∧ s.drivePulse.chain.drive = .brake ∧
      s.drivePulse.chain.step = some 0 ∧ s.drivePulse.gear = s.gear := by
  rw [drivePulse_step creeping last, if_pos (Nat.le_refl 1)]
  refine ⟨rfl, brakeStep_drive _, by rw [brakeStep_chain]; rfl, (brakeStep_silent _).1.trans ?_⟩
  dsimp only
  unfold Live.watched
  split <;> rfl

theorem pulse_stepEnds {s : Live} (phase : Nat) (creeping : s.chain.state = .inspection .creeping)
    (last : s.chain.step = some 1) : (pulse phase s).chain.state = .inspection .braked ∧
      (pulse phase s).chain.drive = .brake ∧ (pulse phase s).chain.step = some 0 ∧
      (pulse phase s).gear.chainCopy = s.gear.chainCopy := by
  have chain := monitorPulse_chain phase s
  obtain ⟨state, drive, step, gear⟩ := drivePulse_stepEnds (s := s.monitorPulse phase) (by rw [chain]; exact creeping)
    (by rw [chain]; exact last)
  exact ⟨state, drive, step, (congrArg ShutterGear.chainCopy gear).trans (monitorPulse_gongsStand s phase).2⟩

/-- Settles O45. -/
theorem inspectionAndStep : Obligations.InspectionAndStep := by
  intro s becomes answers
  refine ⟨fun taken => ?_, fun taken n => ?_, fun phase on creeping last => ?_⟩
  · have refused {h : Live → Handled} {r : Result} (rule : h (s.begun .c) = answer (s.begun .c) r) :
        onLive s (breakingRequest .c .chainInspect (.fits .named) (onRowCode h)) =
          .next ((s.loadClosed .c).served .c .chainInspect r .none) :=
      breakingRequest_unchanged taken nofun rule
    have entered {h : Live → Handled} {st : ChainState}
        (rule : h (s.begun .c) = answer ((s.begun .c).enterChain st) .done) : ∃ t,
          onLive s (breakingRequest .c .chainInspect (.fits .named) (onRowCode h)) = .next t ∧
          t.replied .c .chainInspect .done .none ∧ t.live.chain = { s.live.chain with state := st } ∧
          changesOnly [.chain, .monitor, .gear, .image, .loop, .store, .portC, .portF] s t := by
      obtain ⟨t, ran, delivered, replied, changes⟩ := breakingRequest_acts (h := onRowCode h) (a := .named) taken nofun
        rule (enterChain_only _ st) (ps := [.chain, .monitor, .gear, .image, .loop, .store, .portC, .portF])
      exact ⟨t, ran, replied, by rw [delivered.chain, enterChain_chain]; rfl, changes⟩
    exact ⟨fun parked sill => entered (inspectOn_begins (u := s.begun .c) parked sill),
      fun k parked sill => refused (inspectOn_busyShutter (u := s.begun .c) parked sill),
      fun other => refused (inspectOn_busyState (u := s.begun .c) other),
      fun idle => entered (inspectOff_parks (u := s.begun .c) idle),
      fun stepping => refused (inspectOff_busyState (u := s.begun .c) stepping),
      fun outside => refused (inspectOff_outside (u := s.begun .c) outside),
      breakingRequest_unchanged (h := onRowCode inspectOn) (a := .unnamed) taken nofun rfl,
      breakingRequest_unchanged (h := onRowCode inspectOff) (a := .unnamed) taken nofun rfl⟩
  · have refused {r : Result} (rule : chainStep n (s.begun .c) = answer (s.begun .c) r) :
        answers (.chainStep .c (.fits n)) .chainStep r := breakingRequest_unchanged taken nofun rule
    have busy {r : BusyReason} {k : Nat} (links : 0 < n) (idle : s.live.chain.state = .inspection .idle)
        (refusal : (s.begun .c).stepRefusal = some (r, k)) : answers (.chainStep .c (.fits n)) .chainStep (.busy r k) :=
      refused (chainStep_refused (u := s.begun .c) links idle refusal)
    refine ⟨?_, fun links other => refused (chainStep_busyState (u := s.begun .c) links other),
      fun k links idle sill => busy links idle (stepRefusal_shutter sill),
      fun links idle sill => ⟨fun top => busy links idle (stepRefusal_flapTop sill top),
        fun top bottom => busy links idle (stepRefusal_flapBottom sill top bottom)⟩,
      fun links idle sill top bottom => ?_⟩
    · rintro rfl
      exact refused chainStep_zero
    · obtain ⟨t, ran, delivered, replied, changes⟩ := breakingRequest_acts (h := chainStep) (a := n) taken nofun
        (chainStep_begins (u := s.begun .c) links idle (stepRefusal_none (u := s.begun .c) sill top bottom)) (beginStep_only _ n)
        (ps := [.chain, .monitor, .gear, .image, .loop, .store, .portC, .portF])
      refine ⟨t, ran, replied, ?_, changes⟩
      dsimp only
      rw [delivered.chain, beginStep_chain]
      exact ⟨rfl, rfl, rfl⟩
  · have due : s.live.reachesStepEnd = true := by simp [Live.reachesStepEnd, creeping, last]
    obtain ⟨state, drive, step, copy⟩ := pulse_stepEnds phase creeping last
    exact ⟨_, execPulse_due on due, state, drive, step, copy, pulse_changesOnly phase s⟩

end Sys2Proof.Machine

/-! # O49: what a fire stop, a flap and SLOW do to the chain -/

namespace Sys2Proof.Machine

-- one thread: a proof that waits for the theorems before it would hold a thread of its own
set_option Elab.async false

/-! ## Emergency braking, dropped stops and ended warnings (R54, R63) -/

/-- A chain braked in an emergency, its items absent, with CHAIN EMERGENCY and the wear count (R63). -/
structure EmergencyBraked (s t : Live) (why : EmergencyReason) (index : Nat) (st : ChainState) : Prop where
  drive : t.chain.drive = .brake
  state : t.chain.state = st
  stop : t.chain.stop = none
  deferred : t.chain.deferred = none
  sweep : t.chain.sweep = none
  step : t.chain.step = none
  posted : t.offered (.chainEmergency why index s.chain.drive)
  counted : t.monitor.wear.emergencyStops = if s.monitor.wear.emergencyStops < 65535 then
    s.monitor.wear.emergencyStops + 1 else s.monitor.wear.emergencyStops

theorem emergency_braked (s : Live) (why : EmergencyReason) (index : Nat) (st : ChainState) :
    EmergencyBraked s (s.emergency why index st) why index st where
  drive := by rw [emergency_chain]; rfl
  state := by rw [emergency_chain]
  stop := by rw [emergency_chain]
  deferred := by rw [emergency_chain]
  sweep := by rw [emergency_chain]; rfl
  step := by rw [emergency_chain]
  posted := emergency_offered s why index st
  counted := emergency_stops s why index st

/-- The cause of a stop for FIRE outlives a flap trip (R64). -/
theorem heldAfter_stopping (c : StopCause) (ph : StopPhase) (h : HeldCause) :
    heldAfter (.stopping c ph) h = .held (if c = .fire then .fire else h) := by
  cases c <;> rfl

/-! ## The fire stop (R61) -/

section
variable {s : Live}

theorem fireStop_placed (running : s.chain.state = .running) (valid : s.monitor.position = .valid) :
    s.fireStop = s.endSweep.placeStop .fire := by
  simp only [Live.fireStop, running, valid, if_true]

theorem fireStop_lost (running : s.chain.state = .running) (notValid : s.monitor.position ≠ .valid) :
    s.fireStop = s.emergency .fire 0 (.held .fire) := by
  simp only [Live.fireStop, running, if_neg notValid]

theorem fireStop_stopping {c : StopCause} {ph : StopPhase} (stopping : s.chain.state = .stopping c ph) :
    s.fireStop = s.enterChain (.stopping .fire ph) := by
  simp only [Live.fireStop, stopping]

theorem fireStop_warning (warning : s.chain.state = .warning) : s.fireStop = s.endWarning (.held .fire) := by
  simp only [Live.fireStop, warning]

theorem fireStop_creeping (creeping : s.chain.state = .inspection .creeping) :
    s.fireStop = s.emergency .fire 0 (.held .fire) := by
  simp only [Live.fireStop, creeping]

theorem fireStop_braked (braked : s.chain.state = .inspection .braked) : s.fireStop = s.dropTo (.held .fire) := by
  simp only [Live.fireStop, braked]

theorem fireStop_fault (fault : s.chain.state = .fault) : s.fireStop = s := by
  simp only [Live.fireStop, fault]

end

/-! ## A change of a flap (R64) -/

/-- A flap recorded and FLAP CHANGE posted. -/
def Live.flapRecorded (s : Live) (bottom tripped : Bool) : Live :=
  ({ s with
    chain := if bottom then { s.chain with flapBottom := tripped } else { s.chain with flapTop := tripped } } : Live).post
    (.flapChange bottom tripped)

theorem flapRecorded_only (s : Live) (bottom tripped : Bool) : Keeps chainParts s (s.flapRecorded bottom tripped) :=
  keeps_trans (chain_only s _) (keeps_widen (post_only _ _))

theorem flapRecorded_chain (s : Live) (bottom tripped : Bool) : (s.flapRecorded bottom tripped).chain = { s.chain with
    flapTop := if bottom then s.chain.flapTop else tripped
    flapBottom := if bottom then tripped else s.chain.flapBottom } := by
  cases bottom <;> rfl

theorem flapRecorded_monitor (s : Live) (bottom tripped : Bool) : (s.flapRecorded bottom tripped).monitor = s.monitor := rfl

theorem flapChange_mended (s : Live) (bottom : Bool) : s.flapChange bottom false = s.flapRecorded bottom false := rfl

theorem flapChange_tripped (s : Live) (bottom : Bool) :
    s.flapChange bottom true = (s.flapRecorded bottom true).flapTrip (if bottom then 1 else 0) := rfl

theorem flapChange_offered (s : Live) (bottom tripped : Bool) :
    (s.flapChange bottom tripped).offered (.flapChange bottom tripped) := by
  have posted : (s.flapRecorded bottom tripped).offered (.flapChange bottom tripped) := post_offered _ _
  cases tripped with
  | false => exact posted
  | true => exact (flapTrip_only _ _).offered posted

section
variable {s : Live} (i : Nat)

theorem flapTrip_moving (moves : s.chain.state = .running ∨ s.chain.state = .inspection .creeping) :
    s.flapTrip i = s.emergency .flap i (.held .flap) := by
  rcases moves with running | creeping
  · simp only [Live.flapTrip, running]
  · simp only [Live.flapTrip, creeping]

theorem flapTrip_stopping {c : StopCause} {ph : StopPhase} (stopping : s.chain.state = .stopping c ph)
    (moves : ph ≠ .braked) : s.flapTrip i = s.emergency .flap i (.held (if c = .fire then .fire else .flap)) := by
  rw [← heldAfter_stopping c ph]
  cases ph with
  | braked => exact absurd rfl moves
  | approach | creeping => simp only [Live.flapTrip, stopping]

theorem flapTrip_stopped {c : StopCause} (braked : s.chain.state = .stopping c .braked) :
    s.flapTrip i = s.dropTo (.held (if c = .fire then .fire else .flap)) := by
  rw [← heldAfter_stopping c .braked]
  simp only [Live.flapTrip, braked]

theorem flapTrip_warning (warning : s.chain.state = .warning) : s.flapTrip i = s.endWarning (.held .flap) := by
  simp only [Live.flapTrip, warning]

theorem flapTrip_stepped (braked : s.chain.state = .inspection .braked) : s.flapTrip i = s.dropTo (.held .flap) := by
  simp only [Live.flapTrip, braked]

theorem flapTrip_still (still : s.chain.state = .inspection .idle ∨ s.chain.state = .parked ∨
    (∃ c, s.chain.state = .held c) ∨ s.chain.state = .fault) : s.flapTrip i = s := by
  rcases still with idle | parked | ⟨c, held⟩ | fault
  · simp only [Live.flapTrip, idle]
  · simp only [Live.flapTrip, parked]
  · simp only [Live.flapTrip, held]
  · simp only [Live.flapTrip, fault]

/-- A flap trip records nothing of the flaps. -/
theorem flapTrip_flaps (s : Live) (i : Nat) : (s.flapTrip i).chain.flapTop = s.chain.flapTop ∧
    (s.flapTrip i).chain.flapBottom = s.chain.flapBottom := by
  unfold Live.flapTrip
  split
  case h_4 | h_7 => rw [dropTo_chain]; exact ⟨rfl, rfl⟩
  case h_5 => rw [endWarning_chain]; exact ⟨rfl, rfl⟩
  case h_1 | h_2 | h_3 | h_6 => rw [emergency_chain]; exact ⟨rfl, rfl⟩
  all_goals exact ⟨rfl, rfl⟩

end

theorem flapChange_flaps (s : Live) (bottom tripped : Bool) :
    (s.flapChange bottom tripped).chain.flapTop = (if bottom then s.chain.flapTop else tripped) ∧
      (s.flapChange bottom tripped).chain.flapBottom = (if bottom then tripped else s.chain.flapBottom) := by
  have recorded := flapRecorded_chain s bottom tripped
  cases tripped with
  | false => rw [flapChange_mended, recorded]; exact ⟨rfl, rfl⟩
  | true =>
    rw [flapChange_tripped, (flapTrip_flaps _ _).1, (flapTrip_flaps _ _).2, recorded]
    exact ⟨rfl, rfl⟩

/-! ## A change of SLOW (R55) -/

/-- SLOW recorded. -/
def Live.slowRecorded (s : Live) (slow : Bool) : Live := { s with chain := { s.chain with slow := slow } }

theorem slowChange_service {s : Live} {slow : Bool}
    (service : s.chain.state = .running ∨ ∃ c, s.chain.state = .stopping c .approach) :
    (s.slowChange slow).chain = (s.slowRecorded slow).chain.turned (if slow then .reduced else .run) := by
  unfold Live.slowChange
  dsimp only
  split
  · rw [driveTo_chain]; rfl
  · rw [driveTo_chain]; rfl
  · next notRunning notApproach =>
    rcases service with running | ⟨c, approach⟩
    · exact absurd running notRunning
    · exact absurd approach (notApproach c)

theorem slowChange_elsewhere {s : Live} {slow : Bool} (notRunning : s.chain.state ≠ .running)
    (notApproach : ∀ c, s.chain.state ≠ .stopping c .approach) : s.slowChange slow = s.slowRecorded slow := by
  unfold Live.slowChange
  dsimp only
  split
  · next running => exact absurd running notRunning
  · next c approach => exact absurd approach (notApproach c)
  · rfl

/-- SLOW moves the drive alone. -/
theorem slowChange_chain (s : Live) (slow : Bool) : (s.slowChange slow).chain.slow = slow ∧
    (s.slowChange slow).chain.state = s.chain.state ∧ (s.slowChange slow).chain.stop = s.chain.stop := by
  by_cases service : s.chain.state = .running ∨ ∃ c, s.chain.state = .stopping c .approach
  · rw [slowChange_service service]
    exact ⟨rfl, rfl, rfl⟩
  · rw [not_or, not_exists] at service
    rw [slowChange_elsewhere service.1 service.2]
    exact ⟨rfl, rfl, rfl⟩

/-- Settles O49. -/
theorem chainMeetsTheField : Obligations.ChainMeetsTheField := by
  intro s only braked leaves warningEnds
  have brakes {t u : Live} {why : EmergencyReason} {i : Nat} {h : HeldCause} (drive : u.chain.drive = s.chain.drive)
      (monitor : u.monitor = s.monitor) (emergency : t = u.emergency why i (.held h)) : braked t why i h := by
    have b := emergency_braked u why i (.held h)
    rw [← emergency] at b
    exact ⟨b.drive, b.state, b.stop, b.deferred, b.sweep, b.step, drive ▸ b.posted, monitor ▸ b.counted⟩
  have drops {t u : Live} {h : HeldCause} (drive : u.chain.drive = s.chain.drive) (dropped : t = u.dropTo (.held h)) :
      leaves t h := by
    have chain := dropTo_chain u (.held h)
    rw [← dropped] at chain
    exact ⟨(congrArg ChainDrive.drive chain).trans drive, congrArg ChainDrive.state chain, congrArg ChainDrive.stop chain,
      congrArg ChainDrive.step chain⟩
  have ends {t u : Live} {h : HeldCause} (drive : u.chain.drive = s.chain.drive) (ended : t = u.endWarning (.held h)) :
      warningEnds t h := by
    have chain := endWarning_chain u (.held h)
    rw [← ended] at chain
    exact ⟨(congrArg ChainDrive.drive chain).trans drive, congrArg ChainDrive.state chain,
      congrArg ChainDrive.warnTimer chain, congrArg ChainDrive.carriedLoops chain, congrArg ChainDrive.gongsOn chain⟩
  refine ⟨?_, fun bottom tripped => ?_, fun slow => ?_⟩
  · intro t r
    refine ⟨onlyParts_widen (fireStop_only s).parts, fun running valid => ?_, fun running notValid => brakes rfl rfl (fireStop_lost running notValid),
      fun c ph stopping => ?_, fun warning => ends rfl (fireStop_warning warning),
      fun creeping => brakes rfl rfl (fireStop_creeping creeping), fun stepped => drops rfl (fireStop_braked stepped),
      fun rests => ?_, fireStop_fault⟩
    · obtain ⟨stop, sweep, deferred, -⟩ := endSweep_placeStop_items s .fire
      rw [show t = s.endSweep.placeStop .fire from fireStop_placed running valid]
      exact ⟨sweep, deferred, stop, endSweep_placeStop_phase s .fire⟩
    · rw [show t = s.enterChain _ from fireStop_stopping stopping, enterChain_chain]
    · have atRest : s.chain.state.atRest = true := by
        rcases rests with idle | parked | ⟨c, held⟩
        · rw [idle]; rfl
        · rw [parked]; rfl
        · rw [held]; rfl
      rw [show t = s.enterChain _ from fireStop_atRest atRest, enterChain_chain]
  · intro t n
    obtain ⟨top, bottom'⟩ := flapChange_flaps s bottom tripped
    have chain := flapRecorded_chain s bottom tripped
    refine ⟨onlyParts_widen (flapChange_only s bottom tripped).parts, flapChange_offered s bottom tripped, top, bottom', ?_, ?_⟩
    · rintro rfl
      rw [show t = s.flapRecorded bottom false from rfl, chain]
      exact ⟨rfl, rfl, rfl⟩
    · rintro rfl
      have state : (s.flapRecorded bottom true).chain.state = s.chain.state := by rw [chain]
      have drive : (s.flapRecorded bottom true).chain.drive = s.chain.drive := by rw [chain]
      rw [← state]
      refine ⟨fun moves => brakes drive rfl (flapTrip_moving n moves),
        fun c ph stopping moves => brakes drive rfl (flapTrip_stopping n stopping moves),
        fun c stopped => drops drive (flapTrip_stopped n stopped), fun warning => ends drive (flapTrip_warning n warning),
        fun stepped => drops drive (flapTrip_stepped n stepped), fun still => ?_⟩
      rw [show t = s.flapRecorded bottom true from flapTrip_still n still]
      exact ⟨rfl, drive⟩
  · intro t
    obtain ⟨recorded, state, stop⟩ := slowChange_chain s slow
    refine ⟨onlyParts_widen (slowChange_only s slow).parts, recorded, state, stop, fun service => ?_, fun notRunning notApproach => ?_⟩
    · rw [show t = s.slowChange slow from rfl, slowChange_service service]
      rfl
    · rw [show t = s.slowRecorded slow from slowChange_elsewhere notRunning notApproach]
      rfl

end Sys2Proof.Machine

/-! # A shutter in ARMED whose night warning runs

What a shutter's outputs are while it is armed, and what of the machine leaves it so (`WarningStands`): the notices, the chain,
and the rules of the other shutters. -/

namespace Sys2Proof.Machine

-- one thread: a proof that waits for the theorems before it would hold a thread of its own
set_option Elab.async false

/-! ## The four outputs of a shutter (R96) -/

/-- RELEASE, BRAKE, WIND and WARN of a shutter as the image holds them. -/
def Live.outputs (s : Live) (k : Nat) : Bool × Bool × Bool × Bool :=
  (s.image.release.read k false, s.image.brake.read k false, s.image.wind.read k false, s.image.warn.read k false)

theorem blankEdge_image (s : Live) (k : Nat) : (s.blankEdge k).image = s.image :=
  (blankEdge_only s k).parts .image (by decide)

theorem outputs_of_image {s t : Live} (h : t.image = s.image) (k : Nat) : t.outputs k = s.outputs k := by
  simp only [Live.outputs, h]

/-- The image with a shutter's four outputs put. -/
theorem writeGear_image {s : Live} {k : Nat} (st : ShutterState) (numbered : s.loop.numbered .shutter k = true) :
    (s.writeGear k st).image = { s.image with
      release := s.image.release.put k (gearOutputs st).1
      brake := s.image.brake.put k (gearOutputs st).2.1
      wind := s.image.wind.put k (gearOutputs st).2.2.1
      warn := s.image.warn.put k (gearOutputs st).2.2.2 } := by
  unfold Live.writeGear
  rw [if_pos numbered]
  dsimp only
  split
  · exact blankEdge_image _ k
  · rfl

theorem writeGear_outputs_same {s : Live} {k : Nat} (st : ShutterState) (hk : k < 32)
    (numbered : s.loop.numbered .shutter k = true) : (s.writeGear k st).outputs k = gearOutputs st := by
  rw [Live.outputs, writeGear_image st numbered]
  simp only [Bank.read_put_same _ _ _ _ hk]

theorem writeGear_outputs_other (s : Live) {k q : Nat} (st : ShutterState) (h : k ≠ q) :
    (s.writeGear k st).outputs q = s.outputs q := by
  by_cases numbered : s.loop.numbered .shutter k = true
  · rw [Live.outputs, writeGear_image st numbered]
    simp only [Bank.read_put_other _ _ _ _ _ h]
    rfl
  · rw [Live.writeGear, if_neg numbered]

theorem changeShutter_outputs_other (s : Live) {k q : Nat} (r : ShutterRecord) (h : k ≠ q) :
    (s.changeShutter k r).outputs q = s.outputs q := by
  unfold Live.changeShutter
  extract_lets old t u
  have written : u.outputs q = s.outputs q := by
    unfold u
    split
    · rfl
    · exact writeGear_outputs_other t r.state h
  exact (outputs_of_image ((postIf_only u _ _).parts .image (by decide)) q).trans written

/-- A change of state writes the outputs it calls for. -/
theorem changeShutter_outputs_same {s : Live} {k : Nat} {r : ShutterRecord} (hk : k < 32)
    (other : (s.shutter k).state ≠ r.state) (numbered : s.loop.numbered .shutter k = true) :
    (s.changeShutter k r).outputs k = gearOutputs r.state := by
  unfold Live.changeShutter
  extract_lets old t u
  have written : u.outputs k = gearOutputs r.state := by
    unfold u
    rw [if_neg other]
    exact writeGear_outputs_same (s := t) r.state hk numbered
  exact (outputs_of_image ((postIf_only u _ _).parts .image (by decide)) k).trans written

/-- A change of state posts SHUTTER STATE. -/
theorem changeShutter_offered {s : Live} {k : Nat} {r : ShutterRecord} (other : (s.shutter k).state ≠ r.state) :
    (s.changeShutter k r).offered (shutterNote k r) := by
  unfold Live.changeShutter
  dsimp only
  rw [Live.postIf, if_pos (by simp [bne_iff_ne, other])]
  exact post_offered _ _

/-! ## A shutter in ARMED whose warning runs (R101, R103) -/

/-- A shutter in ARMED whose warning has not run out, which nothing judges. -/
def Live.warns (s : Live) (k : Nat) : Prop := (s.shutter k).state = .armed ∧ s.warnExpired k = false

theorem warns_of_same {s t : Live} {k : Nat} (shutter : t.shutter k = s.shutter k) (plan : t.plan = s.plan)
    (h : s.warns k) : t.warns k := by
  rwa [Live.warns, Live.warnExpired, Live.warnLimit, shutter, plan]

/-- A shutter whose warning runs keeps its record and its outputs, under the same plan. -/
def WarningStands (k : Nat) (s t : Live) : Prop :=
  s.warns k → t.shutter k = s.shutter k ∧ t.plan = s.plan ∧ t.outputs k = s.outputs k

theorem warningStands_composes (k : Nat) : Composes (WarningStands k) where
  refl _ _ := ⟨rfl, rfl, rfl⟩
  trans h g warns := by
    obtain ⟨shutter, plan, outputs⟩ := h warns
    obtain ⟨shutter', plan', outputs'⟩ := g (warns_of_same shutter plan warns)
    exact ⟨shutter'.trans shutter, plan'.trans plan, outputs'.trans outputs⟩

theorem warningStands_of_same {k : Nat} {s t : Live} (records : t.gear.records = s.gear.records) (plan : t.plan = s.plan)
    (outputs : t.outputs k = s.outputs k) : WarningStands k s t :=
  fun _ => ⟨by simp only [Live.shutter, records], plan, outputs⟩

theorem WarningStands.after {k : Nat} {s t u : Live} (h : WarningStands k t u) (records : t.gear.records = s.gear.records)
    (plan : t.plan = s.plan) (outputs : t.outputs k = s.outputs k) : WarningStands k s u :=
  (warningStands_composes k).trans (warningStands_of_same records plan outputs) h

theorem Keeps.warningStands {ps : List Part} {s t : Live} (h : Keeps ps s t) (k : Nat) (hg : .gear ∉ ps := by decide)
    (hi : .image ∉ ps := by decide) (hs : .store ∉ ps := by decide) : WarningStands k s t :=
  warningStands_of_same (congrArg ShutterGear.records (h.parts .gear hg)) (plan_of_store (h.parts .store hs))
    (outputs_of_image (h.parts .image hi) k)

theorem changeShutter_warningStands (s : Live) {k j : Nat} (h : j ≠ k) (r : ShutterRecord) :
    WarningStands k s (s.changeShutter j r) := fun _ =>
  ⟨shutter_changeShutter_other s r h, (changeShutter_only s j r).planStands.1, changeShutter_outputs_other s r h⟩

/-- The other shutters leave it alone. -/
theorem warningStands_shutterRule {k j : Nat} (h : j ≠ k) : ShutterRule j (WarningStands k) where
  record s r _ := ⟨shutter_withShutter_other s r h, rfl, rfl⟩
  change s r := changeShutter_warningStands s h r
  noted g := g.warningStands k
  trans := (warningStands_composes k).trans

theorem judge_warningStands (s : Live) (k j : Nat) : WarningStands k s (s.judge j) := by
  by_cases own : j = k
  · subst own
    rintro ⟨armed, running⟩
    rw [Live.judge, if_neg (by simp [running])]
    exact ⟨rfl, rfl, rfl⟩
  · exact (warningStands_shutterRule own).judge s

theorem takeChainState_warningStands (s : Live) (k : Nat) : WarningStands k s s.takeChainState :=
  ChainRule.either ((warningStands_composes k).refl s)
    (((warningStands_composes k).foldl _
      (fun t j => ChainRule.either (judge_warningStands t k j) ((warningStands_composes k).refl t)) _ _).after rfl rfl rfl)

theorem setChain_warningStands (s : Live) (st : ChainState) (k : Nat) : WarningStands k s (s.setChain st) :=
  ChainRule.either ((warningStands_composes k).refl s) (warningStands_of_same rfl rfl rfl)

theorem enterChain_warningStands (s : Live) (st : ChainState) (k : Nat) : WarningStands k s (s.enterChain st) :=
  (warningStands_composes k).trans (setChain_warningStands s st k) (takeChainState_warningStands _ k)

theorem emergency_warningStands (s : Live) (why : EmergencyReason) (i : Nat) (st : ChainState) (k : Nat) :
    WarningStands k s (s.emergency why i st) := by
  have composes := warningStands_composes k
  unfold Live.emergency
  extract_lets left t c u
  have ended : WarningStands k s t := ChainRule.either (warningStands_of_same rfl rfl rfl) (composes.refl s)
  have cleared : WarningStands k s u := composes.trans ended (warningStands_of_same rfl rfl rfl)
  have braked : WarningStands k s (u.driveTo .brake) :=
    composes.trans cleared (ChainRule.either (composes.refl u) (warningStands_of_same rfl rfl rfl))
  exact composes.trans (composes.trans (composes.trans (composes.trans braked (setChain_warningStands _ st k))
    ((raiseWear_only _ _).warningStands k)) ((post_only _ _).warningStands k)) (takeChainState_warningStands _ k)

theorem sillLeavesOpen_warningStands (s : Live) (j : Nat) (b : Bool) (k : Nat) :
    WarningStands k s (s.sillLeavesOpen j b) := by
  unfold Live.sillLeavesOpen
  split
  case h_5 => exact (enterChain_warningStands _ _ k).after rfl rfl rfl
  case h_1 | h_2 | h_3 | h_6 => exact emergency_warningStands s _ _ _ k
  all_goals exact (warningStands_composes k).refl s

/-! ## Arming (R101) -/

theorem moveShutter_leaves {s : Live} {k : Nat} {r : ShutterRecord} (b : Bool) (sill : s.isSill k = true)
    (opened : (s.shutter k).state = .opened) (leaves : r.state ≠ .opened) :
    s.moveShutter k r b = (s.changeShutter k r).sillLeavesOpen k b := by
  unfold Live.moveShutter
  exact if_pos (by simp [sill, opened, leaves])

theorem moveShutter_stays {s : Live} {k : Nat} (r : ShutterRecord) (b : Bool)
    (stays : s.isSill k = false ∨ (s.shutter k).state ≠ .opened) : s.moveShutter k r b = s.changeShutter k r := by
  unfold Live.moveShutter
  refine if_neg ?_
  rcases stays with plain | shut
  · simp [plain]
  · simp [shut]

/-- The warning a close request of a cause begins has a length (R101). -/
def Live.warnsFor (s : Live) (c : CloseCause) : Prop :=
  0 < if c = .fire then s.plan.geometry.fireWarning else s.plan.geometry.nightWarning

section
variable {s : Live} {k : Nat} {c : CloseCause} (hk : k < 32) (lasts : s.warnsFor c) (other : (s.shutter k).state ≠ .armed)
include hk lasts

theorem changeShutter_warns : (s.changeShutter k (armedRecord c)).warns k := by
  have same := shutter_changeShutter_same s (armedRecord c) hk
  have plan : (s.changeShutter k (armedRecord c)).plan = s.plan := (changeShutter_only s k _).planStands.1
  refine ⟨by rw [same]; rfl, ?_⟩
  rw [Live.warnExpired, Live.warnLimit, same, plan]
  unfold Live.warnsFor at lasts
  cases c <;> simpa [armedRecord, timerAt, Nat.pos_iff_ne_zero] using lasts

theorem moveShutter_armed (b : Bool) : (s.moveShutter k (armedRecord c) b).shutter k = armedRecord c ∧
    (s.moveShutter k (armedRecord c) b).warns k ∧
    (s.moveShutter k (armedRecord c) b).outputs k = (s.changeShutter k (armedRecord c)).outputs k := by
  have warns := changeShutter_warns hk lasts
  have stands : WarningStands k (s.changeShutter k (armedRecord c)) (s.moveShutter k (armedRecord c) b) :=
    ChainRule.either (sillLeavesOpen_warningStands _ k b k) ((warningStands_composes k).refl _)
  obtain ⟨shutter, plan, outputs⟩ := stands warns
  exact ⟨shutter.trans (shutter_changeShutter_same s _ hk), warns_of_same shutter plan warns, outputs⟩

/-- Where its warning lasts, arming judges nothing. -/
theorem arm_eq : s.arm k c = s.moveShutter k (armedRecord c) (c == .fire) := by
  unfold Live.arm
  dsimp only
  rw [(moveShutter_armed hk lasts (c == .fire)).2.1.2]
  rfl

theorem arm_shutter : (s.arm k c).shutter k = armedRecord c := by
  rw [arm_eq hk lasts]
  exact (moveShutter_armed hk lasts _).1

theorem arm_warns : (s.arm k c).warns k := by
  rw [arm_eq hk lasts]
  exact (moveShutter_armed hk lasts _).2.1

include other

theorem arm_outputs (numbered : s.loop.numbered .shutter k = true) : (s.arm k c).outputs k = gearOutputs .armed := by
  rw [arm_eq hk lasts, (moveShutter_armed hk lasts _).2.2]
  exact changeShutter_outputs_same hk other numbered

theorem arm_offered : (s.arm k c).offered (shutterNote k (armedRecord c)) := by
  rw [arm_eq hk lasts]
  have posted := changeShutter_offered (k := k) (r := armedRecord c) other
  unfold Live.moveShutter
  dsimp only
  split
  · exact (sillLeavesOpen_only _ _ _).offered posted
  · exact posted

end

/-- A shutter out of OPEN is armed without the chain's knowing (R66). -/
theorem arm_shut {s : Live} {k : Nat} {c : CloseCause} (hk : k < 32) (lasts : s.warnsFor c)
    (shut : (s.shutter k).state ≠ .opened) : s.arm k c = s.changeShutter k (armedRecord c) := by
  rw [arm_eq hk lasts, moveShutter_stays _ _ (.inr shut)]

end Sys2Proof.Machine

/-! # O38: SHUTTER LOWER -/

namespace Sys2Proof.Machine

-- one thread: a proof that waits for the theorems before it would hold a thread of its own
set_option Elab.async false

/-! ## A sill shutter leaves OPEN (R66) -/

section
variable {s : Live} (k : Nat) (b : Bool)

theorem sillLeavesOpen_moving (moves : s.chain.state = .running ∨ s.chain.state = .inspection .creeping) :
    s.sillLeavesOpen k b = s.emergency .shutter k (.held .hostEmergency) := by
  rcases moves with running | creeping
  · simp only [Live.sillLeavesOpen, running]
  · simp only [Live.sillLeavesOpen, creeping]

theorem sillLeavesOpen_stopping {c : StopCause} {ph : StopPhase} (stopping : s.chain.state = .stopping c ph)
    (moves : ph ≠ .braked) :
    s.sillLeavesOpen k b = s.emergency .shutter k (.held (if c = .fire then .fire else .hostEmergency)) := by
  rw [← heldAfter_stopping c ph]
  cases ph with
  | braked => exact absurd rfl moves
  | approach | creeping => simp only [Live.sillLeavesOpen, stopping]

theorem sillLeavesOpen_warning (warning : s.chain.state = .warning) :
    s.sillLeavesOpen k b = s.endWarning (.held (if b then .fire else .hostEmergency)) := by
  simp only [Live.sillLeavesOpen, warning]

theorem sillLeavesOpen_stands (disengaged : s.chain.state.engaged = false) : s.sillLeavesOpen k b = s := by
  unfold Live.sillLeavesOpen
  split
  case h_1 state | h_2 state | h_3 state | h_5 state | h_6 state => rw [state] at disengaged; cases disengaged
  all_goals rfl

end

/-! ## SHUTTER LOWER (R99 to R101) -/

section
variable {u : Live} {k : Nat}

/-- A close request by HOST arms a shutter that stands still, or is being raised (R100). -/
theorem shutterLower_arms (free : u.limitsJammed k = false)
    (still : (u.shutter k).state = .opened ∨ (u.shutter k).state = .unplaced ∨ (u.shutter k).state = .halted ∨
      (u.shutter k).state = .raising ∨ (u.shutter k).state = .jammed) :
    shutterLower k u = answerWith (u.arm k .host) .done (.shutterState ((u.arm k .host).shutter k).state) := by
  have arms : u.closeByState k .host = u.arm k .host := by
    rcases still with state | state | state | state | state <;> simp only [Live.closeByState, state]
  rw [shutterLower, free, ← arms]
  rfl

/-- A shutter closing already, or CLOSED, is left as it stands (R100). -/
theorem shutterLower_closing (free : u.limitsJammed k = false)
    (closing : (u.shutter k).state = .armed ∨ (u.shutter k).state = .descending ∨ (u.shutter k).state = .lifting ∨
      (u.shutter k).state = .paused ∨ (u.shutter k).state = .closed) :
    shutterLower k u = answerWith u .done (.shutterState (u.shutter k).state) := by
  have stands : u.closeByState k .host = u := by
    rcases closing with state | state | state | state | state <;> simp only [Live.closeByState, state]
    all_goals exact if_neg nofun
  have lowered : shutterLower k u =
      answerWith (u.closeByState k .host) .done (.shutterState ((u.closeByState k .host).shutter k).state) := by
    rw [shutterLower, free]
    rfl
  rw [lowered, stands]

theorem limitsJammed_eq_false (h : (u.shutter k).state ≠ .jammed ∨ u.bothLimits k = false) : u.limitsJammed k = false := by
  rcases h with other | free
  · simp [Live.limitsJammed, other]
  · simp [Live.limitsJammed, free]

theorem onShutter_present {h : Live → Handled} (hk : k < 32) (present : (u.plan.shutter k).present = true) :
    onShutter k h u = h u := by
  rw [onShutter, if_neg (Nat.not_le.mpr hk), if_pos present]

theorem onShutter_absent {h : Live → Handled} (hk : k < 32) (absent : (u.plan.shutter k).present = false) :
    onShutter k h u = answer u .noSuch := by
  rw [onShutter, if_neg (Nat.not_le.mpr hk), if_neg (by simp [absent])]

theorem onShutter_beyond {h : Live → Handled} (hk : 32 ≤ k) : onShutter k h u = answer u .badValue := if_pos hk

theorem sillOf_present (present : (u.plan.shutter k).present = true) : u.plan.sillOf k = (u.plan.shutter k).sill :=
  if_pos present

end

/-- What the leaving of OPEN by an armed shutter makes of the chain, seen from the shutter's sill (R66). -/
theorem arm_chain {s : Live} {k : Nat} {c : CloseCause} (hk : k < 32) (lasts : s.warnsFor c)
    (opened : (s.shutter k).state = .opened) :
    (s.isSill k = true → ∃ v : Live, v.chain = s.chain ∧ (s.arm k c).chain = (v.sillLeavesOpen k (c == .fire)).chain) ∧
    (s.isSill k = false → (s.arm k c).chain = s.chain) := by
  have chain : (s.changeShutter k (armedRecord c)).chain = s.chain := (changeShutter_only s k _).parts .chain (by decide)
  rw [arm_eq hk lasts]
  refine ⟨fun sill => ⟨_, chain, ?_⟩, fun plain => ?_⟩
  · rw [moveShutter_leaves _ sill opened (by simp [armedRecord])]
  · rw [moveShutter_stays _ _ (.inl plain), chain]

theorem arm_only (s : Live) (k : Nat) (c : CloseCause) : Keeps chainParts s (s.arm k c) :=
  keeps_ite (keeps_trans (moveShutter_only s k _ _) (keeps_widen (judge_only _ k))) (moveShutter_only s k _ _)

/-- Settles O38. -/
theorem shutterLowerEffect : Obligations.ShutterLowerEffect := by
  intro s k taken
  have unchanged {r : Result} {f : Fields}
      (rule : onShutter k (shutterLower k) (s.begun .c) = (s.begun .c, some (r, f))) :
      exec (.shutterLower .c (.fits k)) s = .next ((s.loadClosed .c).served .c .shutterLower r f) :=
    breakingRequest_unchanged (h := fun k => onShutter k (shutterLower k)) (a := k) taken nofun rule
  refine ⟨fun hk present => ⟨fun opened night => ?_, fun still night => ?_, fun closing => ?_, fun closed => ?_,
    fun jammed => ?_⟩, fun hk absent => unchanged (onShutter_absent (u := s.begun .c) hk absent),
    fun hk => unchanged (onShutter_beyond hk)⟩
  · have lasts : (s.begun .c).warnsFor .host := night
    have shutter := arm_shutter (s := s.begun .c) hk lasts
    have rule : onShutter k (shutterLower k) (s.begun .c) =
        answerWith ((s.begun .c).arm k .host) .done (.shutterState .armed) := by
      rw [onShutter_present (u := s.begun .c) hk present, shutterLower_arms
        (limitsJammed_eq_false (u := s.begun .c) (.inl (by rw [show ((s.begun .c).shutter k).state = _ from opened]; nofun)))
        (.inl opened), shutter]
      rfl
    obtain ⟨t, ran, delivered, replied, changes⟩ := breakingRequest_acts (h := fun k => onShutter k (shutterLower k)) (a := k)
      taken nofun rule (arm_only _ k .host) (ps := [.gear, .image, .loop, .monitor, .chain, .store, .portC, .portF])
    have other : ((s.begun .c).shutter k).state ≠ .armed := by
      rw [show ((s.begun .c).shutter k).state = _ from opened]
      nofun
    obtain ⟨leaves, plain⟩ := arm_chain (s := s.begun .c) hk lasts opened
    have sillOf : s.live.plan.sillOf k = (s.live.plan.shutter k).sill := sillOf_present present
    refine ⟨t, ran, replied, ?_, delivered.offered (arm_offered hk lasts other), fun numbered => ?_, fun sill => ?_,
      fun none_ => ?_, changes⟩
    · rw [shutter_of_gear (delivered.parts .gear (by decide)), shutter]
    · have outputs : t.live.outputs k = gearOutputs .armed :=
        (outputs_of_image (delivered.parts .image (by decide)) k).trans (arm_outputs hk lasts other numbered)
      simp only [Live.outputs, gearOutputs, Prod.mk.injEq] at outputs
      obtain ⟨release, brake, -, warn⟩ := outputs
      exact ⟨warn, release, brake⟩
    · have isSill : (s.begun .c).isSill k = true := (congrArg Option.isSome sillOf).trans sill
      obtain ⟨v, same, chain⟩ := leaves isSill
      rw [delivered.chain, chain]
      refine ⟨fun moves => ?_, fun c ph stopping moves => ?_, fun warning => ?_, fun disengaged => ?_⟩
      · rw [sillLeavesOpen_moving k _ (by rw [same]; exact moves), emergency_chain]
        exact ⟨rfl, rfl⟩
      · rw [sillLeavesOpen_stopping k _ (by rw [same]; exact stopping) moves, emergency_chain]
        exact ⟨rfl, rfl⟩
      · rw [sillLeavesOpen_warning k _ (by rw [same]; exact warning), endWarning_chain]
        exact ⟨show v.chain.drive = _ by rw [same]; rfl, rfl, rfl⟩
      · rw [sillLeavesOpen_stands k _ (by rw [same]; exact disengaged)]
        exact same
    · have isSill : (s.begun .c).isSill k = false := by
        rw [show (s.begun .c).isSill k = (s.live.plan.sillOf k).isSome from rfl, sillOf, none_]
        rfl
      rw [delivered.chain, plain isSill]
      rfl
  · have lasts : (s.begun .c).warnsFor .host := night
    have shutter := arm_shutter (s := s.begun .c) hk lasts
    have shut : ((s.begun .c).shutter k).state ≠ .opened ∧ ((s.begun .c).shutter k).state ≠ .armed := by
      rw [show (s.begun .c).shutter k = s.live.shutter k from rfl]
      rcases still with state | state | state | ⟨state, -⟩ <;> rw [state] <;> exact ⟨nofun, nofun⟩
    have free : (s.begun .c).limitsJammed k = false := by
      refine limitsJammed_eq_false ?_
      rcases still with state | state | state | ⟨-, free⟩
      case inr.inr.inr => exact .inr free
      all_goals exact .inl (by rw [show ((s.begun .c).shutter k).state = _ from state]; nofun)
    have rule : onShutter k (shutterLower k) (s.begun .c) =
        answerWith ((s.begun .c).changeShutter k (armedRecord .host)) .done (.shutterState .armed) := by
      rw [onShutter_present (u := s.begun .c) hk present, shutterLower_arms free
        (.inr (still.imp_right fun x => x.imp_right fun x => x.imp_right And.left)), shutter, arm_shut hk lasts shut.1]
      rfl
    obtain ⟨t, ran, delivered, replied, changes⟩ := breakingRequest_acts (h := fun k => onShutter k (shutterLower k)) (a := k)
      taken nofun rule (changeShutter_only _ k _) (ps := [.gear, .image, .loop, .store, .portC, .portF])
    have gear := shutter_of_gear (delivered.parts .gear (by decide))
    refine ⟨t, ran, replied, ?_, delivered.offered (changeShutter_offered shut.2), fun j hj => ?_, changes⟩
    · rw [gear, shutter_changeShutter_same _ _ hk]
    · rw [gear, shutter_changeShutter_other _ _ hj.symm]
      rfl
  · have free : (s.begun .c).limitsJammed k = false := by
      refine limitsJammed_eq_false (.inl ?_)
      rw [show (s.begun .c).shutter k = s.live.shutter k from rfl]
      rcases closing with state | state | state | state <;> rw [state] <;> nofun
    refine unchanged ((onShutter_present (u := s.begun .c) hk present).trans (shutterLower_closing free ?_))
    exact closing.imp_right fun x => x.imp_right fun x => x.imp_right .inl
  · have free : (s.begun .c).limitsJammed k = false :=
      limitsJammed_eq_false (.inl (by rw [show ((s.begun .c).shutter k).state = _ from closed]; nofun))
    refine unchanged ((onShutter_present (u := s.begun .c) hk present).trans ?_)
    rw [shutterLower_closing free (.inr (.inr (.inr (.inr closed)))), show ((s.begun .c).shutter k).state = _ from closed]
    rfl
  · have rule : onShutter k (shutterLower k) (s.begun .c) = busyFree (s.begun .c) .limits := by
      rw [onShutter_present (u := s.begun .c) hk present, shutterLower, show (s.begun .c).limitsJammed k = true from jammed]
      rfl
    obtain ⟨t, ran, -, replied, changes⟩ := breakingRequest_acts (h := fun k => onShutter k (shutterLower k)) (a := k)
      taken nofun rule (free_only _ _) (ps := [.free, .store, .portC])
    exact ⟨t, _, ran, replied, changes⟩

end Sys2Proof.Machine

/-! # The closing programme: its announcements and the steps that are due -/

namespace Sys2Proof.Machine

-- one thread: a proof that waits for the theorems before it would hold a thread of its own
set_option Elab.async false

/-! ## ANNOUNCE: entering the speak queue (R157, R173) -/

theorem clampNumber_minutesTo (close now : Nat) : clampNumber (minutesTo close now) =
    if close ≤ now then none else some (min 60 ((close - now + 59) / 60)) := by
  unfold minutesTo
  split
  · rfl
  · exact congrArg some (Nat.min_comm _ _)

theorem grants_busy {s : Live} (a : s.idle .a = false) (b : s.idle .b = false) : s.grants = s := by
  unfold Live.grants
  cases s.speech.queue.length with
  | zero => rfl
  | succ n => exact if_neg (by simp [a, b])

section
variable {s : Live} {r : SpeakRequest}

theorem freeTag_free {t : Nat} (free : s.tagHeld t = false) (n : Nat) : s.freeTag n t = t := by
  cases n with
  | zero => rfl
  | succ n => exact if_neg (by simp [free])

theorem enqueue_closing (free : s.tagHeld s.speech.nextTag = false) (closing : r.cls = .closing) : s.enqueue r =
    ({ s with speech := { s.speech with
      queue := s.speech.queue.filter (fun x => x.cls == .closing) ++
        [{ r with tag := s.speech.nextTag, arrival := s.seconds }] ++ s.speech.queue.filter fun x => x.cls != .closing
      nextTag := tagAfter s.speech.nextTag } }, s.speech.nextTag) := by
  unfold Live.enqueue placeRequest
  rw [freeTag_free free]
  simp only [closing, if_true]

/-- With room in the queue and both players at work, a request waits in the queue. -/
theorem enterQueue_waits (room : s.speech.queue.length < 8) (a : s.idle .a = false) (b : s.idle .b = false) :
    s.enterQueue r = ((s.enqueue r).1, some (s.enqueue r).2) := by
  have waits : (s.enqueue r).1.grants = (s.enqueue r).1 := grants_busy a b
  exact (if_pos room).trans (congrArg (fun u => (u, _)) waits)

theorem enterQueue_full (full : 8 ≤ s.speech.queue.length) (closing : r.cls = .closing)
    (general : ∀ x ∈ s.speech.queue, x.cls ≠ .general) :
    s.enterQueue r = (s.post (.speakDropped 0 .closing r.origin .full), none) := by
  have none_ : s.speech.queue.reverse.find? (fun x => x.cls == .general) = none := by
    simpa [List.find?_eq_none] using general
  rw [Live.enterQueue, if_neg (show ¬_ < Config.speakQueueSize from Nat.not_lt.mpr full), if_pos closing, none_, closing]

/-- The last GENERAL of a full queue gives its place to a CLOSING (R157). -/
theorem enterQueue_displaces {last : SpeakRequest} (full : 8 ≤ s.speech.queue.length) (closing : r.cls = .closing)
    (general : s.speech.queue.reverse.find? (fun x => x.cls == .general) = some last) :
    (s.enterQueue r).1.offered (.speakDropped last.tag .general last.origin .displaced) := by
  have cls : last.cls = .general := by simpa using List.find?_some general
  rw [Live.enterQueue, if_neg (show ¬_ < Config.speakQueueSize from Nat.not_lt.mpr full), if_pos closing, general]
  dsimp only
  rw [cls]
  exact (keeps_trans (enqueue_only _ r) (grants_only _)).offered (post_offered _ _)

end

/-! ## What a step of the programme leaves alone -/

/-- What the step of a kind touches (R173 to R177). -/
abbrev stepParts : List Part := [.gear, .image, .loop, .monitor, .chain, .calls, .circuits, .speech, .portC, .portF]

theorem bell_only (s : Live) (i : Nat) (e : StepEntry) : Keeps callParts s (s.bell i e).1 := by
  have each : ∀ (cs : List Nat) (a : Live × Nat), Keeps callParts a.1
      (cs.foldl (fun a c => ((a.1.programmeCall i c).1, if (a.1.programmeCall i c).2 then a.2 + 1 else a.2)) a).1 := by
    intro cs
    induction cs with
    | nil => exact fun a => keeps_refl _ _
    | cons c rest ih => exact fun a => keeps_trans (programmeCall_only a.1 i c) (ih ((a.1.programmeCall i c).1, _))
  exact each _ (s, 0)

theorem nightClose_only (s : Live) (e : StepEntry) : Keeps chainParts s (s.nightClose e).1 :=
  keeps_foldl _ (fun t k => closeRequest_only t k _) _ s

theorem executeStep_parts (s : Live) (i close : Nat) : Keeps stepParts s (s.executeStep i close).1 := by
  unfold Live.executeStep
  dsimp only
  split
  · exact keeps_widen (enterQueue_only s _)
  · exact keeps_widen (bell_only s i _)
  · exact keeps_widen (requestSweep_only s)
  · exact keeps_widen (requestPark_only s)
  · exact keeps_widen (nightClose_only s _)
  · exact keeps_foldl _ (fun t c => keeps_widen (setMask_only t c _)) _ s

/-- The chain alone leads a step to be skipped as it is executed (R175). -/
theorem executeStep_taken (s : Live) (i close : Nat) : (∃ r, (s.executeStep i close).2 = .executed r) ∨
    ((s.plan.step i).kind = .sweep ∨ (s.plan.step i).kind = .park) ∧ ∃ r, (s.executeStep i close).2 = .skipped r := by
  have answered (a : Live × Bool) : (∃ r, (chainAnswer a).2 = .executed r) ∨ ∃ r, (chainAnswer a).2 = .skipped r := by
    unfold chainAnswer
    cases a.2 with
    | true => exact .inl ⟨_, rfl⟩
    | false => exact .inr ⟨_, rfl⟩
  unfold Live.executeStep
  dsimp only
  cases (s.plan.step i).kind with
  | announce | bell | nightClose | mask => exact .inl ⟨_, rfl⟩
  | sweep => exact (answered _).imp_right fun skipped => ⟨.inl rfl, skipped⟩
  | park => exact (answered _).imp_right fun skipped => ⟨.inr rfl, skipped⟩

/-! ## Taking the steps that are due (R172, R179) -/

/-- A step that the catch-up skips (R179). -/
def Live.lateStep (s : Live) (i close : Nat) : Prop :=
  s.dueSecond i close < s.seconds ∧ ((s.plan.step i).kind = .announce ∨ (s.plan.step i).kind = .bell)

theorem skippedLate_iff (k : StepKind) : k.skippedLate = true ↔ k = .announce ∨ k = .bell := by
  cases k <;> simp [StepKind.skippedLate]

theorem takeStep_late {s : Live} {i close : Nat} (late : s.lateStep i close) :
    s.takeStep i close true = (s, .skipped .late) :=
  if_pos (by simpa [skippedLate_iff, Live.lateStep] using late)

theorem takeStep_executes {s : Live} {i close : Nat} (prompt : ¬s.lateStep i close) :
    s.takeStep i close true = s.executeStep i close :=
  if_neg (by simpa [skippedLate_iff, Live.lateStep] using prompt)

theorem takeStep_parts (s : Live) (i close : Nat) (b : Bool) : Keeps stepParts s (s.takeStep i close b).1 := by
  unfold Live.takeStep
  split
  · exact keeps_refl _ _
  · exact executeStep_parts s i close

/-- The mark a step takes by what became of it (R172). -/
def Taken.mark : Taken → Mark
  | .executed _ => .executed
  | .skipped _ => .skipped

/-- The notice of what became of a step (R172). -/
def Taken.note (i : Nat) (k : StepKind) : Taken → Note
  | .executed r => .programmeStep i k r
  | .skipped r => .stepSkipped i k r

/-- The programme with a step marked and the pointer moved on. -/
def Closing.marked (c : Closing) (i : Nat) (m : Mark) : Closing :=
  { c with
    marks := c.marks.put i (some m)
    pointer := ({ c with marks := c.marks.put i (some m) } : Closing).nextPending }

theorem markStep_eq (s : Live) (i : Nat) (t : Taken) :
    s.markStep i t = (s.withClosing (s.closing.marked i t.mark)).post (t.note i (s.plan.step i).kind) := by
  cases t <;> rfl

theorem nextPending_mark {c : Closing} {i : Nat} (next : c.nextPending = some i) : c.mark i = some .pending := by
  simpa using List.find?_some next

/-- A mark that is no longer PENDING stands, and the pointer does not come back to its step. -/
theorem takeDue_mark {i : Nat} {b : Bool} (fuel : Nat) {s : Live} (taken : s.closing.mark i ≠ some .pending)
    (past : s.closing.pointer ≠ some i) : (s.takeDue b fuel).closing.mark i = s.closing.mark i := by
  induction fuel generalizing s with
  | zero => rfl
  | succ n ih =>
    unfold Live.takeDue
    split
    · next close j _ _ pointer =>
      split
      · have other : j ≠ i := by rintro rfl; exact past pointer
        have closing : (s.takeStep j close b).1.closing = s.closing := (takeStep_parts s j close b).parts .closing (by decide)
        have marked : ((s.takeStep j close b).1.markStep j (s.takeStep j close b).2).closing =
            s.closing.marked j (s.takeStep j close b).2.mark := by
          rw [markStep_eq, Live.post_closing]
          exact congrArg (Closing.marked · j _) closing
        have mark : (s.closing.marked j (s.takeStep j close b).2.mark).mark i = s.closing.mark i :=
          Bank.read_put_other _ _ _ _ _ other
        dsimp only
        rw [ih, marked, mark]
        · rwa [marked, mark]
        · rw [marked]
          exact fun back => taken (mark ▸ nextPending_mark back)
      · rfl
    · rfl
    · rfl

/-- What the catch-up makes of a step at the pointer that is due (R179). -/
structure CaughtUp (u : Live) (i close : Nat) (t : Live) : Prop where
  late : u.lateStep i close →
    t.closing.mark i = some .skipped ∧ t.offered (.stepSkipped i (u.plan.step i).kind .late)
  prompt : ¬u.lateStep i close →
    (t.closing.mark i = some .executed ∧ ∃ r, t.offered (.programmeStep i (u.plan.step i).kind r)) ∨
    (t.closing.mark i = some .skipped ∧ ((u.plan.step i).kind = .sweep ∨ (u.plan.step i).kind = .park) ∧
      ∃ r, t.offered (.stepSkipped i (u.plan.step i).kind r))

section
variable {s : Live} {i close : Nat} (hi : i < 24) (running : s.closing.state = .running)
  (instant : s.closing.closeInstant = some close) (pointer : s.closing.pointer = some i)
  (due : s.dueSecond i close ≤ s.seconds)
include hi running instant pointer due

theorem takeDue_first (b : Bool) (fuel : Nat) :
    (s.takeDue b (fuel + 1)).closing.mark i = some (s.takeStep i close b).2.mark ∧
      (s.takeDue b (fuel + 1)).offered ((s.takeStep i close b).2.note i (s.plan.step i).kind) := by
  have step : s.takeDue b (fuel + 1) =
      ((s.takeStep i close b).1.markStep i (s.takeStep i close b).2).takeDue b fuel := by
    rw [Live.takeDue, running, instant, pointer]
    exact if_pos due
  have plan : (s.takeStep i close b).1.plan = s.plan :=
    plan_of_store ((takeStep_parts s i close b).parts .store (by decide))
  have mark : ((s.takeStep i close b).1.markStep i (s.takeStep i close b).2).closing.mark i =
      some (s.takeStep i close b).2.mark := by
    rw [markStep_eq]
    exact Bank.read_put_same _ _ _ _ hi
  have notPending : (some (s.takeStep i close b).2.mark : Option Mark) ≠ some .pending := by
    cases (s.takeStep i close b).2 <;> simp [Taken.mark]
  rw [step]
  refine ⟨?_, (takeDue_only b fuel _).offered ?_⟩
  · rw [takeDue_mark fuel (by rwa [mark]), mark]
    intro back
    refine notPending (mark.symm.trans ?_)
    rw [markStep_eq] at back ⊢
    exact nextPending_mark back
  · rw [markStep_eq, plan]
    exact post_offered _ _

theorem takeDue_caughtUp (fuel : Nat) : CaughtUp s i close (s.takeDue true (fuel + 1)) := by
  have ⟨mark, note⟩ := takeDue_first hi running instant pointer due true fuel
  refine ⟨fun late => ?_, fun prompt => ?_⟩
  · rw [takeStep_late late] at mark note
    exact ⟨mark, note⟩
  · rw [takeStep_executes prompt] at mark note
    rcases executeStep_taken s i close with ⟨r, executed⟩ | ⟨kind, r, skipped⟩
    · rw [executed] at mark note
      exact .inl ⟨mark, r, note⟩
    · rw [skipped] at mark note
      exact .inr ⟨mark, kind, r, note⟩

end

end Sys2Proof.Machine

/-! # The closing programme suspended by fire -/

namespace Sys2Proof.Machine

-- one thread: a proof that waits for the theorems before it would hold a thread of its own
set_option Elab.async false

/-! ## The suspension by fire (R132, R158, R182) -/

theorem withClosing_parts (s : Live) (c : Closing) : Keeps [.closing] s (s.withClosing c) := by
  exact keeps_of (by intro q hq; cases q <;> simp_all [samePart]) rfl rfl

/-- The key of a programme call (R132). -/
def isProgrammeKey : CallKey → Bool
  | .programme _ _ => true
  | _ => false

theorem isProgramme_eq (r : CallRecord) : isProgramme r = isProgrammeKey r.key := by
  unfold isProgramme isProgrammeKey
  cases r.key <;> rfl

/-- The programme calls of the list have their keys among `keys`. -/
def Live.programmeWithin (s : Live) (keys : List CallKey) : Prop :=
  ∀ x ∈ s.calls, isProgrammeKey x.key = true → x.key ∈ keys

theorem programmeWithin_subsides {s t : Live} {keys : List CallKey} (h : Subsides s t) (within : s.programmeWithin keys) :
    t.programmeWithin keys := by
  intro x hx programme
  rcases h.calls x hx with ⟨c, fire⟩ | ⟨y, hy, same⟩
  · rw [fire] at programme
    cases programme
  · rw [← same] at programme ⊢
    exact within y hy programme

theorem removeCall_programmeWithin {s : Live} {r : CallRecord} {keys : List CallKey} (why : RemoveReason)
    (within : s.programmeWithin (r.key :: keys)) : (s.removeCall r why).programmeWithin keys := by
  have dropped : Live.programmeWithin { s with calls := dropKey r.key s.calls } keys := by
    intro x hx programme
    obtain ⟨listed, other⟩ := List.mem_filter.mp hx
    exact (List.mem_cons.mp (within x listed programme)).resolve_left (by simpa [hasKey] using other)
  exact programmeWithin_subsides (subsides_composes.trans (stopIfRinging_subsides _ r.circuit r.key)
    (Subsides.next (indicatorOff_subsides _ r.key) (post_only _ _))) dropped

/-- The calls withdrawn are those of the programme (R132). -/
theorem withdrawCalls_none (s : Live) : ∀ r ∈ s.withdrawCalls.calls, isProgramme r = false := by
  have all : ∀ (l : List CallRecord) (t : Live), t.programmeWithin (l.map CallRecord.key) →
      (l.foldl (fun s r => match s.call r.key with
        | some x => s.removeCall x .programme
        | none => s) t).programmeWithin [] := by
    intro l
    induction l with
    | nil => exact fun t within => within
    | cons r rest ih =>
      intro t within
      refine ih _ ?_
      dsimp only
      split
      · next x found =>
        have key : x.key = r.key := by simpa [hasKey] using List.find?_some found
        exact removeCall_programmeWithin _ (by rw [key]; exact within)
      · next absent =>
        intro x hx programme
        refine (List.mem_cons.mp (within x hx programme)).resolve_left fun same => ?_
        simpa [hasKey, same] using List.find?_eq_none.mp absent x hx
  have within : s.programmeWithin ((s.calls.filter isProgramme).map CallRecord.key) := fun x hx programme =>
    List.mem_map_of_mem (List.mem_filter.mpr ⟨hx, by rwa [isProgramme_eq]⟩)
  intro r hr
  rw [isProgramme_eq]
  exact Bool.eq_false_iff.mpr fun programme => List.not_mem_nil (all _ s within r hr programme)

/-- A grant pass takes requests out of the queue and puts none in (R161). -/
theorem grants_queue (s : Live) : ∀ r ∈ s.grants.speech.queue, r ∈ s.speech.queue := by
  have upTo : ∀ (n : Nat) (s : Live), ∀ r ∈ (s.grantUpTo n).speech.queue, r ∈ s.speech.queue := by
    intro n
    induction n with
    | zero => exact fun s r hr => hr
    | succ n ih =>
      intro s r hr
      unfold Live.grantUpTo at hr
      split at hr
      · split at hr
        · next x _ =>
          have taken := ih _ r hr
          rw [(takeUp_queueStands (s.unqueue x.tag) s.nextPlayer x).1] at taken
          exact List.mem_of_mem_filter taken
        · exact hr
      · exact hr
  exact upTo _ s

theorem withdrawSpeech_none (s : Live) : ∀ r ∈ s.withdrawSpeech.speech.queue, r.cls ≠ .closing := by
  intro r hr
  have queued := grants_queue _ r hr
  rw [(postAll_only _ _).parts .speech (by decide)] at queued
  simpa [isClosing] using (List.mem_filter.mp queued).2

/-- What a suspension makes of the running part (R182). -/
structure Suspended (s t : Live) : Prop where
  closing : t.closing = { s.closing with state := .suspended }
  calls : ∀ r ∈ t.calls, isProgramme r = false
  queue : ∀ r ∈ t.speech.queue, r.cls ≠ .closing
  notice : t.offered (.programmeState .suspended s.closing.closeInstant .fire)
  keeps : Keeps [.closing, .calls, .circuits, .speech, .image, .loop, .portC, .portF] s t

theorem suspendClosing_stands_unless {s : Live} (other : s.closing.state ≠ .running) : s.suspendClosing = s := by
  unfold Live.suspendClosing
  split
  · next running => exact absurd running other
  all_goals rfl

theorem suspendClosing_suspends {s : Live} (running : s.closing.state = .running) : Suspended s s.suspendClosing := by
  have withdraws (t : Live) : Keeps [.calls, .circuits, .speech, .image, .loop, .portC, .portF] t
      t.withdrawCalls.withdrawSpeech :=
    keeps_trans (keeps_widen (withdrawCalls_only t)) (keeps_widen (withdrawSpeech_only _))
  have suspends : s.suspendClosing =
      ((s.withClosing { s.closing with state := .suspended }).withdrawCalls.withdrawSpeech).postProgramme .fire := by
    rw [Live.suspendClosing, running]
  generalize entered : s.withClosing { s.closing with state := .suspended } = u at suspends
  have closing : u.withdrawCalls.withdrawSpeech.closing = { s.closing with state := .suspended } := by
    rw [(withdraws u).parts .closing (by decide), ← entered]
    rfl
  have posted : s.suspendClosing = u.withdrawCalls.withdrawSpeech.post
      (.programmeState .suspended s.closing.closeInstant .fire) := by
    rw [suspends, Live.postProgramme, closing]
  rw [posted]
  refine ⟨closing, ?_, withdrawSpeech_none _, post_offered _ _, ?_⟩
  · rw [Live.post_calls, (withdrawSpeech_only _).parts .calls (by decide)]
    exact withdrawCalls_none u
  · have suspended : Keeps [.closing] s u := entered ▸ withClosing_parts s _
    exact Keeps.next (keeps_trans (keeps_widen suspended) (keeps_widen (withdraws u))) (post_only _ _)

end Sys2Proof.Machine

/-! # BELL steps

A ring that begins or is given up changes the states of the call records alone (`CallsRung`); a BELL step so enters each of its
calls without disturbing the others (`Belled`). -/

namespace Sys2Proof.Machine

-- one thread: a proof that waits for the theorems before it would hold a thread of its own
set_option Elab.async false

/-! ## What a ring that begins or is given up does to the call list (R133) -/

/-- A record that stands but for whether a circuit rings it. -/
def RungAs (r x : CallRecord) : Prop := x = r ∨ ∃ st, (st = .waiting ∨ st = .ringing) ∧ x = { r with state := st }

theorem RungAs.key {r x : CallRecord} (h : RungAs r x) : x.key = r.key := by
  obtain rfl | ⟨_, -, rfl⟩ := h <;> rfl

/-- Every record of the list stands in its place, but for whether a circuit rings it. -/
def CallsRung (s t : Live) : Prop := ∃ f : CallRecord → CallRecord, (∀ r, RungAs r (f r)) ∧ t.calls = s.calls.map f

theorem callsRung_of_calls {s t : Live} (h : t.calls = s.calls) : CallsRung s t :=
  ⟨id, fun _ => .inl rfl, by rw [h, List.map_id]⟩

theorem callsRung_composes : Composes CallsRung where
  refl _ := callsRung_of_calls rfl
  trans := by
    rintro s t u ⟨f, hf, ht⟩ ⟨g, hg, hu⟩
    refine ⟨g ∘ f, fun r => ?_, by rw [hu, ht, List.map_map]⟩
    rcases hg (f r) with same | ⟨st, runs, set⟩
    · rw [Function.comp, same]
      exact hf r
    · refine .inr ⟨st, runs, set.trans ?_⟩
      obtain same | ⟨_, -, set⟩ := hf r
      · rw [same]
      · rw [set]

theorem setState_callsRung {st : CallState} (runs : st = .waiting ∨ st = .ringing) (s : Live) (key : CallKey) :
    CallsRung s (s.updateCall key fun r => { r with state := st }) := by
  refine ⟨_, fun r => ?_, Live.updateCall_calls s key _⟩
  split
  · exact .inr ⟨st, runs, rfl⟩
  · exact .inl rfl

theorem beginRing_callsRung (s : Live) (c : Nat) (r : CallRecord) : CallsRung s (s.beginRing c r) := by
  unfold Live.beginRing
  extract_lets g t
  exact callsRung_composes.trans (callsRung_of_calls (writeSounder_calls t c true)) (setState_callsRung (.inr rfl) _ r.key)

theorem choose_callsRung (s : Live) (c : Nat) : CallsRung s (s.choose c) := by
  unfold Live.choose
  refine ChainRule.either (callsRung_composes.refl s) ?_
  split
  · exact beginRing_callsRung s c _
  · exact callsRung_composes.refl s

theorem tellCircuit_callsRung (s : Live) (r : CallRecord) : CallsRung s (s.tellCircuit r) := by
  unfold Live.tellCircuit
  split
  · next ring _ =>
    exact ChainRule.either
      (callsRung_composes.trans (setState_callsRung (.inl rfl) s ring.key) (beginRing_callsRung _ _ _))
      (callsRung_composes.refl s)
  · exact choose_callsRung s _

/-- The list after a record that finds room: in its place, and rung or not (R121). -/
theorem join_callsRung {s : Live} {r : CallRecord} (room : s.calls.length < 32) :
    CallsRung { s with calls := insertCall r s.calls } (s.join r).1 := by
  have made : s.makeRoom r = (s, true) := if_pos room
  unfold Live.join
  simp only [made, if_true]
  refine callsRung_composes.trans (callsRung_of_calls ?_) (tellCircuit_callsRung _ r)
  rw [indicatorOn_calls, Live.post_calls]

theorem join_entered {s : Live} {r : CallRecord} (room : s.calls.length < 32) : (s.join r).2 = true := by
  have made : s.makeRoom r = (s, true) := if_pos room
  unfold Live.join
  simp only [made, if_true]

theorem insertCall_length (r : CallRecord) (l : List CallRecord) : (insertCall r l).length = l.length + 1 := by
  induction l with
  | nil => rfl
  | cons x rest ih =>
    unfold insertCall
    split
    · simp [ih]
    · rfl

theorem find_insertCall_other {r : CallRecord} {key : CallKey} (other : r.key ≠ key) (l : List CallRecord) :
    (insertCall r l).find? (hasKey key) = l.find? (hasKey key) := by
  have passed : hasKey key r = false := by simpa [hasKey] using other
  induction l with
  | nil => simp [insertCall, passed]
  | cons x rest ih =>
    unfold insertCall
    split
    · simp [List.find?_cons, ih]
    · simp [passed]

namespace CallsRung
variable {s t : Live} (h : CallsRung s t)
include h

theorem length : t.calls.length = s.calls.length := by
  obtain ⟨f, -, calls⟩ := h
  rw [calls, List.length_map]

theorem call (key : CallKey) : (s.call key = none ∧ t.call key = none) ∨
    ∃ r x, s.call key = some r ∧ t.call key = some x ∧ RungAs r x := by
  obtain ⟨f, rung, calls⟩ := h
  have keys : hasKey key ∘ f = hasKey key := by
    funext r
    simp only [Function.comp, hasKey, (rung r).key]
  have found : t.call key = (s.call key).map f := by
    rw [Live.call, calls, List.find?_map, keys]
    rfl
  cases had : s.call key with
  | none => exact .inl ⟨rfl, by rw [found, had]; rfl⟩
  | some r => exact .inr ⟨r, f r, rfl, by rw [found, had]; rfl, rung r⟩

theorem call_isNone (key : CallKey) : (t.call key).isNone = (s.call key).isNone := by
  rcases h.call key with ⟨hs, ht⟩ | ⟨r, x, hs, ht, -⟩
  · rw [hs, ht]
  · rw [hs, ht]
    rfl

end CallsRung

/-! ## BELL (R132, R174) -/

/-- The call of a BELL step waits on its circuit or is rung there. -/
def Live.runs (s : Live) (r : CallRecord) : Prop :=
  ∃ st, (st = .waiting ∨ st = .ringing) ∧ s.call r.key = some { r with state := st }

theorem CallsRung.runs {s t : Live} {r : CallRecord} (h : CallsRung s t) (runs : s.runs r) : t.runs r := by
  obtain ⟨st, either, found⟩ := runs
  rcases h.call r.key with ⟨none_, -⟩ | ⟨x, y, hx, hy, rung⟩
  · rw [none_] at found
    cases found
  · obtain rfl : x = { r with state := st } := Option.some.inj (hx.symm.trans found)
    obtain rfl | ⟨st', either', rfl⟩ := rung
    · exact ⟨st, either, hy⟩
    · exact ⟨st', either', hy⟩

/-- The call of a BELL step on a circuit (R120, R132). -/
def bellCall (s : Live) (i c : Nat) : CallRecord := newCall s (.programme i c) c Config.programmeLevel .closing false 0 none

theorem programmeCall_standing {s : Live} {i c : Nat} (has : (s.call (.programme i c)).isNone = false) :
    s.programmeCall i c = (s, false) := by
  unfold Live.programmeCall
  split
  · rfl
  · next none_ => rw [none_] at has; cases has

theorem programmeCall_joins {s : Live} {i c : Nat} (fresh : (s.call (.programme i c)).isNone = true) :
    s.programmeCall i c = s.join (bellCall s i c) := by
  rw [Live.programmeCall, Option.isNone_iff_eq_none.mp fresh]
  rfl

/-- A BELL step from `s` as the circuits of `l` have been taken: the running part, and how many calls were entered. -/
structure Belled (i : Nat) (s : Live) (l : List Nat) (a : Live × Nat) : Prop where
  keeps : Keeps callParts s a.1
  size : a.1.calls.length ≤ s.calls.length + l.length
  left : ∀ c, c ∉ l → (a.1.call (.programme i c)).isNone = (s.call (.programme i c)).isNone
  entered : ∀ c ∈ l, (s.call (.programme i c)).isNone = true → a.1.runs (bellCall s i c)
  count : a.2 = (l.filter fun c => (s.call (.programme i c)).isNone).length

theorem belled_nil (i : Nat) (s : Live) : Belled i s [] (s, 0) :=
  ⟨keeps_refl _ s, Nat.le_refl _, fun _ _ => rfl, nofun, rfl⟩

/-- One circuit of a BELL step, and the count of the calls it entered. -/
def ringBell (i : Nat) (a : Live × Nat) (c : Nat) : Live × Nat :=
  ((a.1.programmeCall i c).1, if (a.1.programmeCall i c).2 then a.2 + 1 else a.2)

theorem Belled.next {i : Nat} {s : Live} {l : List Nat} {a : Live × Nat} {c : Nat} (h : Belled i s l a) (new : c ∉ l)
    (room : s.calls.length + l.length < 32) : Belled i s (l ++ [c]) (ringBell i a c) := by
  have stands := h.left c new
  cases had : (s.call (.programme i c)).isNone with
  | false =>
    rw [had] at stands
    have same : ringBell i a c = a := by simp [ringBell, programmeCall_standing stands]
    rw [same]
    refine ⟨h.keeps, ?_, fun d hd => h.left d fun again => hd (List.mem_append_left _ again), fun d hd fresh => ?_, ?_⟩
    · rw [List.length_append]
      exact Nat.le_trans h.size (by omega)
    · rcases List.mem_append.mp hd with before | own
      · exact h.entered d before fresh
      · rw [List.mem_singleton.mp own, had] at fresh
        cases fresh
    · simp [List.filter_append, had, h.count]
  | true =>
    rw [had] at stands
    have place : a.1.calls.length < 32 := Nat.lt_of_le_of_lt h.size room
    have bell : bellCall a.1 i c = bellCall s i c := by
      have seconds : a.1.seconds = s.seconds := (h.keeps.parts .clock (by decide)).1
      simp only [bellCall, newCall, seconds]
    have rang : ringBell i a c = ((a.1.join (bellCall s i c)).1, a.2 + 1) := by
      simp only [ringBell, programmeCall_joins stands, bell, join_entered place, if_true]
    rw [rang]
    have rung := join_callsRung (r := bellCall s i c) place
    have other {d : Nat} (hd : d ≠ c) : Live.call { a.1 with calls := insertCall (bellCall s i c) a.1.calls } (.programme i d) =
        a.1.call (.programme i d) :=
      find_insertCall_other (by rintro ⟨⟩; exact hd rfl) _
    refine ⟨keeps_trans h.keeps (join_only a.1 _), ?_, fun d hd => ?_, fun d hd fresh => ?_, ?_⟩
    · rw [rung.length, insertCall_length, List.length_append, List.length_singleton, ← Nat.add_assoc]
      exact Nat.add_le_add_right h.size 1
    · rw [List.mem_append, List.mem_singleton, not_or] at hd
      rw [rung.call_isNone, other hd.2]
      exact h.left d hd.1
    · refine rung.runs ?_
      by_cases own : d = c
      · subst own
        exact ⟨.waiting, .inl rfl, find_insertCall _ _ (Option.isNone_iff_eq_none.mp stands)⟩
      · have before : d ∈ l := (List.mem_append.mp hd).resolve_right fun mem => own (List.mem_singleton.mp mem)
        obtain ⟨st, either, found⟩ := h.entered d before fresh
        exact ⟨st, either, (other own).trans found⟩
    · simp [List.filter_append, had, h.count]

theorem belled_all {i : Nat} {s : Live} {l : List Nat} (nodup : l.Nodup) (room : s.calls.length + l.length ≤ 32) :
    Belled i s l (l.foldl (ringBell i) (s, 0)) := by
  induction l using List.reverseRecOn with
  | nil => exact belled_nil i s
  | append_singleton before c ih =>
    obtain ⟨distinct, _, fresh⟩ := List.nodup_append.mp nodup
    rw [List.length_append, List.length_singleton] at room
    rw [List.foldl_append]
    exact (ih distinct (by omega)).next (fun again => fresh c again c List.mem_cons_self rfl) (by omega)

theorem mem_increasing {n c : Nat} {l : List Nat} : c ∈ increasing n l ↔ c < n ∧ c ∈ l := by
  simp [increasing]

theorem increasing_nodup (n : Nat) (l : List Nat) : (increasing n l).Nodup := List.nodup_range.filter _

theorem increasing_length (n : Nat) (l : List Nat) : (increasing n l).length ≤ n :=
  Nat.le_trans (List.length_filter_le _ _) (Nat.le_of_eq List.length_range)

/-- With room for a call on every circuit, a BELL step enters a call for each circuit of its set that has none. -/
theorem bell_belled {s : Live} (i : Nat) (e : StepEntry) (room : s.calls.length ≤ 16) :
    ∃ n, (s.bell i e).2 = .executed (.calls n) ∧ Belled i s (increasing 16 (e.circuits.getD [])) ((s.bell i e).1, n) :=
  ⟨_, rfl, belled_all (increasing_nodup _ _) (by have := increasing_length 16 (e.circuits.getD []); omega)⟩

end Sys2Proof.Machine

/-! # NIGHT-CLOSE steps -/

namespace Sys2Proof.Machine

-- one thread: a proof that waits for the theorems before it would hold a thread of its own
set_option Elab.async false

/-! ## NIGHT-CLOSE (R176) -/

/-- What a close request to a shutter keeps, where its moves, changes and judging keep it (R99 to R102). -/
theorem closeRequest_keeps {R : Live → Live → Prop} {k : Nat} (composes : Composes R)
    (move : ∀ s r b, R s (s.moveShutter k r b)) (change : ∀ s r, R s (s.changeShutter k r)) (judge : ∀ s, R s (s.judge k))
    (s : Live) (c : CloseCause) : R s (s.closeRequest k c) := by
  have arms : R s (s.arm k c) := ChainRule.either (composes.trans (move s _ _) (judge _)) (move s _ _)
  have upgrades : R s (s.upgrade k) := change s _
  refine ChainRule.either (composes.refl s) ?_
  unfold Live.closeByState
  split
  case h_10 => exact composes.refl s
  case h_1 | h_2 | h_3 | h_4 | h_5 => exact arms
  all_goals exact ChainRule.either upgrades (composes.refl s)

section
variable {j k : Nat} (h : j ≠ k) (c : CloseCause)
include h

theorem closeRequest_rests (s : Live) : RestsUnlessArmed k s (s.closeRequest j c) := by
  have composes : Composes (RestsUnlessArmed k) := ⟨(rests_chainRule k).refl, (rests_chainRule k).trans⟩
  exact closeRequest_keeps composes (fun s r b => moveShutter_rests s h r b)
    (fun s r _ => shutter_changeShutter_other s r h) (fun s _ => shutter_judge_other h s) s c

theorem closeRequest_warningStands (s : Live) : WarningStands k s (s.closeRequest j c) := by
  refine closeRequest_keeps (warningStands_composes k) (fun s r b => ?_) (fun s r => changeShutter_warningStands s h r)
    (fun s => judge_warningStands s k j) s c
  have changed := changeShutter_warningStands s h r
  exact ChainRule.either ((warningStands_composes k).trans changed (sillLeavesOpen_warningStands _ j b k)) changed

end

/-- What a NIGHT-CLOSE reads of a shutter before it sends its request. -/
structure ShutterWaits (k : Nat) (s t : Live) : Prop where
  shutter : t.shutter k = s.shutter k
  plan : t.plan = s.plan
  limits : t.bothLimits k = s.bothLimits k

theorem ShutterWaits.limitsJammed {k : Nat} {s t : Live} (h : ShutterWaits k s t) : t.limitsJammed k = s.limitsJammed k := by
  rw [Live.limitsJammed, h.shutter, h.limits]
  rfl

theorem ShutterWaits.next {j k : Nat} {s t : Live} (h : ShutterWaits k s t) (other : j ≠ k)
    (still : (s.shutter k).state ≠ .armed) (c : CloseCause) : ShutterWaits k s (t.closeRequest j c) where
  shutter := (closeRequest_rests other c t (by rwa [h.shutter])).trans h.shutter
  plan := (closeRequest_only t j c).planStands.1.trans h.plan
  limits := by
    have stands := closeRequest_stands t j c
    rw [Live.bothLimits, stands.up k, stands.down k]
    exact h.limits

theorem nightEligible_arms {s : Live} {k : Nat} (eligible : (s.shutter k).state.nightEligible = true)
    (free : s.limitsJammed k = false) (c : CloseCause) : s.closeRequest k c = s.arm k c := by
  rw [Live.closeRequest, if_neg (by simp [free]), Live.closeByState]
  split
  case h_1 | h_2 | h_3 | h_4 | h_5 => rfl
  all_goals next state => rw [state] at eligible; cases eligible

theorem nightEligible_still {s : Live} {k : Nat} (eligible : (s.shutter k).state.nightEligible = true) :
    (s.shutter k).state ≠ .armed := by
  intro armed
  rw [armed] at eligible
  cases eligible

section
variable {s : Live} {l : List Nat} {k : Nat} (nodup : l.Nodup) (hk : k < 32) (mem : k ∈ l)
  (eligible : (s.shutter k).state.nightEligible = true)
include nodup mem eligible

include hk in
/-- A shutter sent a night request among others is ARMED with its warning begun (R101). -/
theorem nightRequests_arm (lasts : 0 < s.plan.geometry.nightWarning) (free : s.limitsJammed k = false) :
    (l.foldl (fun t j => t.closeRequest j .night) s).shutter k = armedRecord .night := by
  have still := nightEligible_still eligible
  refine And.left <| foldl_establishes (Q := ShutterWaits k s)
    (P := fun t => t.shutter k = armedRecord .night ∧ t.warns k)
    (fun t j other waits => waits.next other still _) (fun t waits => ?_) (fun t j other ⟨armed, warns⟩ => ?_)
    nodup mem ⟨rfl, rfl, rfl⟩
  · have warnsFor : t.warnsFor .night := by rw [Live.warnsFor, waits.plan]; exact lasts
    have arms := nightEligible_arms (by rw [waits.shutter]; exact eligible) (waits.limitsJammed.trans free) .night
    rw [arms]
    exact ⟨arm_shutter hk warnsFor, arm_warns hk warnsFor⟩
  · obtain ⟨shutter, plan, -⟩ := closeRequest_warningStands other .night t warns
    exact ⟨shutter.trans armed, warns_of_same shutter plan warns⟩

/-- One JAMMED with both limits asserted is left as it stands (R99). -/
theorem nightRequests_jammed (jammed : s.limitsJammed k = true) :
    (l.foldl (fun t j => t.closeRequest j .night) s).shutter k = s.shutter k := by
  have still := nightEligible_still eligible
  refine ShutterWaits.shutter <| foldl_establishes (P := ShutterWaits k s) (Q := ShutterWaits k s)
    (fun t j other waits => waits.next other still _) (fun t waits => ?_)
    (fun t j other waits => waits.next other still _) nodup mem ⟨rfl, rfl, rfl⟩
  rw [Live.closeRequest, if_pos (waits.limitsJammed.trans jammed)]
  exact waits

end

end Sys2Proof.Machine

/-! # MASK steps -/

namespace Sys2Proof.Machine

-- one thread: a proof that waits for the theorems before it would hold a thread of its own
set_option Elab.async false

/-! ## MASK (R149, R177) -/

/-- What a setting of a mask touches. -/
abbrev maskParts : List Part := [.calls, .circuits, .image, .portC, .portF]

theorem choose_maskParts (s : Live) (c : Nat) : Keeps maskParts s (s.choose c) := by
  unfold Live.choose
  refine keeps_ite (keeps_refl _ _) ?_
  split
  · exact Keeps.next (Keeps.next (keeps_widen (withCircuit_only s c _)) (writeSounder_only _ _ _)) (updateCall_only _ _ _)
  · exact keeps_refl _ _

theorem takeMask_maskParts (s : Live) (c : Nat) : Keeps maskParts s (s.takeMask c) := by
  unfold Live.takeMask
  extract_lets r
  split
  · exact keeps_refl _ _
  · exact Keeps.next (keeps_widen (withCircuit_only s c _)) (postIf_only _ _ _)

theorem setMask_maskParts (s : Live) (c m : Nat) : Keeps maskParts s (s.setMask c m) := by
  unfold Live.setMask
  extract_lets r t
  refine keeps_trans (t := t) (keeps_widen (withCircuit_only s c _)) ?_
  exact keeps_ite (keeps_refl _ _) (keeps_trans (takeMask_maskParts _ c) (choose_maskParts _ c))

theorem circuit_of_circuits {s t : Live} (h : t.circuits = s.circuits) (c : Nat) : t.circuit c = s.circuit c := by
  simp only [Live.circuit, h]

theorem circuit_withCircuit_other (s : Live) {c d : Nat} (h : c ≠ d) (r : CircuitRecord) :
    (s.withCircuit c r).circuit d = s.circuit d := Bank.read_put_other _ _ _ _ _ h

theorem beginRing_circuit (s : Live) (c : Nat) (r : CallRecord) (d : Nat) : (s.beginRing c r).circuit d =
    (s.withCircuit c { s.circuit c with ring := some ⟨r.key, r.pattern, firstStroke r.pattern, .on, 0⟩ }).circuit d :=
  circuit_of_circuits (beginRing_circuits s c r) d

section
variable {s : Live} {c d m : Nat}

theorem choose_circuit_other (h : c ≠ d) : (s.choose c).circuit d = s.circuit d := by
  unfold Live.choose
  split
  · rfl
  · split
    · exact (beginRing_circuit s c _ d).trans (circuit_withCircuit_other s h _)
    · rfl

/-- A circuit that chooses keeps its mask (R141). -/
theorem choose_mask : ((s.choose c).circuit d).mask = (s.circuit d).mask ∧
    ((s.choose c).circuit d).pendingMask = (s.circuit d).pendingMask := by
  unfold Live.choose
  split
  · exact ⟨rfl, rfl⟩
  · split
    · rw [beginRing_circuit]
      exact ⟨Bank.read_put_modify _ c d _ _ CircuitRecord.mask rfl,
        Bank.read_put_modify _ c d _ _ CircuitRecord.pendingMask rfl⟩
    · exact ⟨rfl, rfl⟩

theorem takeMask_pending (pending : (s.circuit c).pendingMask = some m) : s.takeMask c =
    (s.withCircuit c { s.circuit c with mask := m, pendingMask := none }).postIf (m != (s.circuit c).mask)
      (.circuitMask c m (s.circuit c).mask) := by
  unfold Live.takeMask
  dsimp only
  rw [pending]

theorem takeMask_circuit_other (h : c ≠ d) : (s.takeMask c).circuit d = s.circuit d := by
  unfold Live.takeMask
  dsimp only
  split
  · rfl
  · exact (circuit_of_circuits ((postIf_only _ _ _).parts .circuits (by decide)) d).trans (circuit_withCircuit_other s h _)

/-- A setting of one circuit's mask leaves the others. -/
theorem setMask_circuit_other (h : c ≠ d) : (s.setMask c m).circuit d = s.circuit d := by
  unfold Live.setMask
  dsimp only
  have set := circuit_withCircuit_other s h { s.circuit c with pendingMask := some m }
  split
  · exact set
  · exact (choose_circuit_other h).trans ((takeMask_circuit_other h).trans set)

variable (hc : c < 16)
include hc

/-- A circuit that rings takes the mask at its next boundary (R149). -/
theorem setMask_ringing {g : Ring} (rings : (s.circuit c).ring = some g) :
    (s.setMask c m).circuit c = { s.circuit c with pendingMask := some m } := by
  have set := Live.circuit_withCircuit_same s c { s.circuit c with pendingMask := some m } hc
  unfold Live.setMask
  dsimp only
  rw [if_pos (by rw [set, rings]; rfl)]
  exact set

/-- A circuit in IDLE takes the mask at once (R149). -/
theorem setMask_idle (idle : (s.circuit c).ring = none) :
    ((s.setMask c m).circuit c).mask = m ∧ ((s.setMask c m).circuit c).pendingMask = none ∧
      (m ≠ (s.circuit c).mask → (s.setMask c m).offered (.circuitMask c m (s.circuit c).mask)) := by
  have set := Live.circuit_withCircuit_same s c { s.circuit c with pendingMask := some m } hc
  unfold Live.setMask
  dsimp only
  rw [if_neg (by rw [set, idle]; exact nofun)]
  generalize s.withCircuit c { s.circuit c with pendingMask := some m } = u at set
  have taken : (u.takeMask c).circuit c = { u.circuit c with mask := m, pendingMask := none } := by
    rw [takeMask_pending (by rw [set]), circuit_of_circuits ((postIf_only _ _ _).parts .circuits (by decide)) c]
    exact Live.circuit_withCircuit_same u c _ hc
  refine ⟨?_, ?_, fun other => (choose_maskParts _ c).offered ?_⟩
  · rw [choose_mask.1, taken]
  · rw [choose_mask.2, taken]
  · rw [takeMask_pending (by rw [set]), Live.postIf, if_pos (by simpa [set] using other), set]
    exact post_offered _ _

end

/-- A circuit the level is not handed to stands. -/
theorem setMasks_other {l : List Nat} {d : Nat} (absent : d ∉ l) (m : Nat) (s : Live) :
    (l.foldl (fun t c => t.setMask c m) s).circuit d = s.circuit d := by
  induction l generalizing s with
  | nil => rfl
  | cons c rest ih =>
    rw [List.mem_cons, not_or] at absent
    exact (ih absent.2 _).trans (setMask_circuit_other (Ne.symm absent.1))

section
variable {s : Live} {l : List Nat} {c m : Nat} (nodup : l.Nodup) (hc : c < 16) (mem : c ∈ l)
include nodup hc mem

theorem setMasks_ringing {g : Ring} (rings : (s.circuit c).ring = some g) :
    (l.foldl (fun t c => t.setMask c m) s).circuit c = { s.circuit c with pendingMask := some m } := by
  refine foldl_establishes (g := fun t c => t.setMask c m) (Q := fun t => t.circuit c = s.circuit c)
    (P := fun t => t.circuit c = { s.circuit c with pendingMask := some m })
    (fun t d other stands => (setMask_circuit_other other).trans stands) (fun t stands => ?_)
    (fun t d other set => (setMask_circuit_other other).trans set) nodup mem rfl
  rw [setMask_ringing hc (by rw [stands]; exact rings), stands]

/-- A circuit's mask has been set, with the notice of a change from `old` (R149). -/
structure MaskSet (c m old : Nat) (t : Live) : Prop where
  mask : (t.circuit c).mask = m
  pending : (t.circuit c).pendingMask = none
  notice : m ≠ old → t.offered (.circuitMask c m old)

theorem setMasks_idle (idle : (s.circuit c).ring = none) :
    MaskSet c m (s.circuit c).mask (l.foldl (fun t c => t.setMask c m) s) := by
  refine foldl_establishes (g := fun t c => t.setMask c m) (Q := fun t => t.circuit c = s.circuit c)
    (P := MaskSet c m (s.circuit c).mask)
    (fun t d other stands => (setMask_circuit_other other).trans stands) (fun t stands => ?_)
    (fun t d other set => ?_) nodup mem rfl
  · have ⟨mask, pending, notice⟩ := setMask_idle (s := t) (m := m) hc (by rw [stands]; exact idle)
    exact ⟨mask, pending, by rwa [stands] at notice⟩
  · have same : (t.setMask d m).circuit c = t.circuit c := setMask_circuit_other other
    exact ⟨by rw [same]; exact set.mask, by rw [same]; exact set.pending,
      fun changed => (setMask_maskParts t d m).offered (set.notice changed)⟩

end

end Sys2Proof.Machine

/-! # O57: what a step of each kind does, the catch-up and the suspension -/

namespace Sys2Proof.Machine

-- one thread: a proof that waits for the theorems before it would hold a thread of its own
set_option Elab.async false

/-! ## SWEEP and PARK (R67, R69, R175) -/

theorem startRefusal_eq_none {s : Live} : s.startRefusal = none ↔
    s.sillNotOpen = none ∧ s.chain.flapTop = false ∧ s.chain.flapBottom = false ∧ s.alarmWithLanding = none := by
  cases sill : s.sillNotOpen with
  | some k => simp [startRefusal_shutter sill]
  | none =>
    cases top : s.chain.flapTop with
    | true => simp [startRefusal_flapTop sill top]
    | false =>
      cases bottom : s.chain.flapBottom with
      | true => simp [startRefusal_flapBottom sill top bottom]
      | false => simp [startRefusal_zone sill top bottom]

section
variable {s : Live}

theorem requestSweep_begins (running : s.chain.state = .running) (none_ : s.chain.deferred = none)
    (fresh : s.chain.sweep = none) : s.requestSweep = (s.beginSweep s.plan.geometry.sweepLoops, true) := by
  simp only [Live.requestSweep, running, none_, fresh]
  rfl

theorem requestSweep_renews (running : s.chain.state = .running) (none_ : s.chain.deferred = none)
    (sweeps : s.chain.sweep ≠ none) : s.requestSweep = ({ s with chain := { s.chain with
      sweep := some (s.plan.geometry.sweepLoops * s.plan.geometry.loopLength) } }, true) := by
  simp only [Live.requestSweep, running, none_]
  exact if_pos (Option.isSome_iff_ne_none.mpr sweeps)

theorem requestSweep_starts (parked : s.chain.state = .parked) (conditions : s.startRefusal = none) :
    s.requestSweep = (s.enterWarning (some s.plan.geometry.sweepLoops), true) := by
  simp only [Live.requestSweep, parked, conditions]
  rfl

theorem requestSweep_carried (warning : s.chain.state = .warning) : s.requestSweep =
    ({ s with chain := { s.chain with carriedLoops := some s.plan.geometry.sweepLoops } }, true) := by
  simp only [Live.requestSweep, warning]

/-- The states of the chain that take neither a sweep nor a park, but for those a start or a warning serves. -/
def ChainDrive.turnsAway (c : ChainDrive) : Prop :=
  (c.state = .running ∧ c.deferred ≠ none) ∨ (∃ x ph, c.state = .stopping x ph) ∨ (∃ x, c.state = .held x) ∨
    c.state = .fault ∨ ∃ x, c.state = .inspection x

theorem requestSweep_turnedAway (h : s.chain.turnsAway) : s.requestSweep = (s, false) := by
  obtain ⟨running, deferred⟩ | ⟨c, ph, state⟩ | ⟨c, state⟩ | state | ⟨x, state⟩ := h
  · simp only [Live.requestSweep, running]
    exact if_pos (Option.isSome_iff_ne_none.mpr deferred)
  all_goals simp only [Live.requestSweep, state]

theorem requestSweep_refused (parked : s.chain.state = .parked) (refused : s.startRefusal ≠ none) :
    s.requestSweep = (s, false) := by
  simp only [Live.requestSweep, parked]
  exact if_neg (by simpa using refused)

theorem requestPark_stops (running : s.chain.state = .running) (none_ : s.chain.deferred = none) :
    s.requestPark = (s.requestStop .park, true) := by
  simp only [Live.requestPark, running, none_]
  rfl

theorem requestPark_parked (parked : s.chain.state = .parked) : s.requestPark = (s, true) := by
  simp only [Live.requestPark, parked]

theorem requestPark_warning (warning : s.chain.state = .warning) : s.requestPark = (s, false) := by
  simp only [Live.requestPark, warning]

theorem requestPark_turnedAway (h : s.chain.turnsAway) : s.requestPark = (s, false) := by
  obtain ⟨running, deferred⟩ | ⟨c, ph, state⟩ | ⟨c, state⟩ | state | ⟨x, state⟩ := h
  · simp only [Live.requestPark, running]
    exact if_pos (Option.isSome_iff_ne_none.mpr deferred)
  all_goals simp only [Live.requestPark, state]

end

/-- The gongs stop with the sweep (R68). -/
theorem unswept_gongs {c : ChainDrive} (sweeps : c.sweep ≠ none) :
    c.unswept.gongTimer = none ∧ c.unswept.gongsOn = false := by
  have isSome : c.sweep.isSome = true := Option.isSome_iff_ne_none.mpr sweeps
  exact ⟨if_pos isSome, if_pos isSome⟩

/-- The gongs of a sweep that begins sound (R68). -/
theorem beginSweep_gongs (s : Live) (n : Nat) {g : Nat} (hg : g < 8) : (s.beginSweep n).image.gongs.read g false =
    (s.loop.gongNumbered g && decide (g < s.plan.geometry.landings.length)) :=
  (writeGongs_gongs _ _ hg).trans (Bool.true_and _ ▸ rfl)

/-! ## The rule of each kind (section 10.3) -/

section
variable {s : Live} {i close : Nat}

theorem executeStep_announce (kind : (s.plan.step i).kind = .announce) :
    s.executeStep i close = s.announce i (s.plan.step i) close := by
  simp only [Live.executeStep, kind]

theorem executeStep_bell (kind : (s.plan.step i).kind = .bell) : s.executeStep i close = s.bell i (s.plan.step i) := by
  simp only [Live.executeStep, kind]

theorem executeStep_nightClose (kind : (s.plan.step i).kind = .nightClose) :
    s.executeStep i close = s.nightClose (s.plan.step i) := by
  simp only [Live.executeStep, kind]

theorem executeStep_mask (kind : (s.plan.step i).kind = .mask) : s.executeStep i close = s.maskStep (s.plan.step i) := by
  simp only [Live.executeStep, kind]

theorem executeStep_sweep (kind : (s.plan.step i).kind = .sweep) : s.executeStep i close = chainAnswer s.requestSweep := by
  simp only [Live.executeStep, kind]

theorem executeStep_park (kind : (s.plan.step i).kind = .park) : s.executeStep i close = chainAnswer s.requestPark := by
  simp only [Live.executeStep, kind]

end

/-! ## What each kind does -/

section
variable {s : Live} {i close : Nat} {e : StepEntry} {a : Live × Taken}

/-- The request an ANNOUNCE step enters, under the next tag (R173). -/
def announcement (s : Live) (i close : Nat) (e : StepEntry) : SpeakRequest :=
  ⟨s.speech.nextTag, e.script.getD 0, e.channels.getD [], .closing, none,
    if close ≤ s.seconds then none else some (min 60 ((close - s.seconds + 59) / 60)), .programme i, s.seconds⟩

theorem announce_enters (ran : a = s.announce i e close) (room : s.speech.queue.length < 8)
    (free : s.tagHeld s.speech.nextTag = false) (busyA : s.idle .a = false) (busyB : s.idle .b = false) :
    a.2 = .executed (.tag s.speech.nextTag) ∧ a.1.speech = { s.speech with
      queue := s.speech.queue.filter (fun x => x.cls == .closing) ++ [announcement s i close e] ++
        s.speech.queue.filter fun x => x.cls != .closing
      nextTag := if 65535 ≤ s.speech.nextTag then 1 else s.speech.nextTag + 1 } := by
  rw [ran, Live.announce]
  dsimp only
  rw [enterQueue_waits room busyA busyB, enqueue_closing free rfl, clampNumber_minutesTo]
  exact ⟨rfl, rfl⟩

theorem announce_dropped (ran : a = s.announce i e close) (full : 8 ≤ s.speech.queue.length)
    (general : ∀ x ∈ s.speech.queue, x.cls ≠ .general) :
    a.2 = .executed (.tag 0) ∧ a.1 = s.post (.speakDropped 0 .closing (.programme i) .full) := by
  rw [ran, Live.announce]
  dsimp only
  rw [enterQueue_full full rfl general]
  exact ⟨rfl, rfl⟩

/-- A BELL step counts and enters the calls of the circuits that have none (R132, R174). -/
theorem bell_enters (ran : a = s.bell i e) (room : s.calls.length ≤ 16) :
    a.2 = .executed (.calls ((List.range 16).filter fun c =>
      (e.circuits.getD []).contains c && (s.call (.programme i c)).isNone).length) ∧
    ∀ c, c < 16 → c ∈ e.circuits.getD [] → s.call (.programme i c) = none → a.1.runs (bellCall s i c) := by
  obtain ⟨n, taken, belled⟩ := bell_belled i e room
  rw [ran]
  refine ⟨?_, fun c hc mem none_ => belled.entered c (mem_increasing.mpr ⟨hc, mem⟩) (by rw [none_]; rfl)⟩
  have count := belled.count
  dsimp only at count
  rw [taken, count, increasing, List.filter_filter]
  simp only [Bool.and_comm]

/-- The shutters a NIGHT-CLOSE step sends its request to (R176). -/
def nightShutters (s : Live) (e : StepEntry) : List Nat := (List.range 32).filter fun k =>
  (s.plan.shutter k).present && (e.zones.getD []).contains (s.plan.shutter k).home && (s.shutter k).state.nightEligible

theorem nightClose_eq (s : Live) (e : StepEntry) : s.nightClose e =
    ((nightShutters s e).foldl (fun t k => t.closeRequest k .night) s, .executed (.requests (nightShutters s e).length)) :=
  rfl

/-- What a NIGHT-CLOSE step does to each shutter it sends its request to (R99, R176). -/
theorem nightClose_sends {k : Nat} (ran : a = s.nightClose e) (hk : k < 32)
    (sent : ((s.plan.shutter k).present && (e.zones.getD []).contains (s.plan.shutter k).home &&
      (s.shutter k).state.nightEligible) = true) :
    (0 < s.plan.geometry.nightWarning → s.limitsJammed k = false → a.1.shutter k = armedRecord .night) ∧
    (s.limitsJammed k = true → a.1.shutter k = s.shutter k) := by
  have nodup : (nightShutters s e).Nodup := List.nodup_range.filter _
  have mem : k ∈ nightShutters s e :=
    List.mem_filter.mpr ⟨List.mem_range.mpr hk, sent⟩
  have eligible : (s.shutter k).state.nightEligible = true := (Bool.and_eq_true_iff.mp sent).2
  rw [ran, nightClose_eq]
  exact ⟨nightRequests_arm nodup hk mem eligible, nightRequests_jammed nodup mem eligible⟩

theorem maskStep_only (s : Live) (e : StepEntry) : Keeps maskParts s (s.maskStep e).1 :=
  keeps_foldl _ (fun t c => setMask_maskParts t c _) _ s

theorem maskStep_sets {c : Nat} (ran : a = s.maskStep e) (hc : c < 16) (mem : c ∈ e.circuits.getD []) :
    ((s.circuit c).ring = none → MaskSet c (e.level.getD 0) (s.circuit c).mask a.1) ∧
    ∀ g, (s.circuit c).ring = some g → a.1.circuit c = { s.circuit c with pendingMask := some (e.level.getD 0) } := by
  have nodup := increasing_nodup 16 (e.circuits.getD [])
  have handed := mem_increasing.mpr ⟨hc, mem⟩
  rw [ran]
  exact ⟨setMasks_idle nodup hc handed, fun g => setMasks_ringing nodup hc handed⟩

theorem maskStep_other {c : Nat} (ran : a = s.maskStep e) (absent : c ∉ e.circuits.getD []) :
    a.1.circuit c = s.circuit c := by
  rw [ran]
  exact setMasks_other (fun handed => absent (mem_increasing.mp handed).2) _ s

end

/-! ## The catch-up of CLOSING BEGIN and CLOSING RESUME (R178, R179, R183) -/

theorem CaughtUp.delivered {u v t : Live} {i close : Nat} (h : CaughtUp u i close v) (delivered : Delivered v t) :
    CaughtUp u i close t := by
  have mark : t.closing.mark i = v.closing.mark i :=
    congrArg (fun c : Closing => c.mark i) (delivered.parts .closing (by decide))
  refine ⟨fun late => ?_, fun prompt => ?_⟩
  · exact (h.late late).imp mark.trans delivered.offered
  · rcases h.prompt prompt with ⟨executed, r, posted⟩ | ⟨skipped, kind, r, posted⟩
    · exact .inl ⟨mark.trans executed, r, delivered.offered posted⟩
    · exact .inr ⟨mark.trans skipped, kind, r, delivered.offered posted⟩

/-- The running part as a CLOSING RESUME goes on with its run (R183). -/
def Live.resumed (u : Live) : Live := (u.withClosing { u.closing with state := .running }).postProgramme .resume

theorem closingResume_resumes {u : Live} (suspended : u.closing.state = .suspended) (alarm : u.lowestAlarm = none) :
    closingResume u = answer (u.resumed.takeDue true stepFuel) .done := by
  simp only [closingResume, suspended, alarm]
  rfl

theorem catchUp_only (u : Live) (c : Closing) (why : ProgrammeReason) :
    Keeps closingParts u (((u.withClosing c).postProgramme why).takeDue true stepFuel) :=
  keeps_trans (Keeps.next (withClosing_only u c) (post_only _ _)) (takeDue_only true stepFuel _)

/-- The run that CLOSING BEGIN begins (R178). -/
def beginningRun (u : Live) (n : Nat) : Closing :=
  ⟨.running, some (u.seconds + n), (⟨.running, some (u.seconds + n), none, startMarks u.plan⟩ : Closing).nextPending,
    startMarks u.plan⟩

/-- The running part as a CLOSING BEGIN takes up its run (R178). -/
def Live.entersRun (u : Live) (n : Nat) : Live := (u.withClosing (beginningRun u n)).postProgramme .begin

theorem closingBegin_begins {u : Live} {n i : Nat} (inRange : within 60 7200 n = true)
    (first : ((List.range 24).find? fun j => (u.plan.step j).present) = some i) (idle : u.closing.state = .idle)
    (alarm : u.lowestAlarm = none) :
    closingBegin n u = answerWith ((u.entersRun n).takeDue true stepFuel) .done (.closeInstant (u.seconds + n)) := by
  have any : ((List.range 24).any fun j => (u.plan.step j).present) = true :=
    List.any_eq_true.mpr ⟨i, List.mem_of_find?_eq_some first, List.find?_some (p := fun j => (u.plan.step j).present) first⟩
  unfold closingBegin
  simp only [inRange, any, idle, alarm]
  rfl

/-- The pointer of a run that begins is at the first step the plan has (R178). -/
theorem beginningRun_pointer {u : Live} {n i : Nat}
    (first : ((List.range 24).find? fun j => (u.plan.step j).present) = some i) :
    (beginningRun u n).pointer = some i := by
  rw [← first]
  refine List.find?_congr fun j hj => ?_
  have read := Bank.read_build 24 (fun i => if (u.plan.step i).present then some Mark.pending else none) j none
    (List.mem_range.mp hj)
  rw [Closing.mark]
  refine (congrArg (· == some Mark.pending) read).trans ?_
  cases (u.plan.step j).present <;> rfl

section
variable {s : State} {i : Nat} (hi : i < 24) (alarm : s.live.lowestAlarm = none)
include hi alarm

/-- A CLOSING RESUME catches up with the step at its pointer (R179, R183). -/
theorem closingResume_catchesUp {close : Nat} (takes : s.canTake .c .closingResume)
    (suspended : s.live.closing.state = .suspended) (instant : s.live.closing.closeInstant = some close)
    (pointer : s.live.closing.pointer = some i) (due : s.live.dueSecond i close ≤ s.live.seconds) :
    ∃ t, exec (.closingResume .c (.fits ())) s = .next t ∧ t.replied .c .closingResume .done .none ∧
      CaughtUp s.live i close t.live := by
  obtain ⟨t, ran, delivered, replied, -⟩ := breakingRequest_acts (h := fun _ => closingResume) (a := ()) takes nofun
    (closingResume_resumes (u := s.begun .c) suspended alarm) (catchUp_only _ _ .resume)
    (ps := .store :: closingParts)
  have caught := takeDue_caughtUp (s := (s.begun .c).resumed) hi rfl instant pointer due 24
  exact ⟨t, ran, replied, (caught.delivered delivered).late, (caught.delivered delivered).prompt⟩

/-- A CLOSING BEGIN catches up with the plan's first step (R178, R179). -/
theorem closingBegin_catchesUp {n : Nat} (takes : s.canTake .c .closingBegin) (least : 60 ≤ n) (most : n ≤ 7200)
    (idle : s.live.closing.state = .idle)
    (first : ((List.range 24).find? fun j => (s.live.plan.step j).present) = some i)
    (due : s.live.dueSecond i (s.live.seconds + n) ≤ s.live.seconds) :
    ∃ t, exec (.closingBegin .c (.fits n)) s = .next t ∧
      t.replied .c .closingBegin .done (.closeInstant (s.live.seconds + n)) ∧
      CaughtUp s.live i (s.live.seconds + n) t.live := by
  have inRange : within 60 7200 n = true := by simp [within, least, most]
  obtain ⟨t, ran, delivered, replied, -⟩ := breakingRequest_acts (h := closingBegin) (a := n) takes nofun
    (closingBegin_begins (u := s.begun .c) inRange first idle alarm) (catchUp_only _ _ .begin)
    (ps := .store :: closingParts)
  have caught := takeDue_caughtUp (s := (s.begun .c).entersRun n) hi rfl rfl (beginningRun_pointer first) due 24
  exact ⟨t, ran, replied, (caught.delivered delivered).late, (caught.delivered delivered).prompt⟩

end

/-! ## O57 -/

/-- Settles O57. -/
theorem closingStepsAct : Obligations.ClosingStepsAct := by
  refine ⟨fun s i close => ?_, fun s i hi alarm => ?_, fun s => ?_⟩
  · intro e t taken circuits tag entry
    have became {a : Live × Taken} (ran : s.executeStep i close = a) : t = a.1 ∧ taken = a.2 :=
      ⟨congrArg Prod.fst ran, congrArg Prod.snd ran⟩
    refine ⟨fun kind => ?announce, fun kind => ?bell, fun kind => ?night, fun kind => ?mask, fun kind => ?sweep,
      fun kind => ?park, fun late => takeStep_late late, fun prompt => takeStep_executes ?prompt⟩
    case announce =>
      have ran := executeStep_announce (close := close) kind
      have keeps : Keeps speechParts s t := by
        rw [(became ran).1]
        exact enterQueue_only s _
      exact ⟨keeps.parts, announce_enters ran, announce_dropped ran, fun last full general =>
        (became ran).1 ▸ enterQueue_displaces full rfl general⟩
    case bell =>
      have ran := executeStep_bell (close := close) kind
      have keeps : Keeps callParts s t := (became ran).1 ▸ bell_only s i _
      exact ⟨keeps.parts, bell_enters ran⟩
    case night =>
      have ran := executeStep_nightClose (close := close) kind
      have keeps : Keeps chainParts s t := (became ran).1 ▸ nightClose_only s _
      exact ⟨onlyParts_widen keeps.parts, (became ran).2, fun lasts k hk sent => (nightClose_sends ran hk sent).1 lasts,
        fun k hk sent => (nightClose_sends ran hk sent).2⟩
    case mask =>
      have ran := executeStep_mask (close := close) kind
      have keeps : Keeps maskParts s t := (became ran).1 ▸ maskStep_only s _
      refine ⟨keeps.parts, (became ran).2, fun c hc mem => ⟨fun idle => ?_, (maskStep_sets ran hc mem).2⟩,
        fun c => maskStep_other ran⟩
      have ⟨mask, pending, notice⟩ := (maskStep_sets ran hc mem).1 idle
      exact ⟨mask, pending, notice⟩
    case sweep =>
      have answered {u : Live} {b : Bool} (request : s.requestSweep = (u, b)) :
          t = u ∧ taken = if b then .executed (.chain u.chain.state) else .skipped (.chain u.chain.state) :=
        became (by rw [executeStep_sweep kind, request])
      have keeps : Keeps chainParts s t := (became (executeStep_sweep kind)).1 ▸ requestSweep_only s
      clear_value t taken
      intro loops links starts takes sounds
      refine ⟨onlyParts_widen keeps.parts, fun running none_ => ⟨fun fresh => ?_, fun sweeps => ?_⟩, fun parked conditions => ?_,
        fun warning => ?_, fun turnedAway => ?_⟩
      · obtain ⟨rfl, rfl⟩ := answered (requestSweep_begins running none_ fresh)
        exact ⟨⟨rfl, rfl⟩, fun g => beginSweep_gongs s _⟩
      · obtain ⟨rfl, rfl⟩ := answered (requestSweep_renews running none_ sweeps)
        exact ⟨⟨rfl, rfl⟩, rfl⟩
      · obtain ⟨rfl, rfl⟩ := answered (requestSweep_starts parked (startRefusal_eq_none.mpr conditions))
        have chain := enterWarning_chain s (some loops)
        exact ⟨⟨by rw [chain], by rw [chain]; rfl⟩, fun g => enterWarning_gongs s _,
          enterWarning_offered _ (by rw [parked]; exact nofun)⟩
      · obtain ⟨rfl, rfl⟩ := answered (requestSweep_carried warning)
        exact ⟨⟨rfl, rfl⟩, rfl⟩
      · have request : s.requestSweep = (s, false) := by
          rcases turnedAway with deferred | ⟨parked, refused⟩ | rest
          · exact requestSweep_turnedAway (.inl deferred)
          · exact requestSweep_refused parked (mt startRefusal_eq_none.mp refused)
          · exact requestSweep_turnedAway (.inr rest)
        exact answered request
    case park =>
      have answered {u : Live} {b : Bool} (request : s.requestPark = (u, b)) :
          t = u ∧ taken = if b then .executed (.chain u.chain.state) else .skipped (.chain u.chain.state) :=
        became (by rw [executeStep_park kind, request])
      have keeps : Keeps chainParts s t := (became (executeStep_park kind)).1 ▸ requestPark_only s
      clear_value t taken
      intro r gongsStop
      refine ⟨onlyParts_widen keeps.parts, fun running none_ => ?_, fun parked => answered (requestPark_parked parked) |>.imp_right ?_,
        fun turnedAway => ?_⟩
      · obtain ⟨rfl, rfl⟩ := answered (requestPark_stops running none_)
        refine ⟨fun valid => ?_, fun notValid => ?_⟩
        · have items := endSweep_placeStop_items s .park
          have phase := endSweep_placeStop_phase s .park
          rw [← requestStop_valid _ valid] at items phase
          obtain ⟨stop, sweep, -, gongTimer, gongsOn⟩ := items
          refine ⟨⟨sweep, fun sweeps => ?_⟩, stop, rfl, phase⟩
          rw [gongTimer, gongsOn]
          exact unswept_gongs sweeps
        · obtain ⟨chain, posted⟩ := requestStop_defers (c := .park) notValid none_
          have runs : (s.requestStop .park).chain.state = .running := by rw [chain]; exact running
          refine ⟨⟨by rw [chain]; rfl, fun sweeps => ?_⟩, by rw [chain], runs, by rw [chain]; rfl, posted, ?_⟩
          · rw [chain]
            exact unswept_gongs sweeps
          · exact congrArg (fun x => Taken.executed (.chain x)) runs
      · rw [parked]
        exact id
      · have request : s.requestPark = (s, false) := by
          rcases turnedAway with deferred | warning | rest
          · exact requestPark_turnedAway (.inl deferred)
          · exact requestPark_warning warning
          · exact requestPark_turnedAway (.inr rest)
        exact answered request
    case prompt =>
      rintro ⟨late, announces⟩
      rcases prompt with inTime | ⟨announce, bell⟩
      · exact Int.not_lt.mpr inTime late
      · exact announces.elim announce bell
  · refine ⟨fun close takes suspended instant pointer due => ?_, fun n takes least most idle first due => ?_⟩
    · obtain ⟨t, ran, replied, caught⟩ := closingResume_catchesUp hi alarm takes suspended instant pointer due
      exact ⟨t, ran, replied, caught.late, caught.prompt⟩
    · obtain ⟨t, ran, replied, caught⟩ := closingBegin_catchesUp hi alarm takes least most idle first due
      exact ⟨t, ran, replied, caught.late, caught.prompt⟩
  · refine ⟨suspendClosing_stands_unless, fun running => ?_⟩
    have ⟨closing, calls, queue, notice, keeps⟩ := suspendClosing_suspends running
    exact ⟨closing, calls, queue, notice, keeps.parts⟩

end Sys2Proof.Machine

/-! # O10: while a zone is in ALARM the closing programme does not run

Two blocks can break the invariant: the Zone Monitor, which suspends the programme as a zone latches (R79, R92), and the
Closing Sequencer, which begins and resumes no programme while a zone is in ALARM (R171). Every other operation leaves the
zones and the programme's record. -/

namespace Sys2Proof.Machine

-- one thread: a proof that waits for the theorems before it would hold a thread of its own
set_option Elab.async false

/-! ## Operations that keep the programme stopped -/

/-- The programme, barred from running while a zone is in ALARM (R79, R171), stays barred. -/
def Barred (s t : Live) : Prop := AlarmStopsProgramme s → AlarmStopsProgramme t

theorem barred_composes : Composes Barred := ⟨fun _ => id, fun h g => g ∘ h⟩

theorem barred_refl (s : Live) : Barred s s := id

theorem Barred.trans {s t u : Live} (h : Barred s t) (g : Barred t u) : Barred s u := g ∘ h

theorem barred_ite {s t u : Live} {c : Prop} [Decidable c] (ht : Barred s t) (hu : Barred s u) :
    Barred s (if c then t else u) := ChainRule.either ht hu

/-- No zone enters ALARM and no programme begins to run. -/
theorem barred_of_none {s t : Live} (alarms : ∀ z, t.inAlarm z = true → s.inAlarm z = true)
    (runs : t.closing.state = .running → s.closing.state = .running) : Barred s t :=
  fun stopped z alarm running => stopped z (alarms z alarm) (runs running)

theorem barred_of_same {s t : Live} (zones : t.zones = s.zones) (closing : t.closing = s.closing) :
    Barred s t :=
  barred_of_none (fun z => by rw [inAlarm_of_zones zones]; exact id) (by rw [closing]; exact id)

/-- The programme does not run. -/
theorem barred_of_stopped {s t : Live} (stopped : t.closing.state ≠ .running) : Barred s t :=
  fun _ _ _ => stopped

theorem barred_of_noAlarm {s t : Live} (none_ : ∀ z, t.inAlarm z = false) : Barred s t :=
  fun _ z alarm => absurd alarm (by simp [none_])

theorem onlyParts.barred {ps : List Part} {s t : Live} (h : onlyParts ps s t) (hz : .zones ∉ ps := by decide)
    (hc : .closing ∉ ps := by decide) : Barred s t := barred_of_same (h .zones hz) (h .closing hc)

/-- An operation whose frame holds neither the zones nor the programme. -/
theorem Keeps.barred {ps : List Part} {s t : Live} (h : Keeps ps s t) (hz : .zones ∉ ps := by decide)
    (hc : .closing ∉ ps := by decide) : Barred s t := h.parts.barred hz hc

theorem Barred.next {ps : List Part} {s t u : Live} (h : Barred s t) (g : Keeps ps t u)
    (hz : .zones ∉ ps := by decide) (hc : .closing ∉ ps := by decide) : Barred s u := h.trans (g.barred hz hc)

theorem Barred.after {s t u : Live} (h : Barred t u) (zones : t.zones = s.zones)
    (closing : t.closing = s.closing) : Barred s u := (barred_of_same zones closing).trans h

/-! ## The Zone Monitor (R77 to R86) -/

theorem inAlarm_withZone {s : Live} {z y : Nat} {r : ZoneRecord} (alarm : (s.withZone z r).inAlarm y = true) :
    z = y ∧ r.state = .alarm ∨ s.inAlarm y = true := by
  rcases Bank.read_put_cases s.zones z y (.start false) r with stands | ⟨own, put⟩
  · exact .inr (by rwa [Live.inAlarm, Live.zone, Live.withZone_zones, stands] at alarm)
  · rw [Live.inAlarm, Live.zone, Live.withZone_zones, put] at alarm
    exact .inl ⟨own, by simpa using alarm⟩

/-- A zone that is not in ALARM does not enter it. -/
theorem withZone_barred {s : Live} {z : Nat} {r : ZoneRecord} (stays : r.state = .alarm → s.inAlarm z = true) :
    Barred s (s.withZone z r) :=
  barred_of_none (fun y alarm => by
    rcases inAlarm_withZone alarm with ⟨rfl, alarmed⟩ | stood
    · exact stays alarmed
    · exact stood) id

theorem setZone_barred {s : Live} {z : Nat} {r : ZoneRecord} (stays : r.state = .alarm → s.inAlarm z = true) :
    Barred s (s.setZone z r) := (withZone_barred stays).next (post_only _ _)

theorem lineCondition_quiet (s : Live) (z : Nat) : s.lineCondition z ≠ .alarm := by
  rcases lineCondition_cases s z with fault | normal
  · rw [fault]; nofun
  · rw [normal]; nofun

theorem suspendClosing_stopped (s : Live) : s.suspendClosing.closing.state ≠ .running := by
  by_cases running : s.closing.state = .running
  · rw [(suspendClosing_suspends running).closing]
    nofun
  · rwa [suspendClosing_stands_unless running]

/-- The contribution issued and, at an entry into ALARM, the programme suspended (R88, R92). -/
def Live.alarmIssued (s : Live) (z : Nat) (entered : Bool) : Live :=
  if entered then (s.issueAlarm z).suspendClosing else s.issueAlarm z

theorem handAlarm_eq (s : Live) (before : Demand) (z : Nat) (entered : Bool) :
    s.handAlarm before z entered = ((s.alarmIssued z entered).handCircuits before.circuits).handSpeech before := rfl

/-- What is handed on after the contribution is no part of the programme (R90, R91). -/
theorem handAlarm_closing (s : Live) (before : Demand) (z : Nat) (entered : Bool) :
    (s.handAlarm before z entered).closing = (s.alarmIssued z entered).closing := by
  rw [handAlarm_eq]
  exact ((handSpeech_only _ _).parts .closing (by decide)).trans ((handCircuits_only _ _).parts .closing (by decide))

/-- R92: after a zone has latched no programme runs. -/
theorem latch_stopped (s : Live) (z d : Nat) : (s.latch z d).closing.state ≠ .running := by
  rw [latch_eq, handAlarm_closing]
  exact suspendClosing_stopped _

theorem latch_barred (s : Live) (z d : Nat) : Barred s (s.latch z d) :=
  barred_of_stopped (latch_stopped s z d)

/-- A re-sounding hands the demand on and leaves the programme (R80, R92). -/
theorem resounded_barred (s : Live) (before : Demand) (z : Nat) : Barred s (s.handAlarm before z false) :=
  barred_of_same (handAlarm_zones s before z false)
    ((handAlarm_closing s before z false).trans ((issueAlarm_only s z).parts .closing (by decide)))

theorem handDemand_barred (s : Live) (before : Demand) : Barred s (s.handDemand before) :=
  have handed : Barred s
      (({ s with gear := { s.gear with fireSet := s.demand.shutters } } : Live).handCircuits before.circuits) :=
    (handCircuits_only _ _).barred.after rfl rfl
  handed.next (handSpeech_only _ before)

theorem resound_barred (s : Live) (z d : Nat) : Barred s (s.resound z d) := by
  have posted : Barred s (s.post (.zoneAlarm z d)) := (post_only s _).barred
  refine barred_ite (posted.trans ((setZone_barred fun alarm => ?_).trans (resounded_barred _ _ z))) posted
  simpa [Live.inAlarm] using alarm

theorem takeLine_barred (s : Live) (z : Nat) : Barred s (s.takeLine z) :=
  barred_ite (barred_refl s) (setZone_barred fun alarm => absurd alarm (lineCondition_quiet s z))

theorem detectorChange_barred (s : Live) (d : Nat) : Barred s (s.detectorChange d) := by
  unfold Live.detectorChange
  split
  · exact barred_refl s
  · split
    case h_4 => exact barred_refl s
    case h_3 => exact barred_ite (resound_barred s _ _) (barred_refl s)
    case h_1 | h_2 => exact barred_ite (latch_barred s _ _) (takeLine_barred s _)

theorem restoreZone_barred (s : Live) (z : Nat) : Barred s (s.restoreZone z) := by
  unfold Live.restoreZone
  split
  · exact latch_barred s z _
  · exact setZone_barred fun alarm => absurd alarm (lineCondition_quiet s z)

theorem silenceZone_barred {s : Live} {z : Nat} (alarm : (s.zone z).state = .alarm) :
    Barred s (s.silenceZone z) := by
  have silenced : Barred s (s.setZone z { s.zone z with silenced := true }) :=
    setZone_barred fun _ => by rw [Live.inAlarm, alarm]; rfl
  exact barred_ite (barred_refl s) (silenced.trans (handDemand_barred _ _))

theorem resetZone_barred (s : Live) (z : Nat) : Barred s (s.resetZone z) :=
  (setZone_barred fun alarm => absurd alarm (lineCondition_quiet s z)).trans (handDemand_barred _ _)

/-! ## The Closing Sequencer (R171) -/

theorem takeDue_unlessRunning {s : Live} (other : s.closing.state ≠ .running) (b : Bool) (fuel : Nat) :
    s.takeDue b fuel = s := by
  cases fuel with
  | zero => rfl
  | succ n =>
    unfold Live.takeDue
    split
    case h_3 => rfl
    all_goals exact absurd ‹s.closing.state = .running› other

/-- The steps that are due touch no zone, and none is taken unless the programme runs (R172). -/
theorem takeDue_barred (s : Live) (b : Bool) (fuel : Nat) : Barred s (s.takeDue b fuel) := by
  refine barred_of_none (fun z => ?_) fun running => ?_
  · rw [inAlarm_of_zones ((takeDue_only b fuel s).parts .zones (by decide))]
    exact id
  · by_contra other
    rw [takeDue_unlessRunning other] at running
    exact other running

theorem noAlarm_of_lowestAlarm {s : Live} (none_ : s.lowestAlarm = none) (z : Nat) : s.inAlarm z = false := by
  by_cases hz : z < 16
  · simpa using List.find?_eq_none.mp none_ z (List.mem_range.mpr hz)
  · exact inAlarm_beyond s (Nat.le_of_not_lt hz)

/-- A programme begins, or is resumed, while no zone is in ALARM (R178, R183). -/
theorem catchUp_barred {s : Live} (none_ : s.lowestAlarm = none) (c : Closing) (why : ProgrammeReason) :
    Barred s (((s.withClosing c).postProgramme why).takeDue true stepFuel) :=
  barred_of_noAlarm fun z => by
    rw [inAlarm_of_zones ((catchUp_only s c why).parts .zones (by decide))]
    exact noAlarm_of_lowestAlarm none_ z

theorem closingBegin_barred (n : Nat) (s : Live) : Barred s (closingBegin n s).1 := by
  unfold closingBegin
  extract_lets marks
  split_ifs
  · exact barred_refl s
  · exact barred_refl s
  · exact (free_only s _).barred
  · split
    · exact barred_refl s
    · next none_ => exact catchUp_barred none_ _ _

theorem closingResume_barred (s : Live) : Barred s (closingResume s).1 := by
  unfold closingResume
  split
  · split
    · exact barred_refl s
    · next none_ => exact catchUp_barred none_ _ _
  all_goals exact (free_only s _).barred

theorem closingPostpone_barred (n : Nat) (s : Live) : Barred s (closingPostpone n s).1 := by
  unfold closingPostpone
  split_ifs
  · exact barred_refl s
  · split
    · split
      · exact barred_refl s
      · exact barred_of_none (fun _ => id) id
    · exact (free_only s _).barred

theorem closingAbort_barred (s : Live) : Barred s (closingAbort s).1 := by
  unfold closingAbort
  split
  · exact (free_only s _).barred
  all_goals
    have idle : Barred s
        (s.withClosing { s.closing with state := .idle, closeInstant := none, pointer := none }) :=
      barred_of_stopped nofun
    exact (((idle.next (withdrawCalls_only _)).next (withdrawSpeech_only _)).next (clearSweep_only _)).next
      (postProgramme_only _ _)

/-! ## The scan -/

/-- A change of the field loop's own record. -/
theorem loop_barred (s : Live) (l : FieldLoop) : Barred s { s with loop := l } := barred_of_same rfl rfl

theorem sampleDetector_barred (d : Nat) (x : LineState) (s : Live) : Barred s (sampleDetector d x s) :=
  barred_ite (loop_barred s _) ((detectorChange_barred _ d).after rfl rfl)

theorem debouncePush_barred (p : Nat) (x : PushState) (s : Live) : Barred s (debouncePush p x s) :=
  barred_ite (loop_barred s _) ((pushChange_only _ p _ _).barred.after rfl rfl)

theorem firstAfterBlanking_barred (p : Nat) (x : PushState) (s : Live) :
    Barred s (firstAfterBlanking p x s) :=
  barred_ite ((pushChange_only _ p _ _).barred.after rfl rfl) (debouncePush_barred p x s)

theorem samplePush_barred (p : Nat) (b : Option Nat) (x : PushState) (s : Live) :
    Barred s (samplePush p b x s) := by
  unfold samplePush
  split
  · exact debouncePush_barred p x s
  · exact firstAfterBlanking_barred p x s
  · exact barred_refl s

theorem sampleEdge_barred (k : Nat) (x : Bool) (s : Live) : Barred s (sampleEdge k x s) :=
  barred_ite ((edgeAsserted_only _ k).barred.after rfl rfl) (loop_barred s _)

theorem sampleGear_barred (k : Nat) (b : Bool) (x : ShutterSample) (s : Live) :
    Barred s (sampleGear k b x s) := by
  have up : Barred s (sampleUp k x.up s) :=
    barred_ite (loop_barred s _) ((limitChange_only _ k .up).barred.after rfl rfl)
  have down (t : Live) : Barred t (sampleDown k x.down t) :=
    barred_ite (loop_barred t _) ((limitChange_only _ k .down).barred.after rfl rfl)
  have limits := up.trans (down _)
  exact barred_ite limits (limits.trans (sampleEdge_barred k x.edge _))

theorem sampleReady_barred (ch : Nat) (x : Bool) (s : Live) : Barred s (sampleReady ch x s) :=
  barred_ite (loop_barred s _) ((readyChange_only _ ch _).barred.after rfl rfl)

theorem eachPoint_barred {α : Type} (f : Nat → α → Live → Live) (h : ∀ i x s, Barred s (f i x s)) (n : Nat)
    (l : List α) (s : Live) : Barred s (eachPoint f n l s) :=
  eachPoint_rel barred_refl Barred.trans f n l s fun i x s _ => h (n + i) x s

theorem takeReply_barred (s : Live) (first : Nat) (r : ModuleReply) : Barred s (s.takeReply first r) := by
  cases r with
  | detector xs => exact eachPoint_barred _ (fun i x s => sampleDetector_barred _ x s) 0 xs s
  | call xs =>
    exact (eachPoint_barred _ (fun _ _ s => loop_barred s _) 0 xs s).trans
      (eachPoint_barred _ (fun i (x : Option Nat × PushState) s => samplePush_barred _ x.1 x.2 s) 0 _ _)
  | shutter xs =>
    exact (eachPoint_barred _ (fun _ _ s => loop_barred s _) 0 xs s).trans
      (eachPoint_barred _ (fun i (x : Bool × ShutterSample) s => sampleGear_barred _ x.1 x.2 s) 0 _ _)
  | audio xs => exact eachPoint_barred _ (fun i x s => sampleReady_barred _ x s) 0 xs s
  | bell | other code => exact barred_refl s

theorem losePoint_barred (s : Live) (k : ModuleKind) (i : Nat) : Barred s (s.losePoint k i) := by
  cases k with
  | detector => exact barred_ite (loop_barred s _) ((detectorChange_barred _ i).after rfl rfl)
  | shutter => exact (shutterModuleLost_only _ i).barred.after rfl rfl
  | call | audio | bell | other code => exact barred_of_same rfl rfl

theorem missReply_barred (s : Live) (pos : Nat) (m : ModuleRecord) : Barred s (s.missReply pos m) := by
  have pass : Barred s (s.passBlanking m) := by
    unfold Live.passBlanking
    split
    · exact barred_composes.foldl _ (fun t p => loop_barred t _) _ s
    · exact barred_composes.foldl _ (fun t p => loop_barred t _) _ s
    · exact barred_refl s
  have lose (t : Live) : Barred t (t.loseModule pos m) :=
    (barred_composes.foldl _ (fun u i => losePoint_barred u _ i) _ _).after rfl rfl
  exact barred_ite (barred_ite (pass.trans (lose _)) (pass.trans (loop_barred _ _))) pass

theorem heedReply_barred (s : Live) (pos : Nat) (m : ModuleRecord) (r : ModuleReply) :
    Barred s (s.heedReply pos m r) := by
  unfold Live.heedReply
  extract_lets t
  have found : Barred s t := (loop_barred s _).next (postIf_only _ _ _)
  split
  · exact found.trans (takeReply_barred _ _ _)
  · exact found

theorem scanModule_barred (s : Live) (pos : Nat) (r : Option ModuleReply) :
    Barred s (s.scanModule pos r) := by
  unfold Live.scanModule
  dsimp only
  split
  · exact barred_refl s
  · split
    · exact (missReply_barred _ pos _).after rfl rfl
    · exact (heedReply_barred _ pos _ _).after rfl rfl

theorem scanPins_barred (s : Live) (p : PinSample) : Barred s (s.scanPins p) := by
  have flap (b x : Bool) (t : Live) : Barred t (sampleFlap b x t) :=
    barred_ite (loop_barred t _) ((flapChange_only _ _ _).barred.after rfl rfl)
  have slow (x : Bool) (t : Live) : Barred t (sampleSlow x t) :=
    barred_ite (loop_barred t _) ((slowChange_only _ _).barred.after rfl rfl)
  exact ((flap false p.flapTop s).trans (flap true p.flapBottom _)).trans (slow p.slow _)

theorem scanStep_barred (m : List Host.Cell) (i : ScanInput) (s : Live) : Barred s (scanStep m i s) := by
  have passed : Barred s (s.advance m) := barred_of_same rfl rfl
  exact (passed.trans (barred_composes.foldl _ (fun t pos => scanModule_barred t pos _) _ _)).trans
    (scanPins_barred _ _)

/-! ## The handlers of the requests -/

theorem onZone_barred {h : Live → Handled} (hh : ∀ s, Barred s (h s).1) (z : Nat) (s : Live) :
    Barred s (onZone z h s).1 := by
  unfold onZone
  split_ifs
  · exact barred_refl s
  · exact hh s
  · exact barred_refl s

theorem onShutter_barred {h : Live → Handled} (hh : ∀ s, Barred s (h s).1) (k : Nat) (s : Live) :
    Barred s (onShutter k h s).1 := by
  unfold onShutter
  split_ifs
  · exact barred_refl s
  · exact hh s
  · exact barred_refl s

theorem onRowCode_barred {h : Live → Handled} (hh : ∀ s, Barred s (h s).1) (code : RowCode) (s : Live) :
    Barred s (onRowCode h code s).1 := by
  cases code with
  | named => exact hh s
  | unnamed => exact barred_refl s

theorem zoneIsolate_barred (z : Nat) (s : Live) : Barred s (zoneIsolate z s).1 := by
  unfold zoneIsolate
  split
  case h_1 | h_2 => exact setZone_barred nofun
  all_goals exact barred_refl s

theorem zoneRestore_barred (z : Nat) (s : Live) : Barred s (zoneRestore z s).1 := by
  unfold zoneRestore
  split
  · exact restoreZone_barred s z
  all_goals exact barred_refl s

theorem zoneSilence_barred (z : Nat) (s : Live) : Barred s (zoneSilence z s).1 := by
  unfold zoneSilence
  split
  · next alarm => exact silenceZone_barred alarm
  all_goals exact barred_refl s

theorem zoneReset_barred (z : Nat) (s : Live) : Barred s (zoneReset z s).1 := by
  unfold zoneReset
  split
  · split
    · exact barred_refl s
    · exact resetZone_barred s z
  all_goals exact barred_refl s

theorem shutterLower_barred (k : Nat) (s : Live) : Barred s (shutterLower k s).1 := by
  unfold shutterLower
  split
  · exact (free_only s _).barred
  · exact (closeByState_only s k _).barred

theorem shutterRaise_barred (k : Nat) (s : Live) : Barred s (shutterRaise k s).1 := by
  unfold shutterRaise
  split_ifs
  case neg => exact (raiseShutter_only s k).barred
  all_goals exact (free_only s _).barred

theorem shutterHalt_barred (k : Nat) (s : Live) : Barred s (shutterHalt k s).1 := by
  have halts : Barred s (s.haltShutter k) := (haltShutter_only s k).barred
  have busy (r : BusyReason) : Barred s (busyFree s r).1 := (free_only s _).barred
  unfold shutterHalt
  split
  case h_5 => exact halts
  case h_6 => exact barred_refl s
  case h_1 | h_2 | h_3 | h_4 =>
    split
    · exact busy _
    · exact halts
  all_goals exact busy _

theorem chainStart_barred (s : Live) : Barred s (chainStart s).1 := by
  unfold chainStart
  split
  · split
    · exact barred_refl s
    · exact (enterWarning_only s none).barred
  · exact barred_refl s

theorem inspectOn_barred (s : Live) : Barred s (inspectOn s).1 := by
  unfold inspectOn
  split
  · split
    · exact barred_refl s
    · exact (enterChain_only s _).barred
  · exact barred_refl s

theorem inspectOff_barred (s : Live) : Barred s (inspectOff s).1 := by
  unfold inspectOff
  split
  · exact (enterChain_only s _).barred
  all_goals exact barred_refl s

theorem chainStep_barred (n : Nat) (s : Live) : Barred s (chainStep n s).1 := by
  unfold chainStep
  split_ifs
  · exact barred_refl s
  · split
    · exact barred_refl s
    · exact (beginStep_only s n).barred
  · exact barred_refl s

theorem callPlace_barred (f : CallPlaceFields) (s : Live) : Barred s (callPlace f s).1 := by
  unfold callPlace
  split_ifs
  · exact barred_refl s
  · exact barred_refl s
  · split
    · exact (replacePlaced_only s _ f).barred
    · dsimp only
      split_ifs <;> exact (join_only s _).barred

theorem callClear_barred (f : Option CallKey) (s : Live) : Barred s (callClear f s).1 := by
  unfold callClear
  split
  · exact barred_refl s
  · split_ifs
    · exact barred_refl s
    · split
      · exact barred_refl s
      · split_ifs
        · exact (free_only s _).barred
        · exact (removeCall_only s _ _).barred

theorem callMask_barred (f : CallMaskFields) (s : Live) : Barred s (callMask f s).1 := by
  unfold callMask
  split_ifs
  · exact barred_refl s
  · exact (setMask_only s _ _).barred
  · exact barred_refl s

theorem speak_barred (p : Port) (f : SpeakFields) (s : Live) : Barred s (speak p f s).1 := by
  unfold speak
  split_ifs
  case neg =>
    extract_lets r e
    have entered : Barred s e.1 := (enterQueue_only s r).barred
    split <;> exact entered
  all_goals exact barred_refl s

theorem speakCancel_barred (p : Port) (tag : Nat) (s : Live) : Barred s (speakCancel p tag s).1 := by
  unfold speakCancel
  split_ifs
  · exact barred_refl s
  · exact (free_only s _).barred
  · split
    · split_ifs
      · exact barred_refl s
      · exact ((unqueue_only s tag).barred.next (post_only _ _)).next (grants_only _)
    · split
      · split_ifs
        · exact barred_refl s
        · exact (stopPlay_only s _ _).barred.next (grants_only _)
      · exact barred_refl s

theorem withPort_barred (s : Live) (p : Port) (r : PortRecord) : Barred s (s.withPort p r) := by
  cases p <;> exact barred_of_same rfl rfl

theorem noticeFetch_barred (p : Port) (s : Live) : Barred s (noticeFetch p s).1 := by
  unfold noticeFetch
  dsimp only
  split
  · exact barred_refl s
  · exact withPort_barred s p _

theorem planOpen_barred (f : PlanOpenFields) (s : Live) : Barred s (planOpen f s).1 := by
  unfold planOpen
  split
  · exact barred_refl s
  · split <;> exact barred_of_same rfl rfl

theorem planEntry_barred (f : EntryFrame) (s : Live) : Barred s (planEntry f s).1 := by
  unfold planEntry
  split
  · split
    · exact barred_refl s
    · split <;> exact barred_of_same rfl rfl
  · exact barred_refl s

theorem sampleOpen_barred (ph : Nat) (s : Live) : Barred s (sampleOpen ph s).1 := by
  unfold sampleOpen
  split
  · exact barred_refl s
  · extract_lets e
    split <;> exact barred_of_same rfl rfl

theorem sampleData_barred (bytes : List Byte) (s : Live) : Barred s (sampleData bytes s).1 := by
  unfold sampleData
  split
  · split <;> exact barred_of_same rfl rfl
  · exact (free_only s _).barred

theorem wearReadClear_barred (p : Port) (s : Live) : Barred s (wearReadClear p s).1 := by
  unfold wearReadClear
  split <;> exact barred_of_same rfl rfl

/-- A plan is adopted while no programme runs, and the zones that latch at it suspend none (R28, R95). -/
theorem planAdopt_barred (s : Live) : Barred s (planAdopt s).1 := by
  cases failed : s.store.pending.firstFailure s.loop with
  | some f => rw [planAdopt_planCheck failed]; exact barred_refl s
  | none =>
    by_cases empty : s.store.pending.residues = []
    · rw [planAdopt_noParkResidue failed empty]; exact barred_refl s
    · cases disquiet : s.disquiet with
      | some q => rw [planAdopt_notQuiescent failed empty disquiet]; exact barred_refl s
      | none =>
        rw [planAdopt_adopts failed empty disquiet]
        refine barred_of_stopped ?_
        rw [(adopt_since disquiet _).closing, adoptBare_closing, (disquiet_none disquiet).1]
        nofun

/-! ## Every command -/

theorem breakLoad_barred (s : Live) (p : Port) (b : Cursor → Bool) : Barred s (s.breakLoad p b) :=
  (breakLoad_only s p b).barred

/-- A request keeps the programme stopped where its handler does. -/
theorem takeRequest_barred (p : Port) (k : Kind) (b : Cursor → Bool) (fit : Bool) {h : Live → Handled}
    (hh : ∀ s, Barred s (h s).1) (s : Live) : Barred s (takeRequest p k b fit h s) := by
  have replied (t : Live) (r : PortRecord) : Barred t (t.withPort p r) := withPort_barred t p r
  unfold takeRequest
  refine barred_ite ?_ (barred_refl s)
  extract_lets t
  refine ((replied s _).trans (breakLoad_barred _ p b)).trans
    (barred_ite (replied _ _) (barred_ite (replied _ _) ?_))
  unfold Live.putHandled
  split
  · exact (hh t).trans (replied _ _)
  · exact hh t

section
variable {α : Type} {h : α → Live → Handled}

theorem onBody_barred (body : Body α) (hh : ∀ a s, Barred s (h a s).1) (s : Live) :
    Barred s (onBody body h s).1 := by
  cases body with
  | fits a => exact hh a s
  | misfit => exact barred_refl s

theorem breakingRequest_barred (p : Port) (k : Kind) (body : Body α) (hh : ∀ a s, Barred s (h a s).1)
    (s : Live) : Barred s (breakingRequest p k body h s) :=
  takeRequest_barred p k _ _ (onBody_barred body hh) s

end

theorem whenOn_barred {s t : State} {out : Out} (hout : out = .next t → Barred s.live t.live)
    (h : whenOn s out = .next t) : Barred s.live t.live := by
  unfold whenOn at h
  split at h
  · exact hout h
  · cases h
    exact barred_refl _

theorem onLive_barred {s t : State} {f : Live → Live} (hf : ∀ l, Barred l (f l))
    (h : onLive s f = .next t) : Barred s.live t.live :=
  whenOn_barred (fun hn => by cases hn; exact hf _) h

/-- A row that touches neither the zones nor the programme. -/
theorem onLive_beside {ps : List Part} {s t : State} {f : Live → Live} (hf : ∀ l, Keeps ps l (f l))
    (h : onLive s f = .next t) (hz : .zones ∉ ps := by decide) (hc : .closing ∉ ps := by decide) :
    Barred s.live t.live := onLive_barred (fun l => (hf l).barred hz hc) h

/-- Such a row that acts only where it is due. -/
theorem onLive_besideWhenDue {ps : List Part} {s t : State} {f : Live → Live} (due : Live → Bool)
    (hf : ∀ l, Keeps ps l (f l)) (h : onLive s (fun l => if due l then f l else l) = .next t)
    (hz : .zones ∉ ps := by decide) (hc : .closing ∉ ps := by decide) : Barred s.live t.live :=
  onLive_barred (fun l => barred_ite ((hf l).barred hz hc) (barred_refl l)) h

theorem writeSamples_barred (s : State) (n : Nat) : Barred s.live (s.writeSamples n).live :=
  (writeSamples_frame s n).1.barred

theorem execScan_barred {s t : State} {i : ScanInput} (h : execScan i s = .next t) : Barred s.live t.live :=
  whenOn_barred (fun hn => by
    split at hn <;> cases hn
    exact (writeSamples_barred s i.bytesWritten).trans (scanStep_barred _ i _)) h

theorem execSampleWriteDone_barred {s t : State} (h : execSampleWriteDone s = .next t) :
    Barred s.live t.live := by
  have replied (l : Live) : Barred l (sampleDoneReply l) := by
    unfold sampleDoneReply
    split
    · exact (withPort_barred _ _ _).after rfl rfl
    · exact barred_refl l
  refine whenOn_barred (fun hn => ?_) h
  split at hn
  · cases hn; exact barred_refl _
  · next bytes _ =>
    split at hn <;> cases hn
    exact (writeSamples_barred s bytes.length).trans (replied _)

theorem execPowerLoss_barred {s t : State} (torn : Bool) (h : execPowerLoss torn s = .next t) :
    Barred s.live t.live := by
  unfold execPowerLoss at h
  split at h <;> cases h
  · exact barred_refl _
  · exact barred_of_same rfl rfl

theorem execWearWrite_barred {s t : State} (h : execWearWrite s = .next t) : Barred s.live t.live :=
  whenOn_barred (fun hn => by split at hn <;> cases hn <;> exact barred_of_same rfl rfl) h

theorem execPhraseEnd_barred {s t : State} (pl : Player) (h : execPhraseEnd pl s = .next t) :
    Barred s.live t.live :=
  whenOn_barred (fun hn => by
    split at hn <;> cases hn
    exact (phraseEndStep_only _ pl _).barred) h

theorem execStoreWriteDone_barred {s t : State} (matched : Bool) (h : execStoreWriteDone matched s = .next t) :
    Barred s.live t.live :=
  whenOn_barred (fun hn => by
    split at hn <;> cases hn
    · exact (storeDoneStep_only matched s.live).barred
    · exact barred_refl _) h

theorem execPlanAdopt_barred {s t : State} (p : Port) (body : Body Unit) (h : execPlanAdopt p body s = .next t) :
    Barred s.live t.live := by
  rcases (execPlanAdopt_live h).1 with stands | taken
  · rw [stands]
    exact barred_refl _
  · rw [taken]
    exact breakingRequest_barred p _ body (fun _ => planAdopt_barred) _

/-- After a restart the programme is IDLE (R185). -/
theorem warmRestart_barred (s : Live) : Barred s s.warmRestart :=
  barred_of_stopped (by rw [warmRestart_closing]; nofun)

theorem execColdStart_barred {s t : State} (i : ColdStart) (h : execColdStart i s = .next t) :
    Barred s.live t.live :=
  barred_of_stopped (by rw [(execColdStart_next h).1, coldStartLive_closing]; nofun)

theorem pushBlankingEndStep_barred (p : Nat) (x : PushState) (s : Live) :
    Barred s (pushBlankingEndStep p x s) :=
  barred_ite ((firstAfterBlanking_barred p x _).after rfl rfl) (barred_refl s)

theorem edgeBlankingEndStep_barred (k : Nat) (x : Bool) (s : Live) :
    Barred s (edgeBlankingEndStep k x s) :=
  barred_ite ((sampleEdge_barred k x _).after rfl rfl) (barred_refl s)

/-! ### The byte stream -/

theorem frameByteStep_barred (p : Port) (b : Byte) (s : Live) : Barred s (frameByteStep p b s) :=
  barred_ite (withPort_barred s p _) (barred_refl s)

theorem frameGapStep_barred (p : Port) (s : Live) : Barred s (frameGapStep p s) := by
  unfold frameGapStep
  split
  · exact barred_ite (withPort_barred s p _) (barred_refl s)
  · exact barred_refl s

theorem frameDiscardStep_barred (p : Port) (s : Live) : Barred s (frameDiscardStep p s) := by
  unfold frameDiscardStep
  split
  · exact barred_ite (withPort_barred s p _) (barred_refl s)
  · exact barred_refl s

theorem replySentStep_barred (p : Port) (s : Live) : Barred s (replySentStep p s) :=
  barred_ite (withPort_barred s p _) (barred_refl s)

theorem unknownKindStep_barred (p : Port) (code : Byte) (s : Live) :
    Barred s (unknownKindStep p code s) :=
  barred_ite
    (((withPort_barred s p _).trans (breakLoad_barred _ p _)).trans (withPort_barred _ _ _))
    (barred_refl s)

theorem secondsTickStep_barred (s : Live) : Barred s (secondsTickStep s) :=
  barred_ite (barred_of_same rfl rfl) (barred_refl s)

theorem exec_barred {i : Instr} {s t : State} (h : exec i s = .next t) : Barred s.live t.live := by
  cases i with
  | coldStart x => exact execColdStart_barred x h
  | planAdopt p body => exact execPlanAdopt_barred p body h
  | storeWriteDone matched => exact execStoreWriteDone_barred matched h
  | scan x => exact execScan_barred h
  | secondsTick => exact onLive_barred secondsTickStep_barred h
  | sampleWriteDone => exact execSampleWriteDone_barred h
  | pushBlankingEnd p x => exact onLive_barred (pushBlankingEndStep_barred p x) h
  | edgeBlankingEnd k x => exact onLive_barred (edgeBlankingEndStep_barred k x) h
  | resetLow torn => exact whenOn_barred (fun hn => by cases hn; exact barred_of_same rfl rfl) h
  | powerLoss torn => exact execPowerLoss_barred torn h
  | linkPulse phase => exact onLive_beside (pulse_only phase) h
  | decelPoint phase => exact onLive_besideWhenDue Live.reachesDecel (pulse_only phase) h
  | stopTargetReached phase => exact onLive_besideWhenDue Live.reachesTarget (pulse_only phase) h
  | sweepEnd phase => exact onLive_besideWhenDue Live.reachesSweepEnd (pulse_only phase) h
  | stepRemainderEnd phase => exact onLive_besideWhenDue Live.reachesStepEnd (pulse_only phase) h
  | missedIndex phase => exact onLive_besideWhenDue Live.reachesMissed (pulse_only phase) h
  | indexPulse => exact onLive_beside indexStep_only h
  | chainSettled => exact onLive_beside chainSettledStep_only h
  | stall => exact onLive_beside stallStep_only h
  | startWarningEnd => exact onLive_beside startWarningEndStep_only h
  | warningGongToggle => exact onLive_beside warningGongStep_only h
  | sweepGongTimer => exact onLive_beside sweepGongStep_only h
  | wearWrite => exact execWearWrite_barred h
  | reRing key => exact onLive_beside (reRingStep_only key) h
  | closingStepDue => exact onLive_barred (takeDue_barred · _ _) h
  | shutterWarningExpiry k => exact onLive_besideWhenDue (Live.warnExpired · k) (judge_only · k) h
  | holdOffExpiry k => exact onLive_besideWhenDue (Live.holdExpired · k) (judge_only · k) h
  | retractExpiry k => exact onLive_beside (retractStep_only k) h
  | pauseExpiry k => exact onLive_beside (pauseStep_only k) h
  | descentLimitExpiry k => exact onLive_beside (descentLimitStep_only k) h
  | raiseLimitExpiry k => exact onLive_beside (raiseLimitStep_only k) h
  | phaseEnd c => exact onLive_beside (phaseEndStep_only c) h
  | itemTimerExpiry pl =>
    exact onLive_besideWhenDue (f := fun l => (l.endItem pl).grants) (Live.itemDue · pl)
      (fun l => keeps_trans (endItem_only l pl) (grants_only _)) h
  | phraseEnd pl => exact execPhraseEnd_barred pl h
  | ampWaitExpiry ch => exact onLive_beside (ampWaitStep_only ch) h
  | ampHoldExpiry ch => exact onLive_beside (ampHoldStep_only ch) h
  | evacuationRestExpiry => exact onLive_beside evacRestStep_only h
  | frameGapTimeout p => exact onLive_barred (frameGapStep_barred p) h
  | frameDiscard p => exact onLive_barred (frameDiscardStep_barred p) h
  | replySent p => exact onLive_barred (replySentStep_barred p) h
  | frameByte p byte => exact onLive_barred (frameByteStep_barred p byte) h
  | unknownKind p code => exact onLive_barred (unknownKindStep_barred p code) h
  | unitRead p body | zoneRead p body | shutterRead p body | chainRead p body | callList p body | speakList p body
  | closingRead p body | wearRead p body | planRead p body | circuitRead p body =>
    exact onLive_barred (takeRequest_barred p _ _ _ (onBody_barred body fun _ s => barred_refl s)) h
  | wearReadClear p body =>
    exact onLive_barred (takeRequest_barred p _ _ _ (onBody_barred body fun _ => wearReadClear_barred p)) h
  | noticeFetch p body =>
    exact onLive_barred (takeRequest_barred p _ _ _ (onBody_barred body fun _ => noticeFetch_barred p)) h
  | planOpen p body => exact onLive_barred (breakingRequest_barred p _ body planOpen_barred) h
  | planEntry p body =>
    exact onLive_barred (takeRequest_barred p _ _ _ (onBody_barred body planEntry_barred)) h
  | planClose p body => exact onLive_barred (breakingRequest_barred p _ body fun _ s => barred_of_same rfl rfl) h
  | planDiscard p body => exact onLive_barred (breakingRequest_barred p _ body fun _ s => barred_of_same rfl rfl) h
  | sampleOpen p body => exact onLive_barred (breakingRequest_barred p _ body sampleOpen_barred) h
  | sampleData p body =>
    exact onLive_barred (takeRequest_barred p _ _ _ (onBody_barred body sampleData_barred)) h
  | zoneIsolate p body =>
    exact onLive_barred (breakingRequest_barred p _ body fun z => onZone_barred (zoneIsolate_barred z) z) h
  | zoneRestore p body =>
    exact onLive_barred (breakingRequest_barred p _ body fun z => onZone_barred (zoneRestore_barred z) z) h
  | zoneSilence p body =>
    exact onLive_barred (breakingRequest_barred p _ body fun z => onZone_barred (zoneSilence_barred z) z) h
  | zoneReset p body =>
    exact onLive_barred (breakingRequest_barred p _ body fun z => onZone_barred (zoneReset_barred z) z) h
  | shutterLower p body =>
    exact onLive_barred (breakingRequest_barred p _ body fun k => onShutter_barred (shutterLower_barred k) k) h
  | shutterRaise p body =>
    exact onLive_barred (breakingRequest_barred p _ body fun k => onShutter_barred (shutterRaise_barred k) k) h
  | shutterHalt p body =>
    exact onLive_barred (breakingRequest_barred p _ body fun k => onShutter_barred (shutterHalt_barred k) k) h
  | chainStart p body => exact onLive_barred (breakingRequest_barred p _ body fun _ => chainStart_barred) h
  | chainStop p body =>
    exact onLive_barred (breakingRequest_barred p _ body fun _ s => (stopChain_only s).barred) h
  | chainInspectOn p body => exact onLive_barred (breakingRequest_barred p _ body (onRowCode_barred inspectOn_barred)) h
  | chainInspectOff p body =>
    exact onLive_barred (breakingRequest_barred p _ body (onRowCode_barred inspectOff_barred)) h
  | chainStep p body => exact onLive_barred (breakingRequest_barred p _ body chainStep_barred) h
  | callPlace p body => exact onLive_barred (breakingRequest_barred p _ body callPlace_barred) h
  | callClear p body => exact onLive_barred (breakingRequest_barred p _ body callClear_barred) h
  | callMask p body => exact onLive_barred (breakingRequest_barred p _ body callMask_barred) h
  | speak p body => exact onLive_barred (breakingRequest_barred p _ body (speak_barred p)) h
  | speakCancel p body => exact onLive_barred (breakingRequest_barred p _ body (speakCancel_barred p)) h
  | closingBegin p body => exact onLive_barred (breakingRequest_barred p _ body closingBegin_barred) h
  | closingPostpone p body => exact onLive_barred (breakingRequest_barred p _ body closingPostpone_barred) h
  | closingAbort p body => exact onLive_barred (breakingRequest_barred p _ body fun _ => closingAbort_barred) h
  | closingResume p body => exact onLive_barred (breakingRequest_barred p _ body fun _ => closingResume_barred) h
  | unitRestart p body => exact onLive_barred (breakingRequest_barred p _ body fun _ s => barred_of_same rfl rfl) h
  | warmRestart => exact onLive_barred (fun l => barred_ite (warmRestart_barred l) (barred_refl l)) h

/-- Settles O10. -/
theorem alarmStopsProgrammeKept : Obligations.AlarmStopsProgrammeKept := by
  intro s t stopped ran
  unfold step at ran
  split at ran
  · cases ran
    exact stopped
  · next i rest _ => exact exec_barred (s := { s with pending := rest }) ran stopped

end Sys2Proof.Machine

/-! # O27: the fire demand as a union over the zones in ALARM -/

namespace Sys2Proof.Machine

-- one thread: a proof that waits for the theorems before it would hold a thread of its own
set_option Elab.async false

/-- A zone lists a shutter: by its home, or by a neighbour the zone names (R87). -/
theorem mem_contribution {p : Plan} {z k : Nat} : k ∈ p.contribution z ↔
    k < 32 ∧ (p.shutter k).present = true ∧
      ((p.shutter k).home = z ∨ (p.shutter k).home ∈ (p.zone z).neighbours) := by
  simp [Plan.contribution]

theorem sounds_iff {s : Live} {z : Nat} :
    s.sounds z = true ↔ s.inAlarm z = true ∧ (s.zone z).silenced = false := by
  simp [Live.sounds]

/-- Only one of the 16 zones is in ALARM. -/
theorem lt_of_inAlarm {s : Live} {z : Nat} (alarm : s.inAlarm z = true) : z < 16 := by
  by_contra beyond
  rw [inAlarm_beyond s (Nat.le_of_not_lt beyond)] at alarm
  cases alarm

/-- The bound of a search over the zones is no bound on those in ALARM. -/
theorem any_zone_iff {s : Live} {f g : Nat → Bool} (alarmed : ∀ z, f z = true → s.inAlarm z = true) :
    ((List.range 16).any fun z => f z && g z) = true ↔ ∃ z, f z = true ∧ g z = true := by
  simp only [List.any_eq_true, List.mem_range, Bool.and_eq_true]
  constructor
  · rintro ⟨z, -, found⟩
    exact ⟨z, found⟩
  · rintro ⟨z, found⟩
    exact ⟨z, lt_of_inAlarm (alarmed z found.1), found⟩

theorem mem_demand_shutters {s : Live} {k : Nat} :
    k ∈ s.demand.shutters ↔ k < 32 ∧ ∃ z, s.inAlarm z = true ∧ k ∈ s.plan.contribution z := by
  simp only [Live.demand, List.mem_filter, List.mem_range, any_zone_iff (f := s.inAlarm) fun _ => id,
    List.contains_iff_mem]

theorem mem_demand_landings {s : Live} {l : Nat} :
    l ∈ s.demand.landings ↔ l < 8 ∧ ∃ z, s.inAlarm z = true ∧ l ∈ (s.plan.zone z).landings := by
  simp only [Live.demand, List.mem_filter, List.mem_range, any_zone_iff (f := s.inAlarm) fun _ => id,
    List.contains_iff_mem]

theorem mem_demand_circuits {s : Live} {c : Nat} :
    c ∈ s.demand.circuits ↔ c < 16 ∧ ∃ z, s.sounds z = true ∧ c ∈ (s.plan.zone z).circuits := by
  simp only [Live.demand, List.mem_filter, List.mem_range, any_zone_iff (f := s.sounds) fun _ h => (sounds_iff.mp h).1,
    List.contains_iff_mem]

theorem mem_demand_channels {s : Live} {c : Nat} :
    c ∈ s.demand.channels ↔ c < 8 ∧ ∃ z, s.sounds z = true ∧ c ∈ (s.plan.zone z).channels := by
  simp only [Live.demand, List.mem_filter, List.mem_range, any_zone_iff (f := s.sounds) fun _ h => (sounds_iff.mp h).1,
    List.contains_iff_mem]

/-- Settles O27. -/
theorem demandIsUnionOverZones : Obligations.DemandIsUnionOverZones := by
  refine fun s => ⟨fun k => ?shutters, fun l => mem_demand_landings, fun c => ?circuits, fun c => ?channels⟩
  case shutters =>
    simp only [mem_demand_shutters, mem_contribution]
    constructor
    · rintro ⟨bound, z, alarm, -, present, listed⟩
      exact ⟨bound, present, z, alarm, listed⟩
    · rintro ⟨bound, present, z, alarm, listed⟩
      exact ⟨bound, z, alarm, bound, present, listed⟩
  case circuits => simp only [mem_demand_circuits, sounds_iff, and_assoc]
  case channels => simp only [mem_demand_channels, sounds_iff, and_assoc]

end Sys2Proof.Machine

/-! # The evacuation entry: its channel set and its players

What the entry's channel set and context zone survive (`EvacSetStands`), and what a handed set does to a play of the entry:
stopped with an empty set, and left playing on the channels it keeps (R154, R159, R163). -/

namespace Sys2Proof.Machine

-- one thread: a proof that waits for the theorems before it would hold a thread of its own
set_option Elab.async false

/-! ## The channel set and the context zone -/

/-- The entry's channel set and context zone stand. -/
def EvacSetStands (s t : Live) : Prop :=
  t.speech.evac.channels = s.speech.evac.channels ∧ t.speech.evac.context = s.speech.evac.context

theorem evacSetStands_composes : Composes EvacSetStands where
  refl _ := ⟨rfl, rfl⟩
  trans := fun ⟨channels, context⟩ ⟨channels', context'⟩ => ⟨channels'.trans channels, context'.trans context⟩

theorem evacSetStands_of_evac {s t : Live} (h : t.speech.evac = s.speech.evac) : EvacSetStands s t := by
  rw [EvacSetStands, h]
  exact ⟨rfl, rfl⟩

theorem PlayersStand.evacSet {s t : Live} (h : PlayersStand s t) : EvacSetStands s t := evacSetStands_of_evac h.evac

theorem OutsidePlay.evacSet {pl : Player} {s t : Live} (h : OutsidePlay pl s t) : EvacSetStands s t :=
  ⟨h.channels, h.context⟩

/-- A play stopped, abandoned or cancelled leaves the entry's own record (R167). -/
theorem stopPlay_evac (s : Live) (pl : Player) (why : AbandonReason) :
    (s.stopPlay pl why).speech.evac = s.speech.evac := by
  unfold Live.stopPlay
  split
  · exact freePlayer_evac s pl
  · rfl

theorem restAfter_evacSet (s : Live) (r : SpeakRequest) : EvacSetStands s (s.restAfter r) :=
  ChainRule.either ⟨rfl, rfl⟩ (evacSetStands_composes.refl s)

theorem failPlay_evacSet (s : Live) (pl : Player) : EvacSetStands s (s.failPlay pl) := by
  unfold Live.failPlay
  split
  · exact evacSetStands_composes.trans (evacSetStands_of_evac (stopPlay_evac s pl _)) (restAfter_evacSet _ _)
  · exact evacSetStands_composes.refl s

theorem checkPlayer_evacSet (s : Live) (pl : Player) : EvacSetStands s (s.checkPlayer pl) :=
  ChainRule.either (evacSetStands_composes.refl s) (ChainRule.either (failPlay_evacSet s pl)
    (ChainRule.either (enterPlaying_outsidePlay s pl).evacSet (evacSetStands_composes.refl s)))

theorem takeUp_evacSet (s : Live) (pl : Player) (r : SpeakRequest) : EvacSetStands s (s.takeUp pl r) :=
  evacSetStands_composes.trans (evacSetStands_of_evac (warmUp_evac s pl r)) (checkPlayer_evacSet _ pl)

theorem preemptPlayer_evac (s : Live) (chs : List Nat) (pl : Player) :
    (s.preemptPlayer chs pl).speech.evac = s.speech.evac := by
  unfold Live.preemptPlayer
  split
  · exact stopPlay_evac s pl _
  · rfl

theorem evacTake_evacSet (s : Live) (k : Nat) : EvacSetStands s (s.evacTake k) := by
  unfold Live.evacTake
  extract_lets chs t u
  have preempted : t.speech.evac = s.speech.evac := (preemptPlayer_evac _ _ .b).trans (preemptPlayer_evac _ _ .a)
  have lesser : u.speech.evac = t.speech.evac := by
    unfold u
    split
    · exact stopPlay_evac t _ _
    · rfl
  have plays : EvacSetStands u { u with speech := { u.speech with
      evac := { u.speech.evac with state := .playing, restTimer := none } } } := ⟨rfl, rfl⟩
  exact evacSetStands_composes.trans (evacSetStands_of_evac (lesser.trans preempted))
    (evacSetStands_composes.trans plays (takeUp_evacSet _ _ _))

theorem evacBegin_evacSet (s : Live) : EvacSetStands s s.evacBegin := by
  unfold Live.evacBegin
  split
  · exact evacTake_evacSet s _
  · exact ⟨rfl, rfl⟩

theorem joinPlay_evac (s : Live) (pl : Player) (ch : Nat) : (s.joinPlay pl ch).speech.evac = s.speech.evac := by
  unfold Live.joinPlay
  split
  · rfl
  · exact (takeChannel_playersStand _ pl ch).evac.trans (preemptPlayer_evac _ _ _)

/-- The entry's play with its request renewed: the set and the context zone as they stand (R154, R163). -/
def Live.evacRenewed (s : Live) (pl : Player) : Live :=
  s.withPlayer pl { s.player pl with
    request := (s.player pl).request.map fun r => { r with
      channels := s.speech.evac.channels, context := s.speech.evac.context } }

/-- A channel outside a set is released (R163). -/
def Live.shed (chs : List Nat) (s : Live) (ch : Nat) : Live := if chs.contains ch then s else s.release ch

/-- The entry's play with the channels that leave its set given up (R163). -/
def Live.evacShed (s : Live) (pl : Player) : Live :=
  ((s.evacRenewed pl).held pl).foldl (Live.shed s.speech.evac.channels) (s.evacRenewed pl)

theorem shed_playersStand (chs : List Nat) (s : Live) (ch : Nat) : PlayersStand s (s.shed chs ch) :=
  ChainRule.either (playersStand_composes.refl s) (withChannel_playersStand s ch _)

theorem evacShed_playersStand (s : Live) (pl : Player) : PlayersStand (s.evacRenewed pl) (s.evacShed pl) :=
  playersStand_composes.foldl _ (shed_playersStand _) _ _

/-- The entry's play with the channels that join its set taken (R163). -/
def Live.evacJoined (s : Live) (pl : Player) : Live :=
  s.speech.evac.channels.foldl (fun t ch => t.joinPlay pl ch) (s.evacShed pl)

theorem evacChange_eq (s : Live) (pl : Player) : s.evacChange pl = (s.evacJoined pl).checkPlayer pl := rfl

theorem evacJoined_evac (s : Live) (pl : Player) : (s.evacJoined pl).speech.evac = s.speech.evac := by
  have shed : (s.evacShed pl).speech.evac = s.speech.evac :=
    (evacShed_playersStand s pl).evac.trans (withPlayer_evac s pl _)
  have kept (l : List Nat) (t : Live) : (l.foldl (fun t ch => t.joinPlay pl ch) t).speech.evac = t.speech.evac := by
    induction l generalizing t with
    | nil => rfl
    | cons ch rest ih => exact (ih _).trans (joinPlay_evac t pl ch)
  exact (kept _ _).trans shed

theorem evacChange_evacSet (s : Live) (pl : Player) : EvacSetStands s (s.evacChange pl) :=
  evacSetStands_composes.trans (evacSetStands_of_evac (evacJoined_evac s pl)) (checkPlayer_evacSet _ pl)

theorem grantUpTo_evacSet (fuel : Nat) (s : Live) : EvacSetStands s (s.grantUpTo fuel) := by
  induction fuel generalizing s with
  | zero => exact evacSetStands_composes.refl s
  | succ n ih =>
    unfold Live.grantUpTo
    split
    · split
      · next r _ =>
        exact evacSetStands_composes.trans (t := s.unqueue r.tag) ⟨rfl, rfl⟩
          (evacSetStands_composes.trans (takeUp_evacSet _ _ _) (ih _))
      · exact evacSetStands_composes.refl s
    · exact evacSetStands_composes.refl s

/-- What a handed set makes of the entry and its play, before the grant pass (R159, R163). -/
def Live.evacTaken (s : Live) (chs : List Nat) (context : Option Nat) : Live :=
  let t := s.setEvacuation chs context
  if chs.isEmpty then
    match s.speech.evac.state, t.evacPlayer with
    | .playing, some pl => (t.stopPlay pl .demand).evacEnd
    | _, _ => t.evacEnd
  else
    match s.speech.evac.state, t.evacPlayer with
    | .inactive, _ => t.evacBegin
    | .playing, some pl => t.evacChange pl
    | _, _ => t

theorem evacDemand_eq (s : Live) (chs : List Nat) (context : Option Nat) :
    s.evacDemand chs context = (s.evacTaken chs context).grants := rfl

theorem evacEnd_evacSet (s : Live) : EvacSetStands s s.evacEnd := ⟨rfl, rfl⟩

/-- R91: a handed channel set and context zone are the entry's, whatever its play comes to. -/
theorem evacDemand_set (s : Live) (chs : List Nat) (context : Option Nat) :
    (s.evacDemand chs context).speech.evac.channels = chs ∧
    (s.evacDemand chs context).speech.evac.context = context := by
  have taken : EvacSetStands (s.setEvacuation chs context) (s.evacTaken chs context) := by
    unfold Live.evacTaken
    dsimp only
    split
    · split
      · exact evacSetStands_composes.trans (evacSetStands_of_evac (stopPlay_evac _ _ _)) (evacEnd_evacSet _)
      · exact evacEnd_evacSet _
    · split
      · exact evacBegin_evacSet _
      · exact evacChange_evacSet _ _
      · exact evacSetStands_composes.refl _
  rw [evacDemand_eq]
  exact evacSetStands_composes.trans (s := s.setEvacuation chs context) taken (grantUpTo_evacSet _ _)

/-! ## The play of the entry as a set is handed (R154, R159, R163) -/

theorem setEvacuation_player (s : Live) (chs : List Nat) (context : Option Nat) (pl : Player) :
    (s.setEvacuation chs context).player pl = (s.player pl).leaveSet s.speech.evac.channels chs := by
  cases pl <;> rfl

theorem setEvacuation_evacPlayer (s : Live) (chs : List Nat) (context : Option Nat) :
    (s.setEvacuation chs context).evacPlayer = s.evacPlayer := rfl

/-- A play of a request stopped (R167). -/
theorem stopPlay_eq {s : Live} {pl : Player} {r : SpeakRequest} (request : (s.player pl).request = some r)
    (why : AbandonReason) : s.stopPlay pl why =
      (s.freePlayer pl).post (.speakAbandoned r.tag r.cls r.origin why (s.player pl).item) := by
  unfold Live.stopPlay
  rw [request]

/-- What another player's stopped play leaves. -/
theorem stopPlay_other (s : Live) {pl q : Player} (h : q ≠ pl) (why : AbandonReason) :
    (s.stopPlay pl why).player q = s.player q := by
  unfold Live.stopPlay
  split
  · exact freePlayer_other s h
  · rfl

theorem stopPlay_channel_other {s : Live} {pl : Player} {ch : Nat} (free : (s.channel ch).holder ≠ some pl)
    (why : AbandonReason) : (s.stopPlay pl why).channel ch = s.channel ch := by
  unfold Live.stopPlay
  split
  · exact (freePlayer_channel s pl ch).trans (if_neg free)
  · rfl

theorem otherPlayer_ne (pl : Player) : pl ≠ otherPlayer pl := by cases pl <;> decide

/-- A channel that joins leaves the play's own player. -/
theorem joinPlay_player (s : Live) (pl : Player) (ch : Nat) : (s.joinPlay pl ch).player pl = s.player pl := by
  unfold Live.joinPlay
  split
  · rfl
  · refine ((takeChannel_playersStand _ pl ch).player pl).trans ?_
    unfold Live.preemptPlayer
    split
    · exact stopPlay_other s (otherPlayer_ne pl) _
    · rfl

/-- A channel that the other player does not hold, and that does not join, stands. -/
theorem joinPlay_channel {s : Live} {pl : Player} {ch q : Nat} (joins : ch = q → (s.channel q).holder = some pl)
    (free : (s.channel q).holder ≠ some (otherPlayer pl)) : (s.joinPlay pl ch).channel q = s.channel q := by
  unfold Live.joinPlay
  by_cases own : ch = q
  · subst own
    rw [if_pos (by simp [joins rfl])]
  · split
    · rfl
    · refine (takeChannel_other _ pl own).trans ?_
      unfold Live.preemptPlayer
      split
      · exact stopPlay_channel_other free _
      · rfl

section
variable (s : Live) (pl : Player)

theorem evacShed_phase : ((s.evacShed pl).player pl).phase = (s.player pl).phase := by
  rw [(evacShed_playersStand s pl).player, Live.evacRenewed, Live.player_withPlayer_same]

/-- The play gives up the channels that leave the set and keeps the others. -/
theorem evacShed_channel (q : Nat) : (s.evacShed pl).channel q =
    if (s.channel q).holder = some pl ∧ q ∉ s.speech.evac.channels then (s.channel q).givenUp else s.channel q := by
  by_cases hq : q < 8
  · have channel : (s.evacRenewed pl).channel q = s.channel q := withPlayer_channel s pl _ q
    have own (t : Live) : (t.shed s.speech.evac.channels q).channel q =
        if q ∈ s.speech.evac.channels then t.channel q else (t.channel q).givenUp := by
      simp only [Live.shed, List.contains_iff_mem]
      split
      · rfl
      · exact channel_withChannel_same t hq _
    have other (t : Live) (p : Nat) (h : p ≠ q) : (t.shed s.speech.evac.channels p).channel q = t.channel q := by
      unfold Live.shed
      split
      · rfl
      · exact channel_withChannel_other t h _
    rw [Live.evacShed, channel_foldl (I := fun _ => True)
      (f := fun c => if q ∈ s.speech.evac.channels then c else c.givenUp) (fun t _ => own t) other (fun _ _ _ => trivial)
      (held_nodup _ pl) trivial]
    simp only [mem_held, channel]
    by_cases held : (s.channel q).holder = some pl <;> by_cases mem : q ∈ s.speech.evac.channels <;> simp [held, mem]
  · rw [channel_beyond _ (Nat.le_of_not_lt hq), channel_beyond _ (Nat.le_of_not_lt hq)]
    rfl

theorem evacJoined_phase : ((s.evacJoined pl).player pl).phase = (s.player pl).phase := by
  have kept (l : List Nat) (t : Live) : (l.foldl (fun t ch => t.joinPlay pl ch) t).player pl = t.player pl := by
    induction l generalizing t with
    | nil => rfl
    | cons ch rest ih => exact (ih _).trans (joinPlay_player t pl ch)
  exact (congrArg PlayerContext.phase (kept _ _)).trans (evacShed_phase s pl)

/-- A channel of the play stands given up where it left the set, and stands where it stays. -/
theorem evacJoined_channel {q : Nat} (held : (s.channel q).holder = some pl) : (s.evacJoined pl).channel q =
    if q ∈ s.speech.evac.channels then s.channel q else (s.channel q).givenUp := by
  have kept (l : List Nat) {t : Live} (joins : q ∈ l → (t.channel q).holder = some pl)
      (free : (t.channel q).holder ≠ some (otherPlayer pl)) :
      (l.foldl (fun t ch => t.joinPlay pl ch) t).channel q = t.channel q := by
    induction l generalizing t with
    | nil => rfl
    | cons ch rest ih =>
      have first : (t.joinPlay pl ch).channel q = t.channel q :=
        joinPlay_channel (fun own => joins (own ▸ List.mem_cons_self)) free
      exact (ih (fun mem => first ▸ joins (List.mem_cons_of_mem _ mem)) (first ▸ free)).trans first
  have shed := evacShed_channel s pl q
  by_cases mem : q ∈ s.speech.evac.channels
  · rw [if_neg fun h => h.2 mem] at shed
    rw [if_pos mem, ← shed]
    exact kept _ (fun _ => shed ▸ held) (by rw [shed, held]; exact fun h => otherPlayer_ne pl (Option.some.inj h))
  · rw [if_pos ⟨held, mem⟩] at shed
    rw [if_neg mem, ← shed]
    exact kept _ (fun h => absurd h mem) (by rw [shed]; nofun)

end

/-- A player that plays on a channel stands when its channels are looked at. -/
theorem checkPlayer_playing {s : Live} {pl : Player} {ch : Nat} (playing : (s.player pl).phase = .playing)
    (held : (s.channel ch).holder = some pl) : s.checkPlayer pl = s := by
  have some_ : (s.held pl).isEmpty = false := by
    rw [List.isEmpty_eq_false_iff]
    exact List.ne_nil_of_mem (mem_held.mpr held)
  unfold Live.checkPlayer
  simp [playing, some_]

section
variable {s : Live} (queue : s.speech.queue = []) {chs : List Nat} (context : Option Nat)
include queue

theorem evacDemand_quietQueue (stands : QueueStands s (s.evacTaken chs context)) :
    s.evacDemand chs context = s.evacTaken chs context := by
  rw [evacDemand_eq, grants_emptyQueue (stands.1.trans queue)]

/-- An empty set handed to an entry that does not play (R159). -/
theorem evacDemand_inactive (unplayed : s.speech.evac.state ≠ .playing) :
    (s.evacDemand [] context).speech.evac = ⟨.inactive, [], context, none⟩ := by
  have taken : s.evacTaken [] context = (s.setEvacuation [] context).evacEnd := by
    unfold Live.evacTaken
    simp only [List.isEmpty_nil, if_true]
    split
    · exact absurd ‹_› unplayed
    · rfl
  rw [evacDemand_quietQueue queue context (by rw [taken]; exact ⟨rfl, rfl⟩), taken]
  rfl

variable {pl : Player} (state : s.speech.evac.state = .playing) (player : s.evacPlayer = some pl)
include state player

/-- An empty set handed to an entry that plays: the play is abandoned and its channels are given up (R159). -/
theorem evacDemand_stops {r : SpeakRequest} (request : (s.player pl).request = some r) :
    let t := s.evacDemand [] context
    t.speech.evac.state = .inactive ∧ (t.player pl).phase = .idle ∧
    t.offered (.speakAbandoned r.tag r.cls r.origin .demand (s.player pl).item) ∧
    ∀ ch, (s.channel ch).holder = some pl → t.channel ch = (s.channel ch).givenUp := by
  have taken : s.evacTaken [] context = ((s.setEvacuation [] context).stopPlay pl .demand).evacEnd := by
    unfold Live.evacTaken
    simp only [List.isEmpty_nil, if_true, setEvacuation_evacPlayer, state, player]
  have stopped := stopPlay_eq (s := s.setEvacuation [] context) (pl := pl) (r := r)
    (by rw [setEvacuation_player]; exact request) .demand
  have item : ((s.setEvacuation [] context).player pl).item = (s.player pl).item := by rw [setEvacuation_player]; rfl
  have queueStands : QueueStands s (s.evacTaken [] context) := by
    rw [taken]
    exact queueStands_composes.trans (t := s.setEvacuation [] context) ⟨rfl, rfl⟩ (stopPlay_queueStands _ pl _)
  intro t
  have ran : t = (((s.setEvacuation [] context).freePlayer pl).post
      (.speakAbandoned r.tag r.cls r.origin .demand (s.player pl).item)).evacEnd := by
    unfold t
    rw [evacDemand_quietQueue queue context queueStands, taken, stopped, item]
  rw [ran]
  refine ⟨rfl, ?_, (speech_only _ _).offered (post_offered _ _), fun ch held => ?_⟩
  · have idle := congrArg PlayerContext.phase (freePlayer_player (s.setEvacuation [] context) pl)
    cases pl <;> exact idle
  · exact (freePlayer_channel (s.setEvacuation [] context) pl ch).trans (if_pos held)

/-- A set that keeps a channel of the entry's play: the play goes on, and gives up the channels that leave (R163). -/
theorem evacDemand_plays_on {ch : Nat} (playing : (s.player pl).phase = .playing) (kept : ch ∈ chs)
    (held : (s.channel ch).holder = some pl) :
    let t := s.evacDemand chs context
    t.speech.evac.state = .playing ∧ (t.player pl).phase = .playing ∧
    ∀ q, (s.channel q).holder = some pl → q ∉ chs → t.channel q = (s.channel q).givenUp := by
  have some_ : chs.isEmpty = false := List.isEmpty_eq_false_iff.mpr (List.ne_nil_of_mem kept)
  have taken : s.evacTaken chs context = (s.setEvacuation chs context).evacChange pl := by
    unfold Live.evacTaken
    simp only [some_, Bool.false_eq_true, if_false, setEvacuation_evacPlayer, state, player]
  have phase : (((s.setEvacuation chs context).evacJoined pl).player pl).phase = .playing := by
    rw [evacJoined_phase, setEvacuation_player]
    exact playing
  have channels {q : Nat} (h : (s.channel q).holder = some pl) :
      ((s.setEvacuation chs context).evacJoined pl).channel q = if q ∈ chs then s.channel q else (s.channel q).givenUp :=
    evacJoined_channel (s.setEvacuation chs context) pl h
  have joined : s.evacTaken chs context = (s.setEvacuation chs context).evacJoined pl := by
    rw [taken, evacChange_eq]
    exact checkPlayer_playing phase (ch := ch) (by rw [channels held, if_pos kept, held])
  have queueStands : QueueStands s (s.evacTaken chs context) := by
    rw [taken]
    exact queueStands_composes.trans (t := s.setEvacuation chs context) ⟨rfl, rfl⟩ (evacChange_queueStands _ pl)
  rw [evacDemand_quietQueue queue context queueStands, joined]
  refine ⟨by rw [evacJoined_evac]; exact state, phase, fun q h left => ?_⟩
  rw [channels h, if_neg left]

end

end Sys2Proof.Machine

/-! # Fire calls that enter and leave

A circuit that leaves the demand loses its fire call and rings it no longer (R131, R147); one that enters has its call, for
which a full list gives up its last record (R121, R123). The list keeps its order throughout. -/

namespace Sys2Proof.Machine

-- one thread: a proof that waits for the theorems before it would hold a thread of its own
set_option Elab.async false

/-! ## What a record keeps of itself while circuits ring -/

/-- A record but for its state and its counts. -/
def callFace (r : CallRecord) : CallKey × Nat × Nat × Pattern := (r.key, r.circuit, r.level, r.pattern)

/-- The record of a key stands but for its state and its counts, or stands absent. -/
def FaceStands (key : CallKey) (s t : Live) : Prop := (t.call key).map callFace = (s.call key).map callFace

theorem faceStands_composes (key : CallKey) : Composes (FaceStands key) := ⟨fun _ => rfl, fun h g => g.trans h⟩

theorem FaceStands.isSome {key : CallKey} {s t : Live} (h : FaceStands key s t) :
    (t.call key).isSome = (s.call key).isSome := by
  have := congrArg Option.isSome h
  rwa [Option.isSome_map, Option.isSome_map] at this

theorem RungAs.face {r x : CallRecord} (h : RungAs r x) : callFace x = callFace r := by
  obtain rfl | ⟨_, -, rfl⟩ := h <;> rfl

theorem CallsRung.faceStands {s t : Live} (h : CallsRung s t) (key : CallKey) : FaceStands key s t := by
  rcases h.call key with ⟨hs, ht⟩ | ⟨r, x, hs, ht, rung⟩
  · rw [FaceStands, hs, ht]
  · rw [FaceStands, hs, ht]
    exact congrArg some rung.face

theorem call_of_calls {s t : Live} (h : t.calls = s.calls) (key : CallKey) : t.call key = s.call key := by
  rw [Live.call, h, Live.call]

theorem call_key {s : Live} {key : CallKey} {r : CallRecord} (h : s.call key = some r) : r.key = key := by
  simpa [hasKey] using List.find?_some h

/-! ## The list without a key -/

theorem find_dropKey_same (key : CallKey) (l : List CallRecord) : (dropKey key l).find? (hasKey key) = none := by
  simp [dropKey, List.find?_eq_none]

theorem find_dropKey_other {key k : CallKey} (other : k ≠ key) (l : List CallRecord) :
    (dropKey key l).find? (hasKey k) = l.find? (hasKey k) := by
  unfold dropKey
  rw [List.find?_filter]
  congr 1
  funext r
  by_cases own : r.key = k
  · simp [hasKey, own, other]
  · simp [hasKey, own]

theorem takeMask_calls (s : Live) (c : Nat) : (s.takeMask c).calls = s.calls := by
  unfold Live.takeMask
  dsimp only
  split
  · rfl
  · unfold Live.postIf
    split <;> rfl

/-- A circuit silenced, with its ring off it (R147). -/
def Live.ringOff (s : Live) (c : Nat) : Live :=
  (s.withCircuit c { s.circuit c with ring := none }).writeSounder c false

theorem stopRing_eq (s : Live) (c : Nat) : s.stopRing c = ((s.ringOff c).takeMask c).choose c := rfl

theorem ringOff_calls (s : Live) (c : Nat) : (s.ringOff c).calls = s.calls := writeSounder_calls _ c false

theorem ringOff_circuits (s : Live) (c : Nat) :
    (s.ringOff c).circuits = s.circuits.put c { s.circuit c with ring := none } :=
  (writeSounder_only _ c false).parts .circuits (by decide)

theorem stopRing_callsRung (s : Live) (c : Nat) : CallsRung s (s.stopRing c) := by
  rw [stopRing_eq]
  exact callsRung_composes.trans (callsRung_of_calls ((takeMask_calls _ c).trans (ringOff_calls s c)))
    (choose_callsRung _ c)

theorem stopIfRinging_callsRung (s : Live) (c : Nat) (key : CallKey) : CallsRung s (s.stopIfRinging c key) := by
  unfold Live.stopIfRinging
  split
  · exact ChainRule.either (stopRing_callsRung s c) (callsRung_composes.refl s)
  · exact callsRung_composes.refl s

theorem indicatorOff_calls (s : Live) (key : CallKey) : (indicatorOff s key).calls = s.calls := by
  unfold indicatorOff
  split
  · exact (writeIndicator_only s _ _).parts .calls (by decide)
  · rfl

/-- The list after a record is taken out: without it, and rung or not (R147). -/
theorem takeOut_callsRung (s : Live) (r : CallRecord) :
    CallsRung { s with calls := dropKey r.key s.calls } (s.takeOut r) :=
  callsRung_composes.trans (stopIfRinging_callsRung _ r.circuit r.key) (callsRung_of_calls (indicatorOff_calls _ r.key))

theorem takeOut_call (s : Live) (r : CallRecord) : (s.takeOut r).call r.key = none := by
  have gone : Live.call { s with calls := dropKey r.key s.calls } r.key = none := find_dropKey_same _ _
  simpa [gone] using (takeOut_callsRung s r).call_isNone r.key

theorem takeOut_face (s : Live) {r : CallRecord} {key : CallKey} (other : key ≠ r.key) :
    FaceStands key s (s.takeOut r) := by
  have stands : FaceStands key s { s with calls := dropKey r.key s.calls } :=
    congrArg (Option.map callFace) (find_dropKey_other other s.calls)
  exact (faceStands_composes key).trans stands ((takeOut_callsRung s r).faceStands key)

theorem takeOut_call_none {s : Live} {key : CallKey} (absent : s.call key = none) (r : CallRecord) :
    (s.takeOut r).call key = none := by
  by_cases own : key = r.key
  · rw [own]
    exact takeOut_call s r
  · have stands := takeOut_face s own
    rw [FaceStands, absent] at stands
    simpa using stands

/-! ## The order of the list (R121, R131) -/

theorem CallOrder.without {l : List CallRecord} (h : CallOrder l) (key : CallKey) : CallOrder (dropKey key l) where
  room := (List.length_filter_le _ _).trans h.room
  sorted := h.sorted.filter _
  distinct := (List.filter_sublist.map _).nodup h.distinct
  fire r mem := h.fire r (List.mem_of_mem_filter mem)
  top r mem := h.top r (List.mem_of_mem_filter mem)

theorem CallOrder.rung {s t : Live} (h : CallOrder s.calls) (rung : CallsRung s t) : CallOrder t.calls := by
  obtain ⟨f, rung, calls⟩ := rung
  have key r : (f r).key = r.key := (rung r).key
  have level r : (f r).level = r.level := congrArg (·.2.2.1) (rung r).face
  have circuit r : (f r).circuit = r.circuit := congrArg (·.2.1) (rung r).face
  have pattern r : (f r).pattern = r.pattern := congrArg (·.2.2.2) (rung r).face
  rw [calls]
  refine ⟨by rw [List.length_map]; exact h.room, ?_, ?_, ?_, ?_⟩
  · rw [List.pairwise_map]
    simpa only [level] using h.sorted
  · rw [List.map_map, show CallRecord.key ∘ f = CallRecord.key from funext key]
    exact h.distinct
  · intro x mem
    obtain ⟨r, inList, rfl⟩ := List.mem_map.mp mem
    simpa only [key, level, circuit, pattern] using h.fire r inList
  · intro x mem
    obtain ⟨r, inList, rfl⟩ := List.mem_map.mp mem
    simpa only [key, level] using h.top r inList

theorem CallOrder.takeOut {s : Live} (h : CallOrder s.calls) (r : CallRecord) : CallOrder (s.takeOut r).calls :=
  CallOrder.rung (s := { s with calls := dropKey r.key s.calls }) (h.without r.key) (takeOut_callsRung s r)

theorem insertCall_perm (r : CallRecord) (l : List CallRecord) : (insertCall r l).Perm (r :: l) := by
  induction l with
  | nil => exact .refl _
  | cons x rest ih =>
    unfold insertCall
    split
    · exact (ih.cons x).trans (.swap r x rest)
    · exact .refl _

theorem insertCall_sorted {r : CallRecord} {l : List CallRecord} (h : l.Pairwise fun a b => b.level ≤ a.level) :
    (insertCall r l).Pairwise fun a b => b.level ≤ a.level := by
  induction l with
  | nil => exact List.pairwise_singleton _ _
  | cons x rest ih =>
    obtain ⟨first, rest_⟩ := List.pairwise_cons.mp h
    unfold insertCall
    split
    · next le =>
      refine List.pairwise_cons.mpr ⟨fun y mem => ?_, ih rest_⟩
      rcases mem_insertCall.mp mem with rfl | mem
      · exact le
      · exact first y mem
    · next lt =>
      refine List.pairwise_cons.mpr ⟨fun y mem => ?_, h⟩
      rcases List.mem_cons.mp mem with rfl | mem
      · omega
      · have := first y mem
        omega

/-- A fire call joins in its order (R121, R131). -/
theorem CallOrder.enter {l : List CallRecord} (h : CallOrder l) (room : l.length < 32) {r : CallRecord} {c : Nat}
    (face : callFace r = (.fire c, c, 7, .fire)) (bound : c < 16) (fresh : l.find? (hasKey (.fire c)) = none) :
    CallOrder (insertCall r l) := by
  obtain ⟨key, circuit, level, pattern⟩ : r.key = .fire c ∧ r.circuit = c ∧ r.level = 7 ∧ r.pattern = .fire := by
    simpa [callFace] using face
  refine ⟨by rw [insertCall_length]; exact room, insertCall_sorted h.sorted, ?_, fun x mem d own => ?_,
    fun x mem top => ?_⟩
  · rw [((insertCall_perm r l).map _).nodup_iff, List.map_cons, List.nodup_cons, key]
    refine ⟨fun mem => ?_, h.distinct⟩
    obtain ⟨x, mem, own⟩ := List.mem_map.mp mem
    exact absurd (List.find?_eq_none.mp fresh x mem) (by simp [hasKey, own])
  · rcases mem_insertCall.mp mem with rfl | mem
    · obtain rfl : c = d := by simpa [key] using own
      exact ⟨bound, circuit, level, pattern⟩
    · exact h.fire x mem d own
  · rcases mem_insertCall.mp mem with rfl | mem
    · exact ⟨c, key⟩
    · exact h.top x mem top

/-- The face of a fire call in a list in order. -/
theorem CallOrder.face {s : Live} (h : CallOrder s.calls) {c : Nat} {r : CallRecord} (found : s.call (.fire c) = some r) :
    callFace r = (.fire c, c, 7, .fire) := by
  have key := call_key found
  obtain ⟨-, circuit, level, pattern⟩ := h.fire r (List.mem_of_find?_eq_some found) c key
  simp [callFace, key, circuit, pattern, level, Config.fireLevel]

/-! ## A circuit leaves the demand (R131, R147) -/

theorem choose_ring {s : Live} {c d : Nat} {g : Ring} (ring : ((s.choose c).circuit d).ring = some g) :
    (s.circuit d).ring = some g ∨ ∃ r ∈ s.calls, g.key = r.key := by
  unfold Live.choose at ring
  split at ring
  · exact .inl ring
  · split at ring
    · next r eligible =>
      rw [beginRing_circuit] at ring
      rcases Bank.read_put_cases s.circuits c d ⟨none, 0, none⟩
        { s.circuit c with ring := some ⟨r.key, r.pattern, firstStroke r.pattern, .on, 0⟩ } with stands | ⟨-, put⟩
      · rw [Live.circuit, Live.withCircuit, stands] at ring
        exact .inl ring
      · rw [Live.circuit, Live.withCircuit, put] at ring
        cases ring
        exact .inr ⟨r, List.mem_of_find?_eq_some eligible, rfl⟩
    · exact .inl ring

theorem takeMask_ring (s : Live) (c d : Nat) : ((s.takeMask c).circuit d).ring = (s.circuit d).ring := by
  unfold Live.takeMask
  dsimp only
  split
  · rfl
  · next m _ =>
    rw [circuit_of_circuits ((postIf_only _ _ _).parts .circuits (by decide))]
    rcases Bank.read_put_cases s.circuits c d ⟨none, 0, none⟩ { s.circuit c with mask := m, pendingMask := none } with
      stands | ⟨rfl, put⟩
    · rw [Live.circuit, Live.withCircuit, stands]
      rfl
    · rw [Live.circuit, Live.withCircuit, put]

theorem indicatorOff_circuits (s : Live) (key : CallKey) : (indicatorOff s key).circuits = s.circuits := by
  unfold indicatorOff
  split
  · exact (writeIndicator_only s _ _).parts .circuits (by decide)
  · rfl

/-- A circuit stopped rings nothing, or a record of the list that it chooses. -/
theorem stopRing_ring {s : Live} {c d : Nat} {g : Ring} (ring : ((s.stopRing c).circuit d).ring = some g) :
    (c ≠ d ∧ (s.circuit d).ring = some g) ∨ ∃ r ∈ s.calls, g.key = r.key := by
  rw [stopRing_eq] at ring
  rcases choose_ring ring with stood | ⟨r, mem, key⟩
  · rw [takeMask_ring, Live.circuit, ringOff_circuits] at stood
    by_cases own : c = d
    · subst own
      by_cases bound : c < 16
      · rw [Bank.read_put_same _ _ _ _ bound] at stood
        cases stood
      · rw [Bank.read_beyond _ _ _ (Nat.le_of_not_lt bound)] at stood
        cases stood
    · rw [Bank.read_put_other _ _ _ _ _ own] at stood
      exact .inl ⟨own, stood⟩
  · rw [takeMask_calls, ringOff_calls] at mem
    exact .inr ⟨r, mem, key⟩

theorem stopIfRinging_ring {s : Live} {c d : Nat} {key : CallKey} {g : Ring}
    (ring : ((s.stopIfRinging c key).circuit d).ring = some g) :
    ((s.circuit d).ring = some g ∧ (c = d → g.key ≠ key)) ∨ ∃ r ∈ s.calls, g.key = r.key := by
  unfold Live.stopIfRinging at ring
  split at ring
  · next rings =>
    split at ring
    · exact (stopRing_ring ring).imp_left fun ⟨other, stood⟩ => ⟨stood, fun own => absurd own other⟩
    · next other =>
      refine .inl ⟨ring, ?_⟩
      rintro rfl
      rw [rings] at ring
      cases ring
      exact other
  · next idle =>
    refine .inl ⟨ring, ?_⟩
    rintro rfl
    rw [idle] at ring
    cases ring

theorem mem_dropKey {key : CallKey} {x : CallRecord} {l : List CallRecord} :
    x ∈ dropKey key l ↔ x ∈ l ∧ x.key ≠ key := by
  simp [dropKey, hasKey]

/-- A record taken out is rung no longer on its circuit, and a ring that begins is of a record left in the list. -/
theorem takeOut_ring {s : Live} {r : CallRecord} {d : Nat} {g : Ring} (ring : ((s.takeOut r).circuit d).ring = some g) :
    ((s.circuit d).ring = some g ∧ (r.circuit = d → g.key ≠ r.key)) ∨
      ∃ x ∈ s.calls, x.key ≠ r.key ∧ g.key = x.key := by
  rw [Live.takeOut, circuit_of_circuits (indicatorOff_circuits _ _)] at ring
  refine (stopIfRinging_ring ring).imp_right ?_
  rintro ⟨x, mem, key⟩
  obtain ⟨mem, other⟩ := mem_dropKey.mp mem
  exact ⟨x, mem, other, key⟩

/-- The fire call of a circuit is not in the list and its circuit does not ring it. -/
structure Unrung (c : Nat) (s : Live) : Prop where
  call : s.call (.fire c) = none
  ring : ∀ g, (s.circuit c).ring = some g → g.key ≠ .fire c

theorem takeOut_unrung {s : Live} {r : CallRecord} {c : Nat} (fire : r.key = .fire c) (circuit : r.circuit = c) :
    Unrung c (s.takeOut r) where
  call := by
    rw [← fire]
    exact takeOut_call s r
  ring g ring := by
    rw [← fire]
    rcases takeOut_ring ring with ⟨-, other⟩ | ⟨x, -, other, key⟩
    · exact other circuit
    · rwa [key]

theorem takeOut_keeps_unrung {s : Live} {c : Nat} (h : Unrung c s) (r : CallRecord) : Unrung c (s.takeOut r) where
  call := takeOut_call_none h.call r
  ring g ring := by
    rcases takeOut_ring ring with ⟨stood, -⟩ | ⟨x, mem, -, key⟩
    · exact h.ring g stood
    · intro fire
      exact absurd (List.find?_eq_none.mp h.call x mem) (by simp [hasKey, ← key, fire])

theorem post_unrung {s : Live} {c : Nat} (h : Unrung c s) (n : Note) : Unrung c (s.post n) := ⟨h.call, h.ring⟩

/-- A circuit out of the demand: its fire call has left the list and is rung no longer, and its CALL REMOVED is posted. -/
def FireLeft (c : Nat) (s : Live) : Prop :=
  Unrung c s ∧ ∃ place, s.offered (.callRemoved (.fire c) none c 7 place .fireDemand)

theorem fireCallLeave_call (s : Live) (c : Nat) : (s.fireCallLeave c).call (.fire c) = none := by
  unfold Live.fireCallLeave
  split
  · next r found =>
    rw [← call_key found]
    exact takeOut_call s r
  · assumption

theorem fireCallLeave_face (s : Live) {c : Nat} {key : CallKey} (other : key ≠ .fire c) :
    FaceStands key s (s.fireCallLeave c) := by
  unfold Live.fireCallLeave
  split
  · next r found => exact takeOut_face s (by rwa [call_key found])
  · exact (faceStands_composes key).refl s

theorem number_of_face {r : CallRecord} {c : Nat} (face : callFace r = (.fire c, c, 7, .fire)) : r.number = none := by
  obtain ⟨key, -, -, pattern⟩ : r.key = .fire c ∧ r.circuit = c ∧ r.level = 7 ∧ r.pattern = .fire := by
    simpa [callFace] using face
  simp [CallRecord.number, key, pattern]

/-- R131: a circuit leaves the demand while its fire call stands in the list. -/
theorem fireCallLeave_left {s : Live} {c : Nat}
    (standing : (s.call (.fire c)).map callFace = some (.fire c, c, 7, .fire)) : FireLeft c (s.fireCallLeave c) := by
  obtain ⟨r, found, face⟩ := Option.map_eq_some_iff.mp standing
  obtain ⟨key, circuit, level, -⟩ : r.key = .fire c ∧ r.circuit = c ∧ r.level = 7 ∧ r.pattern = .fire := by
    simpa [callFace] using face
  have left : s.fireCallLeave c = s.removeCall r .fireDemand := by
    unfold Live.fireCallLeave
    rw [found]
  have posted := post_offered (s.takeOut r)
    (.callRemoved r.key r.number r.circuit r.level (s.placeOf r.key) .fireDemand)
  rw [number_of_face face, key, circuit, level] at posted
  rw [left]
  refine ⟨post_unrung (takeOut_unrung key circuit) _, s.placeOf (.fire c), ?_⟩
  unfold Live.removeCall
  rw [number_of_face face, key, circuit, level]
  exact posted

theorem fireCallLeave_keeps_left {s : Live} {c : Nat} (h : FireLeft c s) (d : Nat) : FireLeft c (s.fireCallLeave d) := by
  refine ⟨?_, h.2.imp fun _ offered => (fireCallLeave_only s d).offered offered⟩
  unfold Live.fireCallLeave
  split
  · exact post_unrung (takeOut_keeps_unrung h.1 _) _
  · exact h.1

section
variable (s : Live) {l : List Nat}

theorem leaveAll_face {key : CallKey} (stays : ∀ c ∈ l, key ≠ .fire c) :
    FaceStands key s (l.foldl Live.fireCallLeave s) := by
  induction l generalizing s with
  | nil => exact (faceStands_composes key).refl s
  | cons c rest ih =>
    exact (faceStands_composes key).trans (fireCallLeave_face s (stays c List.mem_cons_self))
      (ih _ fun d mem => stays d (List.mem_cons_of_mem _ mem))

theorem leaveAll_call (nodup : l.Nodup) {c : Nat} (mem : c ∈ l) :
    (l.foldl Live.fireCallLeave s).call (.fire c) = none :=
  foldl_establishes (P := fun t => t.call (.fire c) = none) (Q := fun _ => True) (fun _ _ _ _ => trivial)
    (fun t _ => fireCallLeave_call t c)
    (fun t d other absent => by
      have stands := fireCallLeave_face t (c := d) (key := .fire c) (by simpa using Ne.symm other)
      rw [FaceStands, absent] at stands
      simpa using stands) nodup mem trivial

theorem leaveAll_left (nodup : l.Nodup) {c : Nat} (mem : c ∈ l)
    (standing : (s.call (.fire c)).map callFace = some (.fire c, c, 7, .fire)) :
    FireLeft c (l.foldl Live.fireCallLeave s) :=
  foldl_establishes (P := FireLeft c) (Q := fun t => (t.call (.fire c)).map callFace = some (.fire c, c, 7, .fire))
    (fun t d other stands => (fireCallLeave_face t (c := d) (by simpa using Ne.symm other)).trans stands)
    (fun _ stands => fireCallLeave_left stands) (fun _ d _ left => fireCallLeave_keeps_left left d) nodup mem standing

end

end Sys2Proof.Machine

/-! # O36: the zone requests

What a silence or a reset takes out of the demand is withdrawn (`Withdrawn`): the fire calls of the circuits that leave, and
the channels and the context zone that the evacuation entry is handed anew (R88 to R91). -/

namespace Sys2Proof.Machine

-- one thread: a proof that waits for the theorems before it would hold a thread of its own
set_option Elab.async false

/-! ## One zone set (R78, R82) -/

/-- What setting a zone touches. -/
abbrev zoneSetParts : List Part := [.zones, .portC, .portF]

theorem setZone_keeps (s : Live) (z : Nat) (r : ZoneRecord) : Keeps zoneSetParts s (s.setZone z r) :=
  Keeps.next (keeps_of (t := s.withZone z r) (by intro q hq; cases q <;> simp_all [samePart]) rfl rfl) (post_only _ _)

theorem zone_setZone_same (s : Live) {z : Nat} (hz : z < 16) (r : ZoneRecord) : (s.setZone z r).zone z = r :=
  s.zone_withZone_same z r hz

theorem zone_setZone_other (s : Live) {z y : Nat} (h : y ≠ z) (r : ZoneRecord) : (s.setZone z r).zone y = s.zone y :=
  Bank.read_put_other _ _ _ _ _ (Ne.symm h)

/-- Every zone in ALARM stays there and none enters it: the shutters and the landings of the demand stand. -/
theorem demand_alarms {s t : Live} (plan : t.plan = s.plan) (alarms : ∀ z, t.inAlarm z = s.inAlarm z) :
    t.demand.shutters = s.demand.shutters ∧ t.demand.landings = s.demand.landings := by
  simp only [Live.demand, plan, alarms, and_self]

/-- No zone begins to sound: no circuit enters the demand (R87). -/
theorem demand_circuits_of_sounds {s t : Live} (plan : t.plan = s.plan)
    (sounds : ∀ z, t.sounds z = true → s.sounds z = true) {c : Nat} (mem : c ∈ t.demand.circuits) :
    c ∈ s.demand.circuits := by
  obtain ⟨bound, z, heard, listed⟩ := mem_demand_circuits.mp mem
  exact mem_demand_circuits.mpr ⟨bound, z, sounds z heard, plan ▸ listed⟩

/-- A zone set so that it does not sound makes no zone sound. -/
theorem setZone_sounds {s : Live} {z : Nat} (hz : z < 16) {r : ZoneRecord} (quiet : r.state ≠ .alarm ∨ r.silenced = true)
    {y : Nat} (heard : (s.setZone z r).sounds y = true) : s.sounds y = true := by
  obtain ⟨alarm, unsilenced⟩ := sounds_iff.mp heard
  by_cases own : y = z
  · subst own
    rw [zone_setZone_same s hz] at unsilenced
    rw [Live.inAlarm, zone_setZone_same s hz, beq_iff_eq] at alarm
    rcases quiet with other | silenced
    · exact absurd alarm other
    · rw [silenced] at unsilenced
      cases unsilenced
  · rw [zone_setZone_other s own] at unsilenced
    rw [Live.inAlarm, zone_setZone_other s own] at alarm
    exact sounds_iff.mpr ⟨alarm, unsilenced⟩

/-! ## The demand handed on (R88 to R91) -/

theorem handSpeech_same {s : Live} {before : Demand} (channels : s.demand.channels = before.channels)
    (context : s.demand.context = before.context) : s.handSpeech before = s := if_pos ⟨channels, context⟩

theorem handSpeech_changed {s : Live} {before : Demand}
    (changed : s.demand.channels ≠ before.channels ∨ s.demand.context ≠ before.context) :
    s.handSpeech before = s.evacDemand s.demand.channels s.demand.context :=
  if_neg fun same => changed.elim (absurd same.1) (absurd same.2)

theorem demand_of_keeps {ps : List Part} {s t : Live} (h : Keeps ps s t) (hz : .zones ∉ ps := by decide)
    (hs : .store ∉ ps := by decide) : t.demand = s.demand :=
  demand_of_same s (h.parts .zones hz) (plan_of_store (h.parts .store hs))

/-- The shutter set handed to the Shutter Controller (R88). -/
def Live.fireSetHanded (s : Live) : Live := { s with gear := { s.gear with fireSet := s.demand.shutters } }

theorem fireSetHanded_keeps (s : Live) : Keeps [.gear] s s.fireSetHanded :=
  keeps_of (by intro q hq; cases q <;> simp_all [samePart, Live.fireSetHanded]) rfl rfl

theorem handDemand_eq (s : Live) (before : Demand) :
    s.handDemand before = (s.fireSetHanded.handCircuits before.circuits).handSpeech before := rfl

/-- With no circuit entering, the fire calls of those that left leave the list (R131). -/
theorem handCircuits_leaves {s : Live} {before : List Nat} (shrinks : ∀ c ∈ s.demand.circuits, c ∈ before) :
    s.handCircuits before = (before.filter fun c => !s.demand.circuits.contains c).foldl Live.fireCallLeave s := by
  have entering : (s.demand.circuits.filter fun c => !before.contains c) = [] :=
    List.filter_eq_nil_iff.mpr fun c mem => by simp [shrinks c mem]
  unfold Live.handCircuits
  dsimp only
  rw [entering]
  rfl

/-! ## What leaves the demand is withdrawn -/

/-- A play of the entry under an empty set, and under one that keeps a channel of it (R159, R163). -/
def EntryWithdrawn (now : Demand) (s t : Live) : Prop :=
  (now.channels = [] → s.speech.evac.state ≠ .playing → t.speech.evac = ⟨.inactive, [], now.context, none⟩) ∧
  (∀ pl r, s.speech.evac.state = .playing → s.evacPlayer = some pl → (s.player pl).request = some r →
    (now.channels = [] → t.speech.evac.state = .inactive ∧ (t.player pl).phase = .idle ∧
      t.offered (.speakAbandoned r.tag r.cls r.origin .demand (s.player pl).item) ∧
      ∀ ch, (s.channel ch).holder = some pl → ch ∉ now.channels → t.channel ch = (s.channel ch).givenUp) ∧
    ((s.player pl).phase = .playing → (∃ ch ∈ now.channels, (s.channel ch).holder = some pl) →
      t.speech.evac.state = .playing ∧ (t.player pl).phase = .playing ∧
      ∀ ch, (s.channel ch).holder = some pl → ch ∉ now.channels → t.channel ch = (s.channel ch).givenUp))

/-- What leaves the demand from `s` to `t` is withdrawn from the shutters, the calls, the circuits and the entry. -/
structure Withdrawn (s t : Live) : Prop where
  fireSet : t.gear.fireSet = t.demand.shutters
  stands : ∀ key, (∀ c, key = .fire c → c ∉ s.demand.circuits ∨ c ∈ t.demand.circuits) →
    (t.call key).isSome = (s.call key).isSome
  left : ∀ c ∈ s.demand.circuits, c ∉ t.demand.circuits → t.call (.fire c) = none ∧
    (CallOrder s.calls → (s.call (.fire c)).isSome = true → FireLeft c t)
  speech : t.demand.channels = s.demand.channels → t.demand.context = s.demand.context → t.speech = s.speech
  entry : t.demand.channels ≠ s.demand.channels ∨ t.demand.context ≠ s.demand.context →
    (t.speech.evac.channels = t.demand.channels ∧ t.speech.evac.context = t.demand.context) ∧
    (∃ u, onlyParts [.zones, .gear, .calls, .circuits, .image, .loop, .portC, .portF] s u ∧
      u.plan = s.plan ∧ u.loop.ready = s.loop.ready ∧
      t.speech = (u.evacDemand t.demand.channels t.demand.context).speech) ∧
    (s.speech.queue = [] → EntryWithdrawn t.demand s t)

/-- What the handed set does to the entry of a part whose queue is empty. -/
theorem evacDemand_withdrawn {s u : Live} (speech : u.speech = s.speech) (queue : s.speech.queue = []) (now : Demand) :
    EntryWithdrawn now s (u.evacDemand now.channels now.context) := by
  have queue_ : u.speech.queue = [] := by rw [speech, queue]
  have player pl : u.player pl = s.player pl := by cases pl <;> simp only [Live.player, speech]
  have channel ch : u.channel ch = s.channel ch := by simp only [Live.channel, speech]
  have evacPlayer : u.evacPlayer = s.evacPlayer := by simp only [Live.evacPlayer, player]
  refine ⟨fun empty unplayed => ?_, fun pl r state playing request => ⟨fun empty => ?_, fun phase kept => ?_⟩⟩
  · rw [empty]
    exact evacDemand_inactive queue_ now.context (by rwa [speech])
  · have stopped := evacDemand_stops queue_ now.context (by rwa [speech]) (evacPlayer.trans playing) (r := r)
      (by rw [player, request])
    rw [empty]
    simp only [player, channel] at stopped
    exact ⟨stopped.1, stopped.2.1, stopped.2.2.1, fun ch held _ => stopped.2.2.2 ch held⟩
  · obtain ⟨ch, mem, held⟩ := kept
    have played := evacDemand_plays_on queue_ now.context (by rwa [speech]) (evacPlayer.trans playing)
      (by rw [player, phase]) mem (by rw [channel, held])
    simp only [channel] at played
    exact played

/-- R88 to R91: after a change of one zone that makes no circuit enter the demand, what leaves it is withdrawn. -/
theorem handDemand_withdraws {s u : Live} (changed : Keeps zoneSetParts s u)
    (shrinks : ∀ c ∈ u.demand.circuits, c ∈ s.demand.circuits) : Withdrawn s (u.handDemand s.demand) := by
  have handed := fireSetHanded_keeps u
  have demandW : u.fireSetHanded.demand = u.demand := demand_of_keeps handed
  have circuits := handCircuits_only u.fireSetHanded s.demand.circuits
  have demandX := (demand_of_keeps circuits).trans demandW
  have leaves := handCircuits_leaves (s := u.fireSetHanded) (before := s.demand.circuits) (by rwa [demandW])
  have ready := (handCircuits_stands u.fireSetHanded s.demand.circuits).ready
  rw [handDemand_eq]
  generalize u.fireSetHanded.handCircuits s.demand.circuits = x at circuits demandX leaves ready ⊢
  have spoken := handSpeech_only x s.demand
  have demandT := (demand_of_keeps spoken).trans demandX
  have speechX : x.speech = s.speech := by
    rw [circuits.parts .speech (by decide), handed.parts .speech (by decide), changed.parts .speech (by decide)]
  have callsW : u.fireSetHanded.calls = s.calls := by
    rw [handed.parts .calls (by decide), changed.parts .calls (by decide)]
  have callW := call_of_calls callsW
  have callT := call_of_calls (spoken.parts .calls (by decide))
  have nodup : (s.demand.circuits.filter fun c => !u.fireSetHanded.demand.circuits.contains c).Nodup :=
    (demand_circuits_nodup s).filter _
  have mem_left {c : Nat} : c ∈ (s.demand.circuits.filter fun c => !u.fireSetHanded.demand.circuits.contains c) ↔
      c ∈ s.demand.circuits ∧ c ∉ u.demand.circuits := by simp [demandW]
  refine ⟨?_, fun key stays => ?_, fun c was gone => ⟨?_, fun order standing => ?_⟩, fun channels context => ?_,
    fun differs => ?_⟩
  · rw [demandT, spoken.parts .gear (by decide), circuits.parts .gear (by decide)]
    rfl
  · rw [callT, leaves, ← callW]
    refine (leaveAll_face _ fun c mem own => ?_).isSome
    obtain ⟨was, gone⟩ := mem_left.mp mem
    rw [demandT] at stays
    exact (stays c own).elim (absurd was) fun now => gone now
  · rw [callT, leaves]
    exact leaveAll_call _ nodup (mem_left.mpr ⟨was, demandT ▸ gone⟩)
  · obtain ⟨r, found⟩ := Option.isSome_iff_exists.mp standing
    have left : FireLeft c x := by
      rw [leaves]
      exact leaveAll_left _ nodup (mem_left.mpr ⟨was, demandT ▸ gone⟩)
        (by rw [callW, found, Option.map_some, order.face found])
    obtain ⟨⟨call, ring⟩, place, offered⟩ := left
    refine ⟨⟨(callT _).trans call, fun g rings => ring g ?_⟩, place, spoken.offered offered⟩
    rwa [circuit_of_circuits (spoken.parts .circuits (by decide))] at rings
  · rw [demandT, ← demandX] at channels context
    rw [handSpeech_same channels context, speechX]
  · rw [demandT] at differs ⊢
    rw [handSpeech_changed (by rwa [demandX]), demandX]
    refine ⟨evacDemand_set x _ _, ⟨x, ?_, ?_, ?_, rfl⟩, fun queue => evacDemand_withdrawn speechX queue _⟩
    · exact onlyParts_trans (onlyParts_widen changed.parts (by decide))
        (onlyParts_trans (onlyParts_widen handed.parts (by decide)) (onlyParts_widen circuits.parts (by decide)))
    · rw [plan_of_store (circuits.parts .store (by decide)), plan_of_store (handed.parts .store (by decide)),
        plan_of_store (changed.parts .store (by decide))]
    · rw [ready, show u.fireSetHanded.loop = s.loop from
        (handed.parts .loop (by decide)).trans (changed.parts .loop (by decide))]

/-! ## What a request that hands the demand on leaves -/

abbrev handedParts : List Part := [.zones, .gear, .calls, .circuits, .image, .loop, .speech, .portC, .portF]

theorem handDemand_keeps (s : Live) (d : Demand) : Keeps handedParts s (s.handDemand d) :=
  Keeps.next (Keeps.next (keeps_widen (fireSetHanded_keeps s)) (handCircuits_only _ _)) (handSpeech_only _ _)

theorem setZone_handed_keeps (s : Live) (z : Nat) (r : ZoneRecord) (d : Demand) :
    Keeps handedParts s ((s.setZone z r).handDemand d) :=
  keeps_trans (keeps_widen (setZone_keeps s z r)) (handDemand_keeps _ d)

theorem handDemand_zones (s : Live) (d : Demand) : (s.handDemand d).zones = s.zones :=
  ((handSpeech_only _ _).parts .zones (by decide)).trans ((handCircuits_only _ _).parts .zones (by decide))

/-- Handing the demand on moves no shutter (R88). -/
theorem handDemand_records (s : Live) (d : Demand) : (s.handDemand d).gear.records = s.gear.records := by
  have gear : ((s.fireSetHanded.handCircuits d.circuits).handSpeech d).gear = s.fireSetHanded.gear :=
    ((handSpeech_only _ d).parts .gear (by decide)).trans ((handCircuits_only _ _).parts .gear (by decide))
  rw [handDemand_eq, gear]
  rfl

theorem zone_of_zones {s t : Live} (h : t.zones = s.zones) (z : Nat) : t.zone z = s.zone z := by
  rw [Live.zone, h, Live.zone]

theorem Withdrawn.delivered {s v t : Live} (h : Withdrawn s v) (d : Delivered v t) : Withdrawn s t := by
  have demand : t.demand = v.demand :=
    demand_of_same v (d.parts .zones (by decide)) (plan_of_store (d.parts .store (by decide)))
  have speech : t.speech = v.speech := d.parts .speech (by decide)
  have call := call_of_calls (d.parts .calls (by decide))
  have circuit := circuit_of_circuits (d.parts .circuits (by decide))
  have player pl : t.player pl = v.player pl := by cases pl <;> simp only [Live.player, speech]
  have channel ch : t.channel ch = v.channel ch := by simp only [Live.channel, speech]
  refine ⟨?_, fun key => ?_, fun c was => ?_, ?_, ?_⟩
  · rw [demand, d.parts .gear (by decide)]
    exact h.fireSet
  · rw [demand, call]
    exact h.stands key
  · rw [demand, call]
    refine fun gone => (h.left c was gone).imp_right fun left order standing => ?_
    obtain ⟨⟨call_, ring⟩, place, offered⟩ := left order standing
    exact ⟨⟨(call _).trans call_, fun g rings => ring g (circuit c ▸ rings)⟩, place, d.offered offered⟩
  · rw [demand, speech]
    exact h.speech
  · rw [demand, speech]
    refine fun differs => (h.entry differs).imp_right (And.imp_right fun entry queue => ?_)
    obtain ⟨unplayed, played⟩ := entry queue
    refine ⟨by rw [speech]; exact unplayed, fun pl r state player_ request => ?_⟩
    obtain ⟨stopped, playsOn⟩ := played pl r state player_ request
    simp only [speech, player, channel]
    exact ⟨fun empty => (stopped empty).imp_right (And.imp_right (And.imp_left d.offered)), playsOn⟩

theorem onZone_present {u : Live} {z : Nat} (hz : z < 16) (present : (u.plan.zone z).present = true) (h : Live → Handled) :
    onZone z h u = h u := by
  rw [onZone, if_neg (Nat.not_le.mpr hz), if_pos present]

theorem onZone_absent {u : Live} {z : Nat} (hz : z < 16) (absent : (u.plan.zone z).present = false) (h : Live → Handled) :
    onZone z h u = answer u .noSuch := by
  rw [onZone, if_neg (Nat.not_le.mpr hz), if_neg (by simp [absent])]

theorem onZone_beyond {u : Live} {z : Nat} (hz : 16 ≤ z) (h : Live → Handled) : onZone z h u = answer u .badValue :=
  if_pos hz

/-! ## What each request answers (R83 to R86) -/

section
variable {u : Live} {z : Nat}

theorem zoneIsolate_takes (state : (u.zone z).state = .normal ∨ (u.zone z).state = .fault) :
    zoneIsolate z u = answer (u.setZone z { u.zone z with state := .isolated }) .done := by
  unfold zoneIsolate
  rcases state with h | h <;> rw [h]

theorem zoneIsolate_isolated (state : (u.zone z).state = .isolated) : zoneIsolate z u = answer u .done := by
  unfold zoneIsolate
  rw [state]

theorem zoneIsolate_busy (state : (u.zone z).state = .alarm) : zoneIsolate z u = answer u (.busy .state z) := by
  unfold zoneIsolate
  rw [state]

theorem zoneRestore_takes (state : (u.zone z).state = .isolated) : zoneRestore z u = answer (u.restoreZone z) .done := by
  unfold zoneRestore
  rw [state]

theorem zoneRestore_busy (state : (u.zone z).state ≠ .isolated) : zoneRestore z u = answer u (.busy .state z) := by
  unfold zoneRestore
  split
  · exact absurd ‹_› state
  all_goals rfl

theorem zoneSilence_takes (state : (u.zone z).state = .alarm) : zoneSilence z u = answer (u.silenceZone z) .done := by
  unfold zoneSilence
  rw [state]

theorem zoneSilence_busy (state : (u.zone z).state ≠ .alarm) : zoneSilence z u = answer u (.busy .state z) := by
  unfold zoneSilence
  split
  · exact absurd ‹_› state
  all_goals rfl

theorem silenceZone_again (silenced : (u.zone z).silenced = true) : u.silenceZone z = u := if_pos silenced

theorem silenceZone_first (sounding : (u.zone z).silenced = false) :
    u.silenceZone z = (u.setZone z { u.zone z with silenced := true }).handDemand u.demand := if_neg (by simp [sounding])

theorem zoneReset_takes (state : (u.zone z).state = .alarm) (none_ : u.alarmedDetector z = none) :
    zoneReset z u = answer (u.resetZone z) .done := by
  unfold zoneReset
  rw [state, none_]

theorem zoneReset_detector (state : (u.zone z).state = .alarm) {d : Nat} (some_ : u.alarmedDetector z = some d) :
    zoneReset z u = answer u (.busy .detector d) := by
  unfold zoneReset
  rw [state, some_]

theorem zoneReset_busy (state : (u.zone z).state ≠ .alarm) : zoneReset z u = answer u (.busy .state z) := by
  unfold zoneReset
  split
  · exact absurd ‹_› state
  all_goals rfl

theorem restoreZone_line (none_ : u.alarmedDetector z = none) :
    u.restoreZone z = u.setZone z { u.zone z with state := u.lineCondition z } := by
  unfold Live.restoreZone
  rw [none_]

theorem restoreZone_latches {d : Nat} (some_ : u.alarmedDetector z = some d) : u.restoreZone z = u.latch z d := by
  unfold Live.restoreZone
  rw [some_]

end

/-! ## What each accepted request leaves (R83 to R86) -/

/-- One zone's record replaced, its ZONE STATE posted, and every other zone as it was. -/
structure ZoneTaken (z : Nat) (r : ZoneRecord) (s t : Live) : Prop where
  own : t.zone z = r
  others : ∀ y, y ≠ z → t.zone y = s.zone y
  noted : t.offered (zoneNote z r)

theorem setZone_taken (s : Live) {z : Nat} (hz : z < 16) (r : ZoneRecord) : ZoneTaken z r s (s.setZone z r) :=
  ⟨zone_setZone_same s hz r, fun _ other => zone_setZone_other s other r, post_offered _ _⟩

theorem ZoneTaken.next {ps : List Part} {z : Nat} {r : ZoneRecord} {s t u : Live} (h : ZoneTaken z r s t) (g : Keeps ps t u)
    (zones : u.zones = t.zones) (hc : .clock ∉ ps := by decide) : ZoneTaken z r s u :=
  ⟨(zone_of_zones zones z).trans h.own, fun y other => (zone_of_zones zones y).trans (h.others y other),
    g.offered h.noted hc⟩

theorem ZoneTaken.delivered {z : Nat} {r : ZoneRecord} {s v t : Live} (h : ZoneTaken z r s v) (d : Delivered v t) :
    ZoneTaken z r s t :=
  have zone := zone_of_zones (d.parts .zones (by decide))
  ⟨(zone z).trans h.own, fun y other => (zone y).trans (h.others y other), d.offered h.noted⟩

/-- R85, R86: a zone set so that it does not sound, with what leaves the demand withdrawn. -/
theorem setZone_handed (s : Live) {z : Nat} (hz : z < 16) {r : ZoneRecord}
    (quiet : r.state ≠ .alarm ∨ r.silenced = true) :
    ZoneTaken z r s ((s.setZone z r).handDemand s.demand) ∧ Withdrawn s ((s.setZone z r).handDemand s.demand) ∧
    ((s.setZone z r).handDemand s.demand).gear.records = s.gear.records := by
  have set_ := setZone_keeps s z r
  refine ⟨(setZone_taken s hz r).next (handDemand_keeps _ _) (handDemand_zones _ _),
    handDemand_withdraws set_ fun c mem => ?_, handDemand_records _ _⟩
  exact demand_circuits_of_sounds (plan_of_store (set_.parts .store (by decide))) (fun y => setZone_sounds hz quiet) mem

/-- A silenced zone stays in ALARM: its shutters and landings stay in the demand (R85, R87). -/
theorem silenceZone_demand {s : Live} {z : Nat} (hz : z < 16) (d : Demand) :
    let t := (s.setZone z { s.zone z with silenced := true }).handDemand d
    t.demand.shutters = s.demand.shutters ∧ t.demand.landings = s.demand.landings := by
  have handed : ((s.setZone z { s.zone z with silenced := true }).handDemand d).zones =
      (s.setZone z { s.zone z with silenced := true }).zones := handDemand_zones _ d
  refine demand_alarms ?_ fun y => ?_
  · rw [plan_of_store ((handDemand_keeps _ d).parts .store (by decide)),
      plan_of_store ((setZone_keeps s z _).parts .store (by decide))]
  · rw [inAlarm_of_zones handed]
    by_cases own : y = z
    · rw [own, Live.inAlarm, zone_setZone_same s hz]
      rfl
    · rw [Live.inAlarm, zone_setZone_other s own]
      rfl

/-! ## Each accepted request as a command -/

section
variable {s : State} {z : Nat} (hz : z < 16) (present : (s.live.plan.zone z).present = true)
include hz present

theorem exec_zoneIsolate_takes (taken : s.canTake .c .zoneIsolate)
    (state : (s.live.zone z).state = .normal ∨ (s.live.zone z).state = .fault) :
    ∃ t, exec (.zoneIsolate .c (.fits z)) s = .next t ∧ t.replied .c .zoneIsolate .done .none ∧
      ZoneTaken z { s.live.zone z with state := .isolated } s.live t.live ∧ t.live.store = s.live.closeCursor.store ∧
      changesOnly [.zones, .store, .portC, .portF] s t := by
  have set_ := setZone_keeps (s.begun .c) z { s.live.zone z with state := .isolated }
  obtain ⟨t, ran, delivered, replied, only⟩ := breakingRequest_acts (ps := [.zones, .store, .portC, .portF]) taken nofun
    ((onZone_present (u := s.begun .c) hz present _).trans (zoneIsolate_takes state)) set_
  have zone := (setZone_taken (s.begun .c) hz { s.live.zone z with state := .isolated }).delivered delivered
  exact ⟨t, ran, replied, ⟨zone.own, zone.others, zone.noted⟩,
    (delivered.parts .store (by decide)).trans (set_.parts .store (by decide)), only⟩

theorem exec_zoneRestore_line (taken : s.canTake .c .zoneRestore) (state : (s.live.zone z).state = .isolated)
    (none_ : s.live.alarmedDetector z = none) :
    ∃ t, exec (.zoneRestore .c (.fits z)) s = .next t ∧ t.replied .c .zoneRestore .done .none ∧
      ZoneTaken z { s.live.zone z with state := s.live.lineCondition z } s.live t.live ∧
      changesOnly [.zones, .store, .portC, .portF] s t := by
  have restored : (s.begun .c).restoreZone z =
      (s.begun .c).setZone z { s.live.zone z with state := s.live.lineCondition z } :=
    restoreZone_line (u := s.begun .c) none_
  obtain ⟨t, ran, delivered, replied, only⟩ := breakingRequest_acts (ps := [.zones, .store, .portC, .portF]) taken nofun
    ((onZone_present (u := s.begun .c) hz present _).trans (zoneRestore_takes state)) (restored ▸ setZone_keeps _ z _)
  rw [restored] at delivered
  have zone := (setZone_taken (s.begun .c) hz _).delivered delivered
  exact ⟨t, ran, replied, ⟨zone.own, zone.others, zone.noted⟩, only⟩

theorem exec_zoneRestore_latches (taken : s.canTake .c .zoneRestore) (state : (s.live.zone z).state = .isolated)
    {d : Nat} (some_ : s.live.alarmedDetector z = some d) :
    ∃ t, exec (.zoneRestore .c (.fits z)) s = .next t ∧ t.replied .c .zoneRestore .done .none ∧
      t.live.offered (.zoneAlarm z d) ∧ t.live.zone z = s.live.latchedZone z d ∧
      (∀ y, y ≠ z → t.live.zone y = s.live.zone y) ∧ t.live.closing.state ≠ .running := by
  have restored : (s.begun .c).restoreZone z = (s.begun .c).latch z d := restoreZone_latches (u := s.begun .c) some_
  obtain ⟨t, ran, delivered, replied, -⟩ := breakingRequest_acts (ps := .store :: zoneParts) taken nofun
    ((onZone_present (u := s.begun .c) hz present _).trans (zoneRestore_takes state)) (restored ▸ latch_only _ z d)
  rw [restored] at delivered
  have zones : t.live.zones = s.live.zones.put z (s.live.latchedZone z d) :=
    (delivered.parts .zones (by decide)).trans (latch_zones (s.begun .c) z d)
  have zone := zone_of_zones (t := t.live) (s := s.live.withZone z (s.live.latchedZone z d)) zones
  refine ⟨t, ran, replied, delivered.offered (latch_offered _ z d), (zone z).trans (Live.zone_withZone_same _ _ _ hz),
    fun y other => (zone y).trans (Bank.read_put_other _ _ _ _ _ (Ne.symm other)), ?_⟩
  rw [delivered.parts .closing (by decide)]
  exact latch_stopped (s.begun .c) z d

/-- A silence or a reset as it is answered: the zone set to `r`, and what leaves the demand withdrawn. -/
def ZoneHanded (s : State) (k : Kind) (z : Nat) (r : ZoneRecord) (t : State) : Prop :=
  t.replied .c k .done .none ∧ ZoneTaken z r s.live t.live ∧ t.live.gear.records = s.live.gear.records ∧
  Withdrawn (s.begun .c) t.live ∧
  changesOnly [.zones, .gear, .calls, .circuits, .image, .loop, .speech, .store, .portC, .portF] s t

omit present in
/-- What a delivered silence or reset leaves. -/
theorem zoneHanded_of_delivered {k : Kind} {r : ZoneRecord} {t : State} (quiet : r.state ≠ .alarm ∨ r.silenced = true)
    (delivered : Delivered (((s.begun .c).setZone z r).handDemand s.live.demand) t.live)
    (replied : t.replied .c k .done .none)
    (only : changesOnly [.zones, .gear, .calls, .circuits, .image, .loop, .speech, .store, .portC, .portF] s t) :
    ZoneHanded s k z r t := by
  obtain ⟨zone, withdrawn, records⟩ := setZone_handed (s.begun .c) hz quiet
  have zone := zone.delivered delivered
  exact ⟨replied, ⟨zone.own, zone.others, zone.noted⟩,
    (congrArg ShutterGear.records (delivered.parts .gear (by decide))).trans records, withdrawn.delivered delivered, only⟩

theorem exec_zoneSilence_takes (taken : s.canTake .c .zoneSilence) (state : (s.live.zone z).state = .alarm)
    (sounding : (s.live.zone z).silenced = false) :
    ∃ t, exec (.zoneSilence .c (.fits z)) s = .next t ∧
      ZoneHanded s .zoneSilence z { s.live.zone z with silenced := true } t ∧
      t.live.demand.shutters = s.live.demand.shutters ∧ t.live.demand.landings = s.live.demand.landings := by
  have silenced : (s.begun .c).silenceZone z =
      ((s.begun .c).setZone z { s.live.zone z with silenced := true }).handDemand s.live.demand :=
    silenceZone_first (u := s.begun .c) sounding
  obtain ⟨t, ran, delivered, replied, only⟩ := breakingRequest_acts
    (ps := [.zones, .gear, .calls, .circuits, .image, .loop, .speech, .store, .portC, .portF]) taken nofun
    ((onZone_present (u := s.begun .c) hz present _).trans (zoneSilence_takes state))
    (silenced ▸ setZone_handed_keeps _ z _ _)
  rw [silenced] at delivered
  have demand : t.live.demand = _ :=
    demand_of_same _ (delivered.parts .zones (by decide)) (plan_of_store (delivered.parts .store (by decide)))
  refine ⟨t, ran, zoneHanded_of_delivered hz (.inr rfl) delivered replied only, ?_⟩
  rw [demand]
  exact silenceZone_demand (s := s.begun .c) hz _

theorem exec_zoneReset_takes (taken : s.canTake .c .zoneReset) (state : (s.live.zone z).state = .alarm)
    (none_ : s.live.alarmedDetector z = none) :
    ∃ t, exec (.zoneReset .c (.fits z)) s = .next t ∧
      ZoneHanded s .zoneReset z ⟨(s.live.zone z).present, s.live.lineCondition z, false, none, none⟩ t := by
  obtain ⟨t, ran, delivered, replied, only⟩ := breakingRequest_acts
    (ps := [.zones, .gear, .calls, .circuits, .image, .loop, .speech, .store, .portC, .portF]) taken nofun
    ((onZone_present (u := s.begun .c) hz present _).trans (zoneReset_takes (u := s.begun .c) state none_))
    (setZone_handed_keeps _ z _ _)
  exact ⟨t, ran, zoneHanded_of_delivered hz (.inl (lineCondition_quiet s.live z)) delivered replied only⟩

end

/-! ## The settlement -/

/-- Settles O36. -/
theorem zoneRequestsEffect : Obligations.ZoneRequestsEffect := by
  have beyond {s : State} {k : Kind} {z : Nat} (hz : 16 ≤ z) (h : Nat → Live → Handled) (taken : s.canTake .c k) :
      onLive s (breakingRequest .c k (.fits z) fun z => onZone z (h z)) =
        .next ((s.loadClosed .c).served .c k .badValue .none) :=
    breakingRequest_unchanged taken nofun (onZone_beyond (u := s.begun .c) hz _)
  have absent {s : State} {k : Kind} {z : Nat} (hz : z < 16) (none_ : (s.live.plan.zone z).present = false)
      (h : Nat → Live → Handled) (taken : s.canTake .c k) :
      onLive s (breakingRequest .c k (.fits z) fun z => onZone z (h z)) =
        .next ((s.loadClosed .c).served .c k .noSuch .none) :=
    breakingRequest_unchanged taken nofun (onZone_absent (u := s.begun .c) hz none_ _)
  have stands {s : State} {k : Kind} {z : Nat} {r : Result} (hz : z < 16) (present : (s.live.plan.zone z).present = true)
      (h : Nat → Live → Handled) (taken : s.canTake .c k) (rule : h z (s.begun .c) = answer (s.begun .c) r) :
      onLive s (breakingRequest .c k (.fits z) fun z => onZone z (h z)) = .next ((s.loadClosed .c).served .c k r .none) :=
    breakingRequest_unchanged taken nofun ((onZone_present (u := s.begun .c) hz present _).trans rule)
  refine ⟨fun s z taken => ⟨fun hz present => ⟨fun state => ?isolate,
      fun state => stands hz present _ taken (zoneIsolate_isolated state),
      fun state => stands hz present _ taken (zoneIsolate_busy state)⟩,
    fun hz none_ => absent hz none_ _ taken, fun hz => beyond hz _ taken⟩, ?others⟩
  case isolate =>
    obtain ⟨t, ran, replied, zone, store, only⟩ := exec_zoneIsolate_takes hz present taken state
    exact ⟨t, ran, replied, zone.own, zone.others, zone.own ▸ zone.noted, store, only⟩
  intro s z refused withdrawn
  have meets {t : State} (w : Withdrawn (s.begun .c) t.live) : withdrawn t := by
    refine ⟨w.fireSet, w.stands, fun c was gone => (w.left c was gone).imp_right fun left order standing => ?_, w.speech,
      fun differs => ?_⟩
    · obtain ⟨unrung, posted⟩ := left order standing
      exact ⟨unrung.ring, posted⟩
    · obtain ⟨⟨channels, context⟩, ⟨u, only, handed⟩, played⟩ := w.entry differs
      exact ⟨channels, context, ⟨u, onlyParts_trans (onlyParts_widen (begun_only s .c) (by decide))
        (onlyParts_widen only (by decide)), handed⟩, played⟩
  refine ⟨fun hz => ⟨beyond hz _, beyond hz _, beyond hz _⟩,
    fun hz none_ => ⟨absent hz none_ _, absent hz none_ _, absent hz none_ _⟩,
    fun hz present state taken => stands hz present _ taken (zoneRestore_busy state),
    fun hz present state => ⟨fun taken => stands hz present _ taken (zoneSilence_busy state),
      fun taken => stands hz present _ taken (zoneReset_busy state)⟩,
    fun hz present => ⟨fun taken state => ⟨fun none_ => ?line, fun d some_ => ?latches⟩,
      fun taken state => ⟨fun sounding => ?silence, fun silenced => ?again⟩,
      fun taken state => ⟨fun none_ => ?reset, fun d some_ => ?detector⟩⟩⟩
  case line =>
    obtain ⟨t, ran, replied, zone, only⟩ := exec_zoneRestore_line hz present taken state none_
    exact ⟨t, ran, replied, zone.own, zone.others, zone.own ▸ zone.noted, only⟩
  case latches => exact exec_zoneRestore_latches hz present taken state some_
  case silence =>
    obtain ⟨t, ran, ⟨replied, zone, records, w, only⟩, shutters, landings⟩ :=
      exec_zoneSilence_takes hz present taken state sounding
    exact ⟨t, ran, replied, zone.own, zone.others, records, shutters, landings, meets w, zone.own ▸ zone.noted, only⟩
  case again =>
    refine stands hz present _ taken ((zoneSilence_takes (u := s.begun .c) state).trans ?_)
    rw [silenceZone_again (u := s.begun .c) silenced]
  case reset =>
    obtain ⟨t, ran, replied, zone, records, w, only⟩ := exec_zoneReset_takes hz present taken state none_
    exact ⟨t, ran, replied, zone.own, zone.others, records, meets w, zone.own ▸ zone.noted, only⟩
  case detector => exact stands hz present _ taken (zoneReset_detector (u := s.begun .c) state some_)

end Sys2Proof.Machine

/-! # A zone's contribution issued

The Shutter Controller's shutter set survives the close requests and the fire stop (R88), each shutter of the contribution is
left closing for FIRE or CLOSED (R99 to R102), and a chain at rest is held where a fire stop is due (R61). -/

namespace Sys2Proof.Machine

-- one thread: a proof that waits for the theorems before it would hold a thread of its own
set_option Elab.async false

/-! ## The shutter set stands -/

def FireSetStands (s t : Live) : Prop := t.gear.fireSet = s.gear.fireSet

theorem fireSetStands_composes : Composes FireSetStands := ⟨fun _ => rfl, fun h g => Eq.trans g h⟩

theorem fireSetStands_of_gear {s t : Live} (h : t.gear = s.gear) : FireSetStands s t := congrArg ShutterGear.fireSet h

theorem fireSetStands_shutterRule (k : Nat) : ShutterRule k FireSetStands where
  record _ _ := rfl
  change s r := (congrArg ShutterGear.fireSet (changeShutter_gear s k r) :)
  noted h := fireSetStands_of_gear (h.parts .gear (by decide))
  trans := fireSetStands_composes.trans

theorem judgeWhere_fireSet (s : Live) (which : Nat → Bool) : FireSetStands s (s.judgeWhere which) :=
  fireSetStands_composes.foldl _
    (fun t k => ChainRule.either ((fireSetStands_shutterRule k).judge t) (fireSetStands_composes.refl t)) _ s

theorem takeChainState_fireSet (s : Live) : FireSetStands s s.takeChainState :=
  ChainRule.either (fireSetStands_composes.refl s)
    (fireSetStands_composes.trans (t := { s with gear := { s.gear with chainCopy := s.chain.state } }) rfl
      (judgeWhere_fireSet _ _))

theorem rejudgeSill_fireSet (s : Live) (i : Nat) : FireSetStands s (s.rejudgeSill i) :=
  ChainRule.either (fireSetStands_composes.refl s)
    (fireSetStands_composes.trans (t := { s with
      monitor := { s.monitor with answers := s.monitor.answers.put i (s.sillAnswer i) }
      gear := { s.gear with answerCopy := s.gear.answerCopy.put i (s.sillAnswer i) } }) rfl (judgeWhere_fireSet _ _))

theorem driveTo_fireSet (s : Live) (d : DriveOutput) : FireSetStands s (s.driveTo d) := by
  have rejudged (t : Live) : FireSetStands t t.rejudge := fireSetStands_composes.foldl _ rejudgeSill_fireSet _ t
  unfold Live.driveTo
  split_ifs
  · rfl
  · rfl
  · refine fireSetStands_composes.trans ?_ (rejudged _)
    rfl
  · rfl

theorem setChain_gear (s : Live) (st : ChainState) : (s.setChain st).gear = s.gear := by
  unfold Live.setChain
  split <;> rfl

theorem endSweep_gear (s : Live) : s.endSweep.gear = s.gear := by
  unfold Live.endSweep
  split <;> rfl

theorem enterChain_fireSet (s : Live) (st : ChainState) : FireSetStands s (s.enterChain st) :=
  fireSetStands_composes.trans (fireSetStands_of_gear (setChain_gear s st)) (takeChainState_fireSet _)

theorem placeStop_fireSet (s : Live) (c : StopCause) : FireSetStands s (s.placeStop c) := by
  unfold Live.placeStop
  dsimp only
  split
  · refine fireSetStands_composes.trans ?_ (enterChain_fireSet _ _)
    rfl
  · refine fireSetStands_composes.trans (fireSetStands_composes.trans ?_ (driveTo_fireSet _ _)) (enterChain_fireSet _ _)
    rfl

theorem emergency_fireSet (s : Live) (r : EmergencyReason) (i : Nat) (st : ChainState) :
    FireSetStands s (s.emergency r i st) := by
  unfold Live.emergency
  extract_lets left t c u
  have braked : FireSetStands s (u.driveTo .brake) :=
    fireSetStands_composes.trans (t := u) (fireSetStands_of_gear (endSweep_gear s)) (driveTo_fireSet u _)
  have noted : FireSetStands (u.driveTo .brake)
      ((((u.driveTo .brake).setChain st).raiseWear .emergency).post (.chainEmergency r i left)) :=
    fireSetStands_of_gear (((post_only _ _).parts .gear (by decide)).trans
      (((raiseWear_only _ _).parts .gear (by decide)).trans (setChain_gear _ st)))
  exact fireSetStands_composes.trans (fireSetStands_composes.trans braked noted) (takeChainState_fireSet _)

theorem endWarning_fireSet (s : Live) (st : ChainState) : FireSetStands s (s.endWarning st) :=
  fireSetStands_composes.trans (fireSetStands_of_gear rfl) (enterChain_fireSet _ st)

theorem dropTo_fireSet (s : Live) (st : ChainState) : FireSetStands s (s.dropTo st) :=
  fireSetStands_composes.trans (fireSetStands_of_gear rfl) (enterChain_fireSet _ st)

theorem fireStop_fireSet (s : Live) : FireSetStands s s.fireStop := by
  unfold Live.fireStop
  split
  case h_1 =>
    exact ChainRule.either
      (fireSetStands_composes.trans (fireSetStands_of_gear (endSweep_gear s)) (placeStop_fireSet _ _))
      (emergency_fireSet s _ _ _)
  case h_3 => exact endWarning_fireSet s _
  case h_4 => exact emergency_fireSet s _ _ _
  case h_5 => exact dropTo_fireSet s _
  case h_9 => exact fireSetStands_composes.refl s
  all_goals exact enterChain_fireSet s _

theorem sillLeavesOpen_fireSet (s : Live) (k : Nat) (b : Bool) : FireSetStands s (s.sillLeavesOpen k b) := by
  unfold Live.sillLeavesOpen
  split
  case h_5 => exact endWarning_fireSet s _
  case h_1 | h_2 | h_3 | h_6 => exact emergency_fireSet s _ _ _
  all_goals exact fireSetStands_composes.refl s

theorem closeRequest_fireSet (s : Live) (k : Nat) (c : CloseCause) : FireSetStands s (s.closeRequest k c) := by
  have rule := fireSetStands_shutterRule k
  refine closeRequest_keeps fireSetStands_composes (fun s r b => ?_) rule.change rule.judge s c
  exact ChainRule.either (rule.trans (rule.change s r) (sillLeavesOpen_fireSet _ k b)) (rule.change s r)

/-- R88: the shutter set handed stands while the contribution is issued. -/
theorem issue_fireSet (s : Live) (z : Nat) : FireSetStands s (s.issue z) := by
  have closed := fireSetStands_composes.foldl (fun s k => s.closeRequest k .fire) (fun t k => closeRequest_fireSet t k .fire)
    (s.plan.contribution z) s
  exact ChainRule.either (fireSetStands_composes.trans closed (fireStop_fireSet _)) closed

/-! ## What judging makes of a shutter's record (R103 to R110) -/

/-- A record after a judging of the one before: the cause stands, and no jam begins. -/
structure JudgedFrom (r x : ShutterRecord) : Prop where
  cause : x.cause = r.cause
  unjammed : x.state = .jammed → r.state = .jammed

/-- Shutter `k`'s record from before to after. -/
def JudgedAt (k : Nat) (s t : Live) : Prop := JudgedFrom (s.shutter k) (t.shutter k)

theorem judgedAt_composes (k : Nat) : Composes (JudgedAt k) where
  refl _ := ⟨rfl, id⟩
  trans h g := ⟨g.cause.trans h.cause, h.unjammed ∘ g.unjammed⟩

theorem judgedAt_of_shutter {k : Nat} {s t : Live} (h : t.shutter k = s.shutter k) : JudgedAt k s t := by
  rw [JudgedAt, h]
  exact (judgedAt_composes k).refl s

section
variable {k : Nat} {s : Live}

theorem withShutter_judgedAt {r : ShutterRecord} (h : JudgedFrom (s.shutter k) r) : JudgedAt k s (s.withShutter k r) := by
  rcases Bank.read_put_cases s.gear.records k k (.start .unplaced none) r with stands | ⟨-, put⟩
  · exact judgedAt_of_shutter stands
  · rw [JudgedAt, show (s.withShutter k r).shutter k = r from put]
    exact h

theorem changeShutter_judgedAt {r : ShutterRecord} (h : JudgedFrom (s.shutter k) r) :
    JudgedAt k s (s.changeShutter k r) := by
  rw [JudgedAt, shutter_of_gear (changeShutter_gear s k r)]
  exact withShutter_judgedAt h

theorem closeAtLimit_judgedAt : JudgedAt k s (s.closeAtLimit k) := by
  refine (judgedAt_composes k).trans ?_
    (judgedAt_of_shutter (shutter_of_gear ((raiseWear_only _ _).parts .gear (by decide)) k))
  exact changeShutter_judgedAt ⟨rfl, nofun⟩

theorem thirdObstruction_judgedAt : JudgedAt k s (s.thirdObstruction k) := by
  have posted (t : Live) (n : Note) : JudgedAt k t (t.post n) := judgedAt_of_shutter rfl
  unfold Live.thirdObstruction
  dsimp only
  split
  · refine (judgedAt_composes k).trans ?_ (posted _ _)
    exact withShutter_judgedAt ⟨rfl, id⟩
  · refine (judgedAt_composes k).trans ?_ (posted _ _)
    exact changeShutter_judgedAt ⟨rfl, nofun⟩

theorem obstruct_judgedAt : JudgedAt k s (s.obstruct k) := by
  unfold Live.obstruct
  extract_lets r r' t
  have counted : JudgedAt k s t := (judgedAt_composes k).trans (withShutter_judgedAt (r := r') ⟨rfl, id⟩)
    (judgedAt_of_shutter (shutter_of_gear ((raiseWear_only _ _).parts .gear (by decide)) k))
  refine ChainRule.either ?_ ((judgedAt_composes k).trans counted thirdObstruction_judgedAt)
  exact (judgedAt_composes k).trans counted (changeShutter_judgedAt ⟨counted.cause.symm, nofun⟩)

theorem enterDescending_judgedAt {r : ShutterRecord} (cause : r.cause = (s.shutter k).cause) :
    JudgedAt k s (s.enterDescending k r) := by
  have entered : JudgedAt k s (s.changeShutter k { r with state := .descending }) :=
    changeShutter_judgedAt ⟨cause, nofun⟩
  exact (judgedAt_composes k).trans entered (ChainRule.either closeAtLimit_judgedAt
    (ChainRule.either obstruct_judgedAt ((judgedAt_composes k).refl _)))

theorem leaveArmed_judgedAt (b : Bool) : JudgedAt k s (s.leaveArmed k b) := enterDescending_judgedAt rfl

theorem judge_judgedAt : JudgedAt k s (s.judge k) := by
  have posted (t : Live) (n : Note) : JudgedAt k t (t.post n) := judgedAt_of_shutter rfl
  unfold Live.judge
  split_ifs
  · exact leaveArmed_judgedAt false
  · exact (judgedAt_composes k).trans (posted s _) (leaveArmed_judgedAt true)
  · exact (judgedAt_composes k).refl s
  · refine (judgedAt_composes k).trans ?_ (posted _ _)
    exact withShutter_judgedAt ⟨rfl, id⟩
  · exact (judgedAt_composes k).refl s

end

/-! ## A shutter taken by a FIRE close request (R100 to R102) -/

/-- A shutter that closes, or has closed, for a fire: of cause FIRE, or CLOSED. -/
def FireTaken (k : Nat) (s : Live) : Prop := (s.shutter k).cause = .fire ∨ (s.shutter k).state = .closed

/-- A shutter once taken stays so, and does not begin to jam. -/
structure TakenStands (k : Nat) (s t : Live) : Prop where
  taken : FireTaken k s → FireTaken k t
  unjammed : (t.shutter k).state = .jammed → (s.shutter k).state = .jammed

theorem takenStands_of_shutter {k : Nat} {s t : Live} (h : t.shutter k = s.shutter k) : TakenStands k s t := by
  refine ⟨?_, by rw [h]; exact id⟩
  rw [FireTaken, FireTaken, h]
  exact id

theorem takenStands_chainRule (k : Nat) : ChainRule (TakenStands k) where
  same _ _ hg := takenStands_of_shutter (by simp only [Live.shutter, hg])
  judge s q := by
    by_cases own : q = k
    · subst own
      refine ⟨fun taken => ?_, judge_judgedAt.unjammed⟩
      rcases taken with fire | closed
      · exact .inl (judge_judgedAt.cause.trans fire)
      · rw [Live.judge, if_neg (fun both => by rw [closed] at both; cases both.1)]
        exact .inr closed
    · exact takenStands_of_shutter (shutter_judge_other own s)
  trans h g := ⟨g.taken ∘ h.taken, h.unjammed ∘ g.unjammed⟩

theorem closeRequest_other_takenStands {j k : Nat} (h : j ≠ k) (s : Live) (c : CloseCause) :
    TakenStands k s (s.closeRequest j c) := by
  have rule := takenStands_chainRule k
  have change (s : Live) (r : ShutterRecord) : TakenStands k s (s.changeShutter j r) :=
    takenStands_of_shutter (shutter_changeShutter_other s r h)
  refine closeRequest_keeps ⟨rule.refl, rule.trans⟩ (fun s r b => ?_) change (fun s => rule.judge s j) s c
  exact ChainRule.either (rule.trans (change s r) (rule.sillLeavesOpen _ j b)) (change s r)

/-- A FIRE close request takes its shutter, unless it stands JAMMED with both limits asserted (R99, R100). -/
theorem closeRequest_fireTaken {s : Live} {k : Nat} (hk : k < 32) :
    s.limitsJammed k = true ∨ FireTaken k (s.closeRequest k .fire) := by
  have rule := takenStands_chainRule k
  have armed : FireTaken k (s.arm k .fire) := by
    have changed : FireTaken k (s.changeShutter k (armedRecord .fire)) := by
      rw [FireTaken, shutter_changeShutter_same _ _ hk]
      exact .inl rfl
    have moved : FireTaken k (s.moveShutter k (armedRecord .fire) true) := by
      unfold Live.moveShutter
      dsimp only
      split
      · exact (rule.sillLeavesOpen _ k true).taken changed
      · exact changed
    unfold Live.arm
    dsimp only
    split
    · exact (rule.judge _ k).taken moved
    · exact moved
  have closing : FireTaken k (if CloseCause.fire = .fire ∧ (s.shutter k).cause ≠ .fire then s.upgrade k else s) := by
    split
    · rw [FireTaken, Live.upgrade, shutter_changeShutter_same _ _ hk]
      exact .inl rfl
    · next not_ =>
      by_contra other
      exact not_ ⟨rfl, fun fire => other (.inl fire)⟩
  unfold Live.closeRequest
  split
  · next jammed => exact .inl jammed
  · unfold Live.closeByState
    split
    case h_10 closed => exact .inr (.inr closed)
    case h_6 | h_7 | h_8 | h_9 => exact .inr closing
    all_goals exact .inr armed

theorem contribution_nodup (p : Plan) (z : Nat) : (p.contribution z).Nodup := List.nodup_range.filter _

/-- R88: every shutter of the contribution issued is taken, unless it stands JAMMED with both limits asserted. -/
theorem issue_fireTaken {s : Live} {z k : Nat} (mem : k ∈ s.plan.contribution z) :
    FireTaken k (s.issue z) ∨ s.limitsJammed k = true := by
  have hk : k < 32 := (mem_contribution.mp mem).1
  have closed : FireTaken k ((s.plan.contribution z).foldl (fun s k => s.closeRequest k .fire) s) ∨
      s.limitsJammed k = true := by
    refine foldl_establishes (P := fun t => FireTaken k t ∨ s.limitsJammed k = true)
      (Q := fun t => t.limitsJammed k = true → s.limitsJammed k = true) (fun t j other jams jammed => ?_) (fun t jams => ?_)
      (fun t j other taken => taken.imp_left (closeRequest_other_takenStands other t .fire).taken)
      (contribution_nodup _ z) mem id
    · refine jams ?_
      have stands := closeRequest_stands t j .fire
      simp only [Live.limitsJammed, Live.bothLimits, stands.up k, stands.down k, Bool.and_eq_true, beq_iff_eq] at jammed ⊢
      exact ⟨(closeRequest_other_takenStands other t .fire).unjammed jammed.1, jammed.2⟩
    · exact (closeRequest_fireTaken hk).symm.imp_right jams
  refine closed.imp_left fun taken => ?_
  unfold Live.issue
  dsimp only
  split
  · exact ((takenStands_chainRule k).fireStop _).taken taken
  · exact taken

end Sys2Proof.Machine

/-! # A circuit enters the demand

Each circuit that enters has its fire call: a full list gives up its last record, which is below level 7, for at most 16 of
the 32 records are fire calls (R121, R123, R131). -/

namespace Sys2Proof.Machine

-- one thread: a proof that waits for the theorems before it would hold a thread of its own
set_option Elab.async false

/-! ## Room for a fire call (R123) -/

/-- The list that a new record joins: with room, in order, and with every fire call that stood. -/
structure RoomMade (s t : Live) : Prop where
  room : t.calls.length < 32
  order : CallOrder t.calls
  fires : ∀ c, (s.call (.fire c)).isSome = true → (t.call (.fire c)).isSome = true
  absent : ∀ key, s.call key = none → t.call key = none

/-- No level of a list in order is below the last. -/
theorem CallOrder.last_le {l : List CallRecord} (h : CallOrder l) {last : CallRecord} (ends : l.getLast? = some last) :
    ∀ r ∈ l, last.level ≤ r.level := by
  obtain ⟨init, rfl⟩ := List.getLast?_eq_some_iff.mp ends
  intro r mem
  rcases List.mem_append.mp mem with earlier | own
  · exact (List.pairwise_append.mp h.sorted).2.2 r earlier last (List.mem_singleton_self _)
  · rw [List.mem_singleton.mp own]

/-- The last record of a full list is no fire call. -/
theorem CallOrder.last_below {l : List CallRecord} (h : CallOrder l) (full : l.length = 32) {last : CallRecord}
    (ends : l.getLast? = some last) : last.level < 7 := by
  by_contra top
  have fires : l.map CallRecord.key ⊆ (List.range 16).map CallKey.fire := by
    intro key mem
    obtain ⟨r, inList, rfl⟩ := List.mem_map.mp mem
    have level : Config.fireLevel ≤ r.level := (Nat.le_of_not_lt top).trans (h.last_le ends r inList)
    obtain ⟨c, fire⟩ := h.top r inList level
    exact List.mem_map.mpr ⟨c, List.mem_range.mpr (h.fire r inList c fire).1, fire.symm⟩
  have few := (h.distinct.subperm fires).length_le
  simp [full] at few

/-- The record of a full list that a fire call displaces, with its notice (R123). -/
def Live.displaced (s : Live) (last : CallRecord) : Live :=
  (s.takeOut last).post
    (.callDropped last.key last.number last.circuit last.level (some (s.placeOf last.key)) .displaced)

section
variable {s : Live} {r : CallRecord} (order : CallOrder s.calls)
include order

theorem makeRoom_displaces (level : r.level = 7) (full : s.calls.length = 32) {last : CallRecord}
    (ends : s.calls.getLast? = some last) : s.makeRoom r = (s.displaced last, true) := by
  have below := order.last_below full ends
  unfold Live.makeRoom
  rw [if_neg (by rw [full]; decide), ends]
  simp only [level, below, if_true]
  rfl

theorem displaced_makes {last : CallRecord} (ends : s.calls.getLast? = some last) (below : last.level < 7) :
    RoomMade s (s.displaced last) where
  room := by
    have shorter : (dropKey last.key s.calls).length < s.calls.length :=
      List.length_filter_lt_length_iff_exists.mpr ⟨last, List.mem_of_getLast? ends, by simp [hasKey]⟩
    have length := (takeOut_callsRung s last).length
    exact (length.trans_lt shorter).trans_le order.room
  order := order.takeOut last
  fires c standing := by
    have other : CallKey.fire c ≠ last.key := by
      intro fire
      have := (order.fire last (List.mem_of_getLast? ends) c fire.symm).2.2.1
      simp only [Config.fireLevel] at this
      omega
    exact (takeOut_face s other).isSome.trans standing
  absent key none_ := takeOut_call_none none_ last

/-- A record of level 7 finds room. -/
theorem makeRoom_fire (level : r.level = 7) : ∃ v, s.makeRoom r = (v, true) ∧ RoomMade s v := by
  by_cases room : s.calls.length < 32
  · exact ⟨s, if_pos room, room, order, fun _ => id, fun _ => id⟩
  · have full : s.calls.length = 32 := Nat.le_antisymm order.room (Nat.le_of_not_lt room)
    obtain ⟨last, ends⟩ : ∃ last, s.calls.getLast? = some last :=
      Option.isSome_iff_exists.mp (by rw [List.getLast?_isSome]; exact List.ne_nil_of_length_pos (by omega))
    exact ⟨_, makeRoom_displaces order level full ends, displaced_makes order ends (order.last_below full ends)⟩

end

/-! ## A fire call joins (R121, R131) -/

/-- A record after it has joined a list with room for it, in its place and with its notice. -/
def Live.joined (s : Live) (r : CallRecord) : Live :=
  let t := { s with calls := insertCall r s.calls }
  (indicatorOn (t.post (.callEntered r.key r.number r.circuit r.level (t.placeOf r.key) false)) r.key).tellCircuit r

theorem join_made {s v : Live} {r : CallRecord} (made : s.makeRoom r = (v, true)) : (s.join r).1 = v.joined r := by
  simp only [Live.join, made, if_true]
  rfl

theorem joined_callsRung (s : Live) (r : CallRecord) :
    CallsRung { s with calls := insertCall r s.calls } (s.joined r) := by
  unfold Live.joined
  extract_lets t
  refine callsRung_composes.trans (callsRung_of_calls ?_) (tellCircuit_callsRung _ r)
  rw [indicatorOn_calls, Live.post_calls]

theorem joined_keeps (s : Live) (r : CallRecord) : Keeps callParts s (s.joined r) :=
  keeps_trans (keeps_trans (Keeps.next (calls_only s _) (post_only _ _)) (indicatorOn_only _ _)) (tellCircuit_only _ r)

theorem joined_other (s : Live) {r : CallRecord} {key : CallKey} (other : r.key ≠ key) : FaceStands key s (s.joined r) := by
  have inserted : FaceStands key s { s with calls := insertCall r s.calls } :=
    congrArg (Option.map callFace) (find_insertCall_other other s.calls)
  exact (faceStands_composes key).trans inserted ((joined_callsRung s r).faceStands key)

theorem joined_own {s : Live} {r : CallRecord} (fresh : s.call r.key = none) : ((s.joined r).call r.key).isSome = true := by
  have inserted : Live.call { s with calls := insertCall r s.calls } r.key = some r := find_insertCall r s.calls fresh
  rw [((joined_callsRung s r).faceStands r.key).isSome, inserted]
  rfl

/-- The fire call of a circuit as it joins (R131). -/
def Live.newFireCall (s : Live) (c : Nat) : CallRecord := newCall s (.fire c) c Config.fireLevel .fire false 0 none

theorem fireCallEnter_joins {s : Live} {c : Nat} (fresh : s.call (.fire c) = none) :
    s.fireCallEnter c = (s.join (s.newFireCall c)).1 := by
  unfold Live.fireCallEnter
  rw [fresh]
  rfl

theorem fireCallEnter_standing {s : Live} {c : Nat} (standing : (s.call (.fire c)).isSome = true) :
    s.fireCallEnter c = s := by
  obtain ⟨r, found⟩ := Option.isSome_iff_exists.mp standing
  unfold Live.fireCallEnter
  rw [found]

/-- The order of the list and the fire calls in it survive. -/
structure FiresStand (s t : Live) : Prop where
  order : CallOrder s.calls → CallOrder t.calls
  fires : CallOrder s.calls → ∀ c, (s.call (.fire c)).isSome = true → (t.call (.fire c)).isSome = true

theorem firesStand_composes : Composes FiresStand where
  refl _ := ⟨id, fun _ _ => id⟩
  trans h g := ⟨g.order ∘ h.order, fun order c standing => g.fires (h.order order) c (h.fires order c standing)⟩

theorem firesStand_of_calls {s t : Live} (h : t.calls = s.calls) : FiresStand s t := by
  refine ⟨by rw [h]; exact id, fun _ c => ?_⟩
  rw [call_of_calls h]
  exact id

/-- R131: a circuit that enters has its fire call, and none is lost for it. -/
theorem fireCallEnter_enters {s : Live} (order : CallOrder s.calls) {c : Nat} (bound : c < 16) :
    CallOrder (s.fireCallEnter c).calls ∧
    ∀ d, d = c ∨ (s.call (.fire d)).isSome = true → ((s.fireCallEnter c).call (.fire d)).isSome = true := by
  by_cases standing : (s.call (.fire c)).isSome = true
  · rw [fireCallEnter_standing standing]
    exact ⟨order, fun d either => either.elim (fun own => own ▸ standing) id⟩
  · have fresh : s.call (.fire c) = none := by simpa using standing
    obtain ⟨v, made, room⟩ := makeRoom_fire (r := s.newFireCall c) order rfl
    rw [fireCallEnter_joins fresh, join_made made]
    refine ⟨(room.order.enter room.room (r := s.newFireCall c) rfl bound (room.absent _ fresh)).rung
      (s := { v with calls := insertCall (s.newFireCall c) v.calls }) (joined_callsRung v _), fun d either => ?_⟩
    by_cases own : d = c
    · subst own
      exact joined_own (r := s.newFireCall d) (room.absent _ fresh)
    · have stood := room.fires d (either.resolve_left own)
      have other : (s.newFireCall c).key ≠ .fire d := by simpa [Live.newFireCall, newCall] using Ne.symm own
      exact (joined_other v other).isSome.trans stood

theorem enterAll_enters {l : List Nat} (bounds : ∀ c ∈ l, c < 16) {s : Live} (order : CallOrder s.calls) :
    CallOrder (l.foldl Live.fireCallEnter s).calls ∧
    ∀ d, d ∈ l ∨ (s.call (.fire d)).isSome = true →
      ((l.foldl Live.fireCallEnter s).call (.fire d)).isSome = true := by
  induction l generalizing s with
  | nil => exact ⟨order, fun d either => either.resolve_left List.not_mem_nil⟩
  | cons c rest ih =>
    obtain ⟨entered, stands⟩ := fireCallEnter_enters order (bounds c List.mem_cons_self)
    obtain ⟨all, fires⟩ := ih (fun d mem => bounds d (List.mem_cons_of_mem _ mem)) entered
    refine ⟨all, fun d either => fires d ?_⟩
    rcases either with mem | standing
    · exact (List.mem_cons.mp mem).symm.imp_right fun own => stands d (.inl own)
    · exact .inr (stands d (.inr standing))

/-! ## The record displaced (R123) -/

/-- The last record of a list of distinct keys stands at its end. -/
theorem CallOrder.placeOf_last {s : Live} (h : CallOrder s.calls) {last : CallRecord}
    (ends : s.calls.getLast? = some last) : s.placeOf last.key + 1 = s.calls.length := by
  obtain ⟨init, calls⟩ := List.getLast?_eq_some_iff.mp ends
  have distinct := h.distinct
  rw [calls, List.map_append, List.nodup_append] at distinct
  have earlier : init.findIdx (hasKey last.key) = init.length := by
    refine List.findIdx_eq_length.mpr fun x mem => ?_
    have := distinct.2.2 x.key (List.mem_map_of_mem mem) last.key (by simp)
    simpa [hasKey] using this
  rw [Live.placeOf, calls, List.findIdx_append, earlier]
  simp [hasKey]

/-- R123: a fire call that finds the list full displaces its last record. -/
theorem fireCallEnter_displaces {s : Live} (order : CallOrder s.calls) (full : s.calls.length = 32) {c : Nat}
    (fresh : s.call (.fire c) = none) {last : CallRecord} (ends : s.calls.getLast? = some last) :
    (s.fireCallEnter c).call last.key = none ∧
    (s.fireCallEnter c).offered
      (.callDropped last.key last.number last.circuit last.level (some 31) .displaced) := by
  have place : s.placeOf last.key = 31 := by
    have := order.placeOf_last ends
    omega
  have other : CallKey.fire c ≠ last.key := by
    intro fire
    exact absurd (List.find?_eq_none.mp fresh last (List.mem_of_getLast? ends)) (by simp [hasKey, fire])
  rw [fireCallEnter_joins fresh, join_made (makeRoom_displaces (r := s.newFireCall c) order rfl full ends)]
  constructor
  · have gone : (s.displaced last).call last.key = none := takeOut_call s last
    have stands := joined_other (s.displaced last) (r := s.newFireCall c) other
    rw [FaceStands, gone] at stands
    simpa using stands
  · refine (joined_keeps _ _).offered ?_
    rw [Live.displaced, place]
    exact post_offered _ _

/-! ## The programme's calls withdrawn (R132, R182) -/

/-- One record of the programme withdrawn. -/
def Live.withdrawCall (s : Live) (r : CallRecord) : Live :=
  match s.call r.key with
  | some x => s.removeCall x .programme
  | none => s

theorem withdrawCalls_eq (s : Live) : s.withdrawCalls = (s.calls.filter isProgramme).foldl Live.withdrawCall s := rfl

theorem withdrawCall_firesStand (s : Live) {r : CallRecord} (programme : isProgramme r = true) :
    FiresStand s (s.withdrawCall r) := by
  unfold Live.withdrawCall
  split
  · next x found =>
    refine ⟨fun order => order.takeOut x, fun _ c standing => ?_⟩
    have other : CallKey.fire c ≠ x.key := by
      rw [call_key found]
      intro fire
      rw [isProgramme, ← fire] at programme
      cases programme
    exact (takeOut_face s other).isSome.trans standing
  · exact firesStand_composes.refl s

theorem withdrawCalls_firesStand (s : Live) : FiresStand s s.withdrawCalls := by
  have all (l : List CallRecord) (programme : ∀ r ∈ l, isProgramme r = true) (t : Live) :
      FiresStand t (l.foldl Live.withdrawCall t) := by
    induction l generalizing t with
    | nil => exact firesStand_composes.refl t
    | cons r rest ih =>
      exact firesStand_composes.trans (withdrawCall_firesStand t (programme r List.mem_cons_self))
        (ih (fun x mem => programme x (List.mem_cons_of_mem _ mem)) _)
  exact all _ (fun r mem => (List.mem_filter.mp mem).2) s

/-- A suspension leaves the fire calls and the order of the list (R182). -/
theorem suspendClosing_firesStand (s : Live) : FiresStand s s.suspendClosing := by
  unfold Live.suspendClosing
  split
  · have withdrawn := withdrawCalls_firesStand (s.withClosing { s.closing with state := .suspended })
    refine firesStand_composes.trans (firesStand_composes.trans ?_ withdrawn) ?_
    · exact firesStand_of_calls rfl
    · exact firesStand_of_calls (((post_only _ _).parts .calls (by decide)).trans
        ((withdrawSpeech_only _).parts .calls (by decide)))
  all_goals exact firesStand_composes.refl s

/-- A suspension that finds no programme call leaves the list. -/
theorem suspendClosing_calls {s : Live} (none_ : ∀ r ∈ s.calls, isProgramme r = false) :
    s.suspendClosing.calls = s.calls := by
  unfold Live.suspendClosing
  split
  · have standing : (s.withClosing { s.closing with state := .suspended }).withdrawCalls =
        s.withClosing { s.closing with state := .suspended } := by
      have empty : s.calls.filter isProgramme = [] := List.filter_eq_nil_iff.mpr fun r mem => by simp [none_ r mem]
      rw [withdrawCalls_eq, show (s.withClosing { s.closing with state := .suspended }).calls = s.calls from rfl, empty]
      rfl
    rw [standing]
    exact ((post_only _ _).parts .calls (by decide)).trans ((withdrawSpeech_only _).parts .calls (by decide))
  all_goals rfl

end Sys2Proof.Machine

/-! # O37: a change of a detector line

A latch and a re-sounding hand the alarm on alike (`AlarmHanded`); they differ in the zone's record, in what is posted, and in
the programme, which only a latch suspends (R79, R80, R88 to R92). -/

namespace Sys2Proof.Machine

-- one thread: a proof that waits for the theorems before it would hold a thread of its own
set_option Elab.async false

/-! ## The demand that grows (R87) -/

/-- No zone falls silent: no circuit leaves the demand. -/
theorem setZone_sounds_on {s : Live} {z : Nat} (hz : z < 16) {r : ZoneRecord} (alarm : r.state = .alarm)
    (sounds : r.silenced = false) {y : Nat} (heard : s.sounds y = true) : (s.withZone z r).sounds y = true := by
  by_cases own : y = z
  · subst own
    rw [sounds_iff, Live.inAlarm, s.zone_withZone_same y r hz, alarm]
    exact ⟨rfl, sounds⟩
  · have zone : (s.withZone z r).zone y = s.zone y := Bank.read_put_other _ _ _ _ _ (Ne.symm own)
    rw [sounds_iff, Live.inAlarm, zone]
    exact sounds_iff.mp heard

/-- With no circuit leaving, the circuits that entered have their fire calls (R131). -/
theorem handCircuits_enters {s : Live} {before : List Nat} (grows : ∀ c ∈ before, c ∈ s.demand.circuits) :
    s.handCircuits before = (s.demand.circuits.filter fun c => !before.contains c).foldl Live.fireCallEnter s := by
  have leaving : (before.filter fun c => !s.demand.circuits.contains c) = [] :=
    List.filter_eq_nil_iff.mpr fun c mem => by simp [grows c mem]
  unfold Live.handCircuits
  dsimp only
  rw [leaving]
  rfl

/-! ## The alarm handed on (R88 to R92) -/

/-- What handing an alarm of zone `z` on makes of the part from `s` to `t`. -/
structure AlarmHanded (z : Nat) (s t : Live) : Prop where
  fireSet : t.gear.fireSet = t.demand.shutters
  shutters : ∀ k ∈ s.plan.contribution z, FireTaken k t ∨ s.limitsJammed k = true
  held : s.plan.callsFireStop z = true → s.chain.state = .parked → t.chain.state = .held .fire
  entered : CallOrder s.calls → ∀ c ∈ t.demand.circuits, c ∉ s.demand.circuits ∨ (s.call (.fire c)).isSome = true →
    ∃ r, t.call (.fire c) = some r ∧ r.circuit = c ∧ r.level = 7
  displaced : CallOrder s.calls → ∀ c last, s.calls.length = 32 → (∀ r ∈ s.calls, isProgramme r = false) →
    s.call (.fire c) = none → (t.demand.circuits.filter fun x => !s.demand.circuits.contains x) = [c] →
    s.calls.getLast? = some last → t.call last.key = none ∧
      t.offered (.callDropped last.key last.number last.circuit last.level (some 31) .displaced)
  entry : t.demand.channels ≠ s.demand.channels ∨ t.demand.context ≠ s.demand.context →
    t.speech.evac.channels = t.demand.channels ∧ t.speech.evac.context = t.demand.context

/-- What a suspension that may be due touches. -/
abbrev suspendParts : List Part := [.closing, .calls, .circuits, .speech, .image, .loop, .portC, .portF]

theorem suspendClosing_keeps (s : Live) : Keeps suspendParts s s.suspendClosing := by
  by_cases running : s.closing.state = .running
  · exact (suspendClosing_suspends running).keeps
  · rw [suspendClosing_stands_unless running]
    exact keeps_refl _ s

theorem issueAlarm_eq (s : Live) (z : Nat) : s.issueAlarm z = s.fireSetHanded.issue z := rfl

section
variable (s : Live) (z : Nat) (entered : Bool)

theorem alarmIssued_keeps : Keeps suspendParts (s.issueAlarm z) (s.alarmIssued z entered) :=
  keeps_ite (suspendClosing_keeps _) (keeps_refl _ _)

theorem alarmIssued_firesStand : FiresStand s (s.alarmIssued z entered) := by
  have issued : FiresStand s (s.issueAlarm z) := firesStand_of_calls ((issueAlarm_only s z).parts .calls (by decide))
  refine firesStand_composes.trans issued ?_
  exact ChainRule.either (suspendClosing_firesStand _) (firesStand_composes.refl _)

theorem alarmIssued_calls (none_ : ∀ r ∈ s.calls, isProgramme r = false) : (s.alarmIssued z entered).calls = s.calls := by
  have issued : (s.issueAlarm z).calls = s.calls := (issueAlarm_only s z).parts .calls (by decide)
  unfold Live.alarmIssued
  split
  · rw [suspendClosing_calls (by rwa [issued]), issued]
  · exact issued

theorem alarmIssued_demand : (s.alarmIssued z entered).demand = s.demand :=
  (demand_of_keeps (alarmIssued_keeps s z entered)).trans (demand_of_keeps (issueAlarm_only s z))

theorem alarmIssued_fireSet : (s.alarmIssued z entered).gear.fireSet = s.demand.shutters := by
  rw [(alarmIssued_keeps s z entered).parts .gear (by decide)]
  exact issue_fireSet s.fireSetHanded z

theorem alarmIssued_fireTaken {k : Nat} (mem : k ∈ s.plan.contribution z) :
    FireTaken k (s.alarmIssued z entered) ∨ s.limitsJammed k = true := by
  rw [FireTaken, shutter_of_gear ((alarmIssued_keeps s z entered).parts .gear (by decide))]
  exact issue_fireTaken (s := s.fireSetHanded) mem

/-- R61: a parked chain is held for the fire. -/
theorem alarmIssued_held (stop : s.plan.callsFireStop z = true) (parked : s.chain.state = .parked) :
    (s.alarmIssued z entered).chain.state = .held .fire := by
  have rest : s.fireSetHanded.chain.state.atRest = true := by
    rw [show s.fireSetHanded.chain = s.chain from rfl, parked]
    rfl
  rw [(alarmIssued_keeps s z entered).parts .chain (by decide), issueAlarm_eq, (issue_atRest rest z).1]
  exact if_pos stop

end

/-- R88 to R91: an alarm handed on after one zone has been set to sound. -/
theorem handAlarm_handed {s u : Live} (changed : Keeps zoneSetParts s u)
    (grows : ∀ c ∈ s.demand.circuits, c ∈ u.demand.circuits) (z : Nat) (entered : Bool) :
    AlarmHanded z s (u.handAlarm s.demand z entered) := by
  have plan : u.plan = s.plan := plan_of_store (changed.parts .store (by decide))
  have calls : u.calls = s.calls := changed.parts .calls (by decide)
  have call := call_of_calls calls
  have chain : u.chain = s.chain := changed.parts .chain (by decide)
  have jammed k : u.limitsJammed k = s.limitsJammed k := by
    simp only [Live.limitsJammed, Live.bothLimits, Live.input, Live.shutter, show u.gear = s.gear from
      changed.parts .gear (by decide), show u.loop = s.loop from changed.parts .loop (by decide)]
  have demandC := alarmIssued_demand u z entered
  have fireSet := alarmIssued_fireSet u z entered
  have taken {k : Nat} := alarmIssued_fireTaken u z entered (k := k)
  have held := alarmIssued_held u z entered
  have fires := alarmIssued_firesStand u z entered
  have listed := alarmIssued_calls u z entered
  rw [handAlarm_eq]
  generalize u.alarmIssued z entered = c at demandC fireSet taken held fires listed ⊢
  have enters := handCircuits_enters (s := c) (before := s.demand.circuits) (by rwa [demandC])
  have circuits := handCircuits_only c s.demand.circuits
  generalize c.handCircuits s.demand.circuits = x at circuits enters ⊢
  have spoken := handSpeech_only x s.demand
  have demandX := (demand_of_keeps circuits).trans demandC
  have demandT := (demand_of_keeps spoken).trans demandX
  have callT := call_of_calls (spoken.parts .calls (by decide))
  have gearT : (x.handSpeech s.demand).gear = c.gear :=
    (spoken.parts .gear (by decide)).trans (circuits.parts .gear (by decide))
  have chainT : (x.handSpeech s.demand).chain = c.chain :=
    (spoken.parts .chain (by decide)).trans (circuits.parts .chain (by decide))
  refine ⟨?_, fun k mem => ?_, fun stop parked => ?_, fun order d now either => ?_, ?_, fun differs => ?_⟩
  · rw [demandT, gearT, fireSet]
  · rw [FireTaken, shutter_of_gear gearT, ← jammed]
    exact taken (plan ▸ mem)
  · rw [chainT]
    exact held (plan ▸ stop) (chain ▸ parked)
  · obtain ⟨orderT, stands⟩ := enterAll_enters (l := c.demand.circuits.filter fun d => !s.demand.circuits.contains d)
      (fun d mem => demand_circuits_lt c (List.mem_of_mem_filter mem)) (fires.order (calls ▸ order))
    rw [← enters] at orderT stands
    have called : (x.call (.fire d)).isSome = true := by
      refine stands d ?_
      by_cases was : d ∈ s.demand.circuits
      · exact .inr (fires.fires (calls ▸ order) d (call (.fire d) ▸ either.resolve_left (not_not_intro was)))
      · rw [demandT, ← demandC] at now
        exact .inl (List.mem_filter.mpr ⟨now, by simp [was]⟩)
    obtain ⟨r, found⟩ := Option.isSome_iff_exists.mp called
    obtain ⟨-, circuit, level, -⟩ : r.key = .fire d ∧ r.circuit = d ∧ r.level = 7 ∧ r.pattern = .fire := by
      simpa [callFace] using orderT.face found
    exact ⟨r, (callT _).trans found, circuit, level⟩
  · intro order d last full none_ fresh single ends
    have callsC : c.calls = s.calls := (listed (calls ▸ none_)).trans calls
    rw [demandT, ← demandC] at single
    rw [single] at enters
    have dropped := fireCallEnter_displaces (s := c) (callsC ▸ order) (callsC ▸ full)
      ((call_of_calls callsC _).trans fresh) (callsC ▸ ends)
    rw [callT, show x = c.fireCallEnter d from enters]
    rw [show x = c.fireCallEnter d from enters] at spoken
    exact ⟨dropped.1, spoken.offered dropped.2⟩
  · rw [demandT] at differs ⊢
    rw [handSpeech_changed (by rwa [demandX]), demandX]
    exact evacDemand_set x _ _

/-! ## The zone that takes the change (R77 to R80) -/

theorem zoneOf_lt {p : Plan} {d z : Nat} (lists : p.zoneOf d = some z) : z < 16 :=
  List.mem_range.mp (List.mem_of_find?_eq_some lists)

section
variable {s : Live} {z : Nat} (hz : z < 16) (d : Nat)

/-- The zone that sounds again, with its notices (R80). -/
def Live.soundAgain (s : Live) (z d : Nat) : Live :=
  (s.post (.zoneAlarm z d)).setZone z { s.zone z with silenced := false }

theorem resound_silenced (silenced : (s.zone z).silenced = true) :
    s.resound z d = (s.soundAgain z d).handAlarm s.demand z false := by
  unfold Live.resound
  exact if_pos silenced

theorem resound_sounding (sounding : (s.zone z).silenced = false) : s.resound z d = s.post (.zoneAlarm z d) := by
  unfold Live.resound
  exact if_neg (by rw [show (s.post (.zoneAlarm z d)).zone z = s.zone z from rfl, sounding]; nofun)

theorem enterAlarm_keeps : Keeps zoneSetParts s (s.enterAlarm z d) :=
  Keeps.next (Keeps.next (keeps_of (t := s.withZone z (s.latchedZone z d)) (by intro q hq; cases q <;> simp_all [samePart])
    rfl rfl) (post_only _ _)) (post_only _ _)

include hz

theorem enterAlarm_taken : ZoneTaken z (s.latchedZone z d) s (s.enterAlarm z d) :=
  ⟨Live.zone_withZone_same _ _ _ hz, fun _ other => Bank.read_put_other _ _ _ _ _ (Ne.symm other), post_offered _ _⟩

theorem latch_taken : ZoneTaken z (s.latchedZone z d) s (s.latch z d) := by
  rw [latch_eq]
  exact (enterAlarm_taken hz d).next (handAlarm_only _ _ z true) (handAlarm_zones _ _ z true)

theorem latch_handed : AlarmHanded z s (s.latch z d) := by
  rw [latch_eq]
  refine handAlarm_handed (enterAlarm_keeps d) (fun c => ?_) z true
  exact demand_circuits_of_sounds (s := s.enterAlarm z d) (t := s) rfl fun _ => setZone_sounds_on hz rfl rfl

theorem soundAgain_taken : ZoneTaken z { s.zone z with silenced := false } s (s.soundAgain z d) :=
  have set_ := setZone_taken (s.post (.zoneAlarm z d)) hz { s.zone z with silenced := false }
  ⟨set_.own, set_.others, set_.noted⟩

theorem resound_taken (silenced : (s.zone z).silenced = true) :
    ZoneTaken z { s.zone z with silenced := false } s (s.resound z d) := by
  rw [resound_silenced d silenced]
  exact (soundAgain_taken hz d).next (handAlarm_only _ _ z false) (handAlarm_zones _ _ z false)

omit hz in
theorem resound_offered (s : Live) (z d : Nat) : (s.resound z d).offered (.zoneAlarm z d) := by
  have posted := post_offered s (.zoneAlarm z d)
  unfold Live.resound
  dsimp only
  split
  · exact (handAlarm_only _ _ z false).offered ((setZone_keeps _ z _).offered posted)
  · exact posted

theorem resound_handed (alarm : (s.zone z).state = .alarm) (silenced : (s.zone z).silenced = true) :
    AlarmHanded z s (s.resound z d) := by
  rw [resound_silenced d silenced]
  refine handAlarm_handed (keeps_trans (keeps_widen (post_only s _)) (setZone_keeps _ z _)) (fun c => ?_) z false
  exact demand_circuits_of_sounds (s := s.soundAgain z d) (t := s) rfl
    fun _ => setZone_sounds_on (r := { s.zone z with silenced := false }) hz alarm rfl

end

section
variable {s : Live} {d z : Nat} (lists : s.plan.zoneOf d = some z)
include lists

theorem detectorChange_isolated (state : (s.zone z).state = .isolated) : s.detectorChange d = s := by
  simp only [Live.detectorChange, lists, state]

theorem detectorChange_latches (state : (s.zone z).state = .normal ∨ (s.zone z).state = .fault)
    (alarm : s.detector d = .alarm) : s.detectorChange d = s.latch z d := by
  rcases state with h | h <;> simp only [Live.detectorChange, lists, h, alarm, if_true]

theorem detectorChange_line (state : (s.zone z).state = .normal ∨ (s.zone z).state = .fault)
    (quiet : s.detector d ≠ .alarm) : s.detectorChange d = s.takeLine z := by
  rcases state with h | h <;> simp only [Live.detectorChange, lists, h, quiet, if_false]

theorem detectorChange_quiet (state : (s.zone z).state = .alarm) (quiet : s.detector d ≠ .alarm) :
    s.detectorChange d = s := by
  simp only [Live.detectorChange, lists, state, quiet, if_false]

theorem detectorChange_resounds (state : (s.zone z).state = .alarm) (alarm : s.detector d = .alarm) :
    s.detectorChange d = s.resound z d := by
  simp only [Live.detectorChange, lists, state, alarm, if_true]

end

/-! ## The settlement -/

/-- Settles O37. -/
theorem detectorChangeActs : Obligations.DetectorChangeActs := by
  intro s d t handed
  have only := (detectorChange_only s d).parts
  have meets {z : Nat} {r : ZoneRecord} (taken : ZoneTaken z r s t) (h : AlarmHanded z s t) : handed z :=
    ⟨taken.others, h.fireSet, fun k mem => or_assoc.mp (h.shutters k mem), h.held,
      fun order => ⟨h.entered order, h.displaced order⟩, h.entry, only⟩
  refine ⟨fun none_ => ?unlisted, fun z lists => ?listed⟩
  case unlisted => simp only [t, Live.detectorChange, none_]
  have hz := zoneOf_lt lists
  refine ⟨detectorChange_isolated lists, fun state => ⟨fun quiet => ?line, fun alarm => ?latch⟩,
    fun state => ⟨detectorChange_quiet lists state, fun alarm => ?resound⟩⟩
  case line =>
    have ran : t = s.takeLine z := detectorChange_line lists state quiet
    refine ⟨fun same => ran.trans (if_pos same.symm), fun differs => ?_⟩
    have set_ : t = s.setZone z { s.zone z with state := s.lineCondition z } := ran.trans (if_neg (Ne.symm differs))
    have taken : ZoneTaken z { s.zone z with state := s.lineCondition z } s t := set_ ▸ setZone_taken s hz _
    exact ⟨taken.own, taken.others, taken.own ▸ taken.noted, set_ ▸ (setZone_keeps s z _).parts⟩
  case latch =>
    have ran : t = s.latch z d := detectorChange_latches lists state alarm
    have taken : ZoneTaken z (s.latchedZone z d) s t := ran ▸ latch_taken hz d
    exact ⟨ran ▸ latch_offered s z d, taken.own ▸ taken.noted, taken.own, ran ▸ latch_stopped s z d,
      meets taken (ran ▸ latch_handed hz d)⟩
  case resound =>
    have ran : t = s.resound z d := detectorChange_resounds lists state alarm
    refine ⟨fun sounding => ran.trans (resound_sounding d sounding), fun silenced => ?_⟩
    have taken : ZoneTaken z { s.zone z with silenced := false } s t := ran ▸ resound_taken hz d silenced
    exact ⟨ran ▸ resound_offered s z d, taken.own ▸ taken.noted, taken.own,
      meets taken (ran ▸ resound_handed hz d state silenced)⟩

end Sys2Proof.Machine
